-- ==== Sys2Proof/Word.lean ====
section
/-! DEFINITION. The words of the CZ-740: what the spec holds as bits. -/

namespace Sys2Proof

/-- A byte of a telegram on the Zone Concord Line (03 section 3.3). -/
abbrev Byte := BitVec 8

/-- A 16-bit word of a sample frame (01 section 1.1). -/
abbrev Word16 := BitVec 16

/-- A reading of the 32-bit millisecond station clock (R1). -/
abbrev Stamp := BitVec 32

end Sys2Proof
end

