-- ==== Sys2Proof/Syntax.lean ====
section
/-! DEFINITION. The commands of the CZ-740: one constructor of Instr for each row of spec/opcode_table.json,
with what the outside supplies at that event as its operands (log 6). -/

namespace Sys2Proof

/-- The strap levels latched as reset ends (R177): station number, profile, restart group, concurrency limit. -/
structure Straps where
  stn : BitVec 5
  prf : BitVec 3
  rgp : BitVec 2
  kmx : BitVec 1
deriving DecidableEq, Repr

/-- One byte as the receiver takes it off LRX: its eight data bits, and whether its stop bit was recessive (R50). -/
structure RxByte where
  data : Byte
  stop : Bool
deriving DecidableEq, Repr

/-- What a dominant level on LRX brings with it: the bytes completed since the last command, and whether a start bit stands
after them, found dominant at its middle, whose byte is not complete yet (R50, R52). -/
structure LineTraffic where
  bytes : List RxByte
  startBit : Bool
deriving DecidableEq, Repr

/-- The LEVEL channels 0 to 3 (06, channel map). -/
inductive LevelId where
  | advise | lift | freeze | haltreq
deriving DecidableEq, Repr

/-- The HOLD channels 6 and 7. -/
inductive HoldId where
  | valve | coolstop
deriving DecidableEq, Repr

/-- The two power distribution units of a zone, behind inputs 0 and 1. -/
inductive Pdu where
  | a | b
deriving DecidableEq, Repr

/-- The PULSE channels: trip 4 and 5, close 8 and 9, each of one PDU. -/
inductive PulseId where
  | trip (p : Pdu)
  | close (p : Pdu)
deriving DecidableEq, Repr

/-- The commands. Each constructor's docstring names its row of the table. -/
inductive Instr where
  /-- RESET (R1): the strap levels latched and the level of SFS as reset ends. -/
  | reset (straps : Straps) (sfsHigh : Bool)
  /-- FRAME_END (R3): the levels of SDI at the rising edges of SCK since SFS rose, in order. -/
  | frameEnd (bits : List Bool)
  /-- FRAME_TIMER_EXPIRY (R10). -/
  | frameTimerExpiry
  /-- LINE_IDLE (R44). -/
  | lineIdle
  /-- TELEGRAM_DISCARDED (R50): the bytes that arrived. -/
  | telegramDiscarded (bytes : List RxByte)
  /-- TELEGRAM_TORN (R52). -/
  | telegramTorn
  /-- STATE_TELEGRAM (R75): SENDER and the twelve payload bytes. -/
  | stateTelegram (sender : Byte) (payload : Vector Byte 12)
  /-- BID_TELEGRAM (R78): SENDER and the payload byte. -/
  | bidTelegram (sender group : Byte)
  /-- CLAIM_TELEGRAM (R79): SENDER and the payload byte. -/
  | claimTelegram (sender group : Byte)
  /-- YIELD_TELEGRAM (R80): SENDER and the payload byte. -/
  | yieldTelegram (sender group : Byte)
  /-- DONE_TELEGRAM (R80): SENDER and the payload byte. -/
  | doneTelegram (sender group : Byte)
  /-- PEER_QUIET_EXPIRY (R81) of the record of a station number. -/
  | peerQuietExpiry (peer : BitVec 5)
  /-- PEER_LOST_EXPIRY (R82) of the record of a station number. -/
  | peerLostExpiry (peer : BitVec 5)
  /-- BID_PART_EXPIRY (R83) of the record of a station number. -/
  | bidPartExpiry (peer : BitVec 5)
  /-- CLAIM_PART_EXPIRY (R84) of the record of a station number. -/
  | claimPartExpiry (peer : BitVec 5)
  /-- TRANSMISSION_START (R62). -/
  | transmissionStart
  /-- COLLISION (R63). -/
  | collision
  /-- TRANSMISSION_COMPLETE (R64). -/
  | transmissionComplete
  /-- LINE_STUCK_EXPIRY (R66). -/
  | lineStuckExpiry
  /-- HEARTBEAT_EXPIRY (R68). -/
  | heartbeatExpiry
  /-- MUTE_EXPIRY (R70). -/
  | muteExpiry
  /-- RESUME (R187), a DIRECTIVE of kind 1: SENDER, target and argument bytes. -/
  | resume (sender target argument : Byte)
  /-- HOLD (R187), a DIRECTIVE of kind 2. -/
  | hold (sender target argument : Byte)
  /-- TRIP (R188), a DIRECTIVE of kind 3. -/
  | trip (sender target argument : Byte)
  /-- MUTE (R189), a DIRECTIVE of kind 4. -/
  | mute (sender target argument : Byte)
  /-- UNMUTE (R189), a DIRECTIVE of kind 5. -/
  | unmute (sender target argument : Byte)
  /-- RESEED (R190), a DIRECTIVE of kind 6. -/
  | reseed (sender target argument : Byte)
  /-- TEST (R190), a DIRECTIVE of kind 7. -/
  | test (sender target argument : Byte)
  /-- ACK_RESET (R191), a DIRECTIVE of kind 8. -/
  | ackReset (sender target argument : Byte)
  /-- CLEAR_COUNTS (R191), a DIRECTIVE of kind 9. -/
  | clearCounts (sender target argument : Byte)
  /-- GRACE_EXPIRY (R104). -/
  | graceExpiry
  /-- SOLO_DELAY_EXPIRY (R98). -/
  | soloDelayExpiry
  /-- STAND_DOWN_EXPIRY (R115). -/
  | standDownExpiry
  /-- TEST_TIMER_EXPIRY (R122) of a LEVEL channel. -/
  | testTimerExpiry (ch : LevelId)
  /-- PULL_IN_EXPIRY (R123) of a HOLD channel. -/
  | pullInExpiry (ch : HoldId)
  /-- HOLD_WINDOW_EXPIRY (R124) of a HOLD channel. -/
  | holdWindowExpiry (ch : HoldId)
  /-- PULSE_GAP_EXPIRY (R131). -/
  | pulseGapExpiry
  /-- PULSE_TIMER_EXPIRY (R133) of a PULSE channel. -/
  | pulseTimerExpiry (ch : PulseId)
  /-- PULSE_WINDOW_EXPIRY (R134) of a PULSE channel. -/
  | pulseWindowExpiry (ch : PulseId)
  /-- SCAN_TIMER_EXPIRY (R140). -/
  | scanTimerExpiry
  /-- SCAN_COMPLETION (R141): the 24 levels of CSD sampled, bit k - 1 of the operand being bit k of the frame. -/
  | scanCompletion (frame : BitVec 24)
  /-- QUIET_WAIT_EXPIRY (R154). -/
  | quietWaitExpiry
  /-- BID_WINDOW_EXPIRY (R160). -/
  | bidWindowExpiry
  /-- CONTEST_INTERVAL_EXPIRY (R163). -/
  | contestIntervalExpiry
  /-- STAGGER_EXPIRY (R164). -/
  | staggerExpiry
  /-- POWER_SETTLE_EXPIRY (R169). -/
  | powerSettleExpiry
  /-- RELEASE_WAIT_EXPIRY (R170). -/
  | releaseWaitExpiry
  /-- REJOIN_WINDOW_EXPIRY (R180). -/
  | rejoinWindowExpiry
  /-- LINE_BUSY (R44): a dominant level on LRX, and what has come with it. -/
  | lineBusy (traffic : LineTraffic)
deriving DecidableEq, Repr

end Sys2Proof
end

