-- ==== Sys2Proof/Decode.lean ====
section
/-! DEFINITION. The reading of the opcode table's bits. No row of the table gives bits (its "fields" are empty and it has no
pattern), so no word spells a command (log 22). -/

namespace Sys2Proof

/-- The command a word spells: none, for the table gives no row a bit. -/
def decodeTableWord (_nbits _w : Nat) : Option Instr := none

end Sys2Proof
end

