-- ==== Sys2Proof/Config.lean ====
section
/-! DEFINITION. What the part fixes once: the scale of its clock against the line, and the sizes of its tables.
The spec leaves no result undefined, so no free value stands here. -/

namespace Sys2Proof.Config

/-- Bit times of 4 us in one millisecond of the station clock (03 section 3: 250 kbit/s). -/
def bitTimesPerMs : Nat := 250

/-- Bit times in one byte on the line: start bit, eight data bits, stop bit (R43). -/
def bitTimesPerByte : Nat := 10

/-- Bit times in one slot, the unit of class gaps and of backoff (R61). -/
def bitTimesPerSlot : Nat := 32

/-- Station numbers on the line, 0 to 31 (R71). -/
def stations : Nat := 32

/-- Contact inputs of the scan chain (R140). -/
def contactInputs : Nat := 16

/-- Bits of the scan frame (07, section 7.1). -/
def scanBits : Nat := 24

end Sys2Proof.Config
end

