-- ==== Sys2Proof/Machine/State.lean ====
section
/-! DEFINITION. Everything the spec gives the station, as plain data, block by block, and the state after reset.
Each field cites the rule of spec/ that names it; INVENTORY.md lists them with their reset values. -/

namespace Sys2Proof.Machine

/-! ### Names and codes -/

/-- Detector states (02, section 2.1). -/
inductive Detector where
  | capture | calm | event | settling | blind
deriving DecidableEq, Repr

/-- Protective levels of the zone (05, introduction). -/
inductive Stage where
  | watch | alert | quiesce | isolate | safe
deriving DecidableEq, Repr

/-- Restart phases (08, introduction). -/
inductive Phase where
  | none | quietWait | awaitPermit | bidding | contest | energizing | backoff | rejoin
deriving DecidableEq, Repr

/-- Directive kinds 1 to 9 (10, section 10.2). -/
inductive DirectiveKind where
  | resume | hold | trip | mute | unmute | reseed | test | ackReset | clearCounts
deriving DecidableEq, Repr

/-- Directive results 1 to 4 (10, section 10.1). -/
inductive DirectiveResult where
  | accepted | wrongState | keyAbsent | badArgument
deriving DecidableEq, Repr

/-- The four restart telegrams (03, section 3.3). -/
inductive RestartKind where
  | bid | claim | yield | done
deriving DecidableEq, Repr

/-- Grades 0 to 7 (R34). -/
abbrev Grade := Fin 8

/-! ### Sample Port -/

/-- Sensor status (R16). -/
inductive SensorStatus where
  | start | tracking | lost
deriving DecidableEq, Repr

/-- The axis counts of one frame, 16-bit two's complement (01 section 1.1), with the clipped mark (R11). -/
structure Sample where
  x : Word16
  y : Word16
  z : Word16
  clipped : Bool
deriving DecidableEq, Repr

/-- The Sample Port (01, section 1.2). -/
structure Port where
  /-- Sensor status. -/
  status : SensorStatus
  /-- Word position counter, 0..5 (R2). -/
  wordPos : Nat
  /-- Bit counter, 0..15 (R2). -/
  bitCount : Nat
  /-- The word being shifted in (R2). -/
  shift : Word16
  /-- The words stored in their positions (R2). -/
  words : List Word16
  /-- Reset ended with SFS high: the frame then being clocked is absent (R2). -/
  awaitLow : Bool
  /-- Last sequence number. -/
  lastSeq : Option Byte
  /-- Last good sample. -/
  lastGood : Option Sample
  /-- Frame timer: the stamp it was started at, or stopped (R10). -/
  frameTimer : Option Stamp
  /-- Missing count, 0..5 (R9). -/
  missing : Nat
  /-- Identical count, 0..2048 (R12). -/
  identical : Nat
  /-- Recovery run, 0..200 (R14). -/
  recovery : Nat
deriving DecidableEq, Repr

/-! ### Motion Assessor -/

/-- Three per-axis integers: baselines scaled by 256 (R23). -/
structure Axes where
  x : Int
  y : Int
  z : Int
deriving DecidableEq, Repr

/-- The event record (R36). -/
structure EventRecord where
  number : Byte
  onset : Option Stamp
  peak : Nat
  grade : Grade
  clipped : Bool
deriving DecidableEq, Repr

/-- The Motion Assessor (02, section 2.1). -/
structure Assessor where
  detector : Detector
  /-- Baselines Bx, By, Bz, scaled by 256. -/
  base : Axes
  /-- Short average S, scaled by 16. -/
  short : Int
  /-- Long average L, scaled by 16. -/
  long : Int
  captureCount : Nat
  awaitingSeed : Bool
  /-- Qualifying run, in CALM and SETTLING. -/
  qualifying : Nat
  runOnset : Option Stamp
  runPeak : Nat
  runClipped : Bool
  /-- Releasing run, in EVENT. -/
  releasing : Nat
  /-- Settling count. -/
  settling : Nat
  event : EventRecord
deriving DecidableEq, Repr

/-! ### Line Unit -/

/-- Line condition (R44). -/
inductive LineCondition where
  | idle | busy
deriving DecidableEq, Repr

/-- Receiver state (R50). -/
inductive Receiver where
  | skip | ready | assemble
deriving DecidableEq, Repr

/-- What an entry of the transmit queue is: a STATE, urgent or routine, or a restart telegram (03, section 3.5). -/
inductive TxKind where
  | state (urgent : Bool)
  | restart (k : RestartKind)
deriving DecidableEq, Repr

/-- An entry of the transmit queue (03, section 3.2). -/
structure TxEntry where
  kind : TxKind
  /-- Entry collision count, 0..255 (R63). -/
  collisions : Nat
  /-- Re-send mark (R57). -/
  resend : Bool
deriving DecidableEq, Repr

/-- A mute in force: its start and its length in seconds (R70). -/
structure MuteTimer where
  start : Stamp
  seconds : Nat
deriving DecidableEq, Repr

/-- The Line Unit (03, section 3.2). -/
structure LineUnit where
  condition : LineCondition
  receiver : Receiver
  /-- Receive buffer. -/
  rxBuf : List Byte
  /-- Bit times since the last dominant level, saturating at 24 (R44). -/
  quietBits : Nat
  /-- Bit times from the end of the last received byte's stop bit to the next start bit, saturating at 30 (R52). -/
  gapBits : Nat
  /-- A byte is under way: its start bit has been found dominant at its middle (R50, R52). -/
  inByte : Bool
  /-- Transmit queue, head first (R56). -/
  queue : List TxEntry
  /-- The transmitter state is SENDING; otherwise it is EMPTY or WAITING as the queue stands (R56). -/
  sending : Bool
  /-- The telegram in transmission, as built at its start (R62). -/
  txBytes : List Byte
  /-- Bits of it already sent (R62). -/
  txBits : Nat
  /-- Deferred restart request (R59). -/
  deferred : Option RestartKind
  /-- Idle count in bit times, absent while not counting (R61). -/
  idleCount : Option Nat
  /-- Congestion flag (R65). -/
  congested : Bool
  /-- Line-stuck flag (R66). -/
  stuck : Bool
  /-- Line-stuck timer: its start, or stopped (R66). -/
  stuckTimer : Option Stamp
  /-- Mute (R70). -/
  mute : Option MuteTimer
  /-- Heartbeat timer: its start, or expired (R68). -/
  heartbeat : Option Stamp
  /-- The cadence is FAST (R68). -/
  fast : Bool
  /-- Line error count, 0..255 (R54). -/
  errors : Nat
deriving DecidableEq, Repr

/-! ### Peer Table -/

/-- Liveness class (04, section 4.1). -/
inductive Liveness where
  | never | live | quiet | lost
deriving DecidableEq, Repr

/-- A peer's report, from its latest STATE (R75); no grade means unknown. -/
structure PeerReport where
  detector : Detector
  grade : Option Grade
  stage : Stage
  phase : Phase
deriving DecidableEq, Repr

/-- A peer's event part (R76). -/
structure EventPart where
  number : Byte
  estimate : Stamp
deriving DecidableEq, Repr

/-- One record of the Peer Table (04, section 4.1). -/
structure PeerRecord where
  liveness : Liveness
  lastHeard : Option Stamp
  group : Option (BitVec 2)
  report : Option PeerReport
  event : Option EventPart
  /-- Bid part: its bid stamp. -/
  bid : Option Stamp
  /-- Claim part: its claim stamp. -/
  claim : Option Stamp
  spent : Bool
deriving DecidableEq, Repr

/-! ### Stage Sequencer -/

/-- Grace state (R103). -/
inductive Grace where
  | none
  | running (expiry : Stamp)
  | ended
deriving DecidableEq, Repr

/-- The Stage Sequencer (05, section 5.1). -/
structure Sequencer where
  stage : Stage
  /-- External trip floor (R111). -/
  floor : Stage
  grace : Grace
  /-- SAFE wait (R107). -/
  safeWait : Bool
  /-- Stand-down timer: its start, or stopped (R114). -/
  standDown : Option Stamp
  /-- Solo delay expiry (R98). -/
  solo : Option Stamp
  /-- Rejoin hold (R117). -/
  rejoinHold : Bool
  /-- The target stage T last formed (R96). -/
  target : Stage
deriving DecidableEq, Repr

/-! ### Channel Driver -/

/-- States of a LEVEL channel (R121). -/
inductive LevelState where
  | normal | asserted | testing
deriving DecidableEq, Repr

/-- A LEVEL channel's record (06, section 6.2). -/
structure LevelChannel where
  state : LevelState
  /-- Test timer: its start, or stopped (R122). -/
  testTimer : Option Stamp
  /-- Failed flag; never set on a LEVEL channel. -/
  failed : Bool
deriving DecidableEq, Repr

/-- States of a HOLD channel; FAILED with the drive it kept (R124, R125). -/
inductive HoldState where
  | off | pullIn | holding | releasing
  | failed (driveOn : Bool)
deriving DecidableEq, Repr

/-- A HOLD channel's record (06, section 6.2). -/
structure HoldChannel where
  state : HoldState
  /-- Pull-in timer: its start, or stopped. -/
  pullInTimer : Option Stamp
  /-- Confirmation timer: its start, or stopped. -/
  window : Option Stamp
  unconfirmed : Bool
  failed : Bool
deriving DecidableEq, Repr

/-- States of a PULSE channel. -/
inductive PulseState where
  | ready | queued | firing | checking | spent | failed
deriving DecidableEq, Repr

/-- A PULSE channel's attempt number (06, section 6.2). -/
inductive Attempt where
  | first | second
deriving DecidableEq, Repr

/-- A PULSE channel's record (06, section 6.2), with its pulse timer (R131). -/
structure PulseChannel where
  state : PulseState
  attempt : Option Attempt
  /-- Pulse timer: its start, or stopped. -/
  pulseTimer : Option Stamp
  /-- Confirmation timer: its start, or stopped. -/
  window : Option Stamp
  unconfirmed : Bool
  failed : Bool
deriving DecidableEq, Repr

/-- The Channel Driver: ten channels, the pulse queue and the arbiter's gap (06). -/
structure Driver where
  advise : LevelChannel
  lift : LevelChannel
  freeze : LevelChannel
  haltreq : LevelChannel
  valve : HoldChannel
  coolstop : HoldChannel
  tripA : PulseChannel
  tripB : PulseChannel
  closeA : PulseChannel
  closeB : PulseChannel
  /-- Pulse queue, head first (R128). -/
  pulseQueue : List PulseId
  /-- The end of the last pulse while its 250 ms gap is not yet taken as served (R131). -/
  gap : Option Stamp
deriving DecidableEq, Repr

/-! ### Contact Scanner -/

/-- A debounced value (07, section 7.2). -/
inductive InputValue where
  | active | inactive | unknown
deriving DecidableEq, Repr

/-- One contact input (07, section 7.2); a candidate is a level read, true for active. -/
structure ContactInput where
  value : InputValue
  candidate : Option Bool
  agreement : Nat
deriving DecidableEq, Repr

/-- The Contact Scanner (07, section 7.2). -/
structure Scanner where
  /-- Inputs 0 to 15. -/
  inputs : List ContactInput
  badScans : Nat
  fault : Bool
  recovery : Nat
  /-- Scan timer: the start of the running 10 ms (R140). -/
  timer : Stamp
  /-- A scan has begun and its 24th bit is not yet sampled (R140). -/
  scanning : Bool
  /-- Known condition (R148). -/
  known : Bool
deriving DecidableEq, Repr

/-! ### Restart Coordinator -/

/-- The energizing step under way and what it awaits (R167 to R171). -/
inductive EnergizeStep where
  | none
  /-- Step A: which of VALVE and COOLSTOP it still awaits. -/
  | a (valve coolstop : Bool)
  /-- Step B: which of CLOSE-A and CLOSE-B it still awaits. -/
  | b (closeA closeB : Bool)
  /-- Step B: the power settle. -/
  | settle (expiry : Stamp)
  /-- Step C: the release wait. -/
  | releaseWait (expiry : Stamp)
  /-- Step D is due and postponed until T is 0. -/
  | postponed
deriving DecidableEq, Repr

/-- The Restart Coordinator (08, section 8.1). -/
structure Coordinator where
  phase : Phase
  permit : Bool
  keyWithheld : Bool
  quietStart : Option Stamp
  claimOutstanding : Bool
  claimPending : Bool
  /-- Bid window: its expiry, or stopped. -/
  bidWindow : Option Stamp
  /-- Contest interval: its expiry, or stopped. -/
  contest : Option Stamp
  /-- Backoff state: the stagger's expiry, or AWAITING. -/
  stagger : Option Stamp
  step : EnergizeStep
  holdPending : Bool
deriving DecidableEq, Repr

/-! ### Directive Handler and Start-up Controller -/

/-- The last-directive record (10, section 10.1). -/
structure DirectiveRecord where
  kind : Option DirectiveKind
  result : Option DirectiveResult
  console : BitVec 2
deriving DecidableEq, Repr

/-- Start-up state (09, section 9.3). -/
inductive StartupState where
  | listening | awaitingInputs | running
deriving DecidableEq, Repr

/-- The Start-up Controller (09, section 9.3); the straps it latches stand in State. -/
structure Startup where
  state : StartupState
  /-- Rejoin window: its expiry, or ended. -/
  window : Option Stamp
  resetSeen : Bool
deriving DecidableEq, Repr

/-! ### The station -/

/-- The four blocks that call one another within one event: Line Unit, Stage Sequencer, Channel Driver and Restart
Coordinator. The other blocks only read them or are read by them. -/
structure Actors where
  line : LineUnit
  seq : Sequencer
  drv : Driver
  coord : Coordinator
deriving DecidableEq, Repr

/-- The whole station, and the queue of commands that wait. -/
structure State where
  /-- Commands waiting, first in, first out (the model's own). -/
  pending : List Instr
  /-- Station clock (R1). -/
  clock : Stamp
  /-- Bit times inside the running millisecond, 0..249 (log 1). -/
  bitPhase : Nat
  straps : Straps
  port : Port
  assessor : Assessor
  /-- The record of each station number; the own number's place is never written (R71, log 5). -/
  peers : List PeerRecord
  /-- Duplicate flag (R74). -/
  duplicate : Bool
  scanner : Scanner
  directive : DirectiveRecord
  startup : Startup
  act : Actors
deriving DecidableEq, Repr

/-! ### Reasons to stop -/

/-- Faults. The spec names none: whatever reaches the part changes its state. No command raises one. Safe: a claim
about a next state leaves no stopped case out. -/
inductive Fault where
deriving DecidableEq, Repr

/-- Refusals. -/
inductive Refusal where
  /-- Raised by exec's arm of a command that has no meaning yet. Safe: nothing is claimed of such a command. -/
  | notModelled (mnemonic : String)
deriving DecidableEq, Repr

/-! ### After reset -/

/-- R16 and the table of 01 section 1.2; the frame being clocked, if SFS is high, is absent (R2). -/
def Port.reset (sfsHigh : Bool) : Port where
  status := .start
  wordPos := 0
  bitCount := 0
  shift := 0
  words := []
  awaitLow := sfsHigh
  lastSeq := none
  lastGood := none
  frameTimer := some 0
  missing := 0
  identical := 0
  recovery := 0

/-- R17. -/
def Assessor.reset : Assessor where
  detector := .capture
  base := ⟨0, 0, 0⟩
  short := 0
  long := 128
  captureCount := 0
  awaitingSeed := true
  qualifying := 0
  runOnset := none
  runPeak := 0
  runClipped := false
  releasing := 0
  settling := 0
  event := ⟨0, none, 0, 0, false⟩

/-- R45: one urgent STATE in the queue, line BUSY, receiver in SKIP, cadence FAST. -/
def LineUnit.reset : LineUnit where
  condition := .busy
  receiver := .skip
  rxBuf := []
  quietBits := 0
  gapBits := 0
  inByte := false
  queue := [⟨.state true, 0, false⟩]
  sending := false
  txBytes := []
  txBits := 0
  deferred := none
  idleCount := none
  congested := false
  stuck := false
  stuckTimer := none
  mute := none
  heartbeat := some 0
  fast := true
  errors := 0

/-- R72: a record NEVER heard, with nothing in it. -/
def PeerRecord.never : PeerRecord := ⟨.never, none, none, none, none, none, none, false⟩

/-- R94. -/
def Sequencer.reset : Sequencer where
  stage := .watch
  floor := .watch
  grace := .none
  safeWait := false
  standDown := none
  solo := none
  rejoinHold := true
  target := .watch

/-- R120: a LEVEL channel at rest. -/
def LevelChannel.reset : LevelChannel := ⟨.normal, none, false⟩

/-- R120: a HOLD channel at rest. -/
def HoldChannel.reset : HoldChannel := ⟨.off, none, none, false, false⟩

/-- R120: a PULSE channel at rest. -/
def PulseChannel.reset : PulseChannel := ⟨.ready, none, none, none, false, false⟩

/-- R120: every channel at rest, the queue empty, the gap taken as served. -/
def Driver.reset : Driver where
  advise := .reset
  lift := .reset
  freeze := .reset
  haltreq := .reset
  valve := .reset
  coolstop := .reset
  tripA := .reset
  tripB := .reset
  closeA := .reset
  closeB := .reset
  pulseQueue := []
  gap := none

/-- R142. -/
def Scanner.reset : Scanner where
  inputs := List.replicate 16 ⟨.unknown, none, 0⟩
  badScans := 0
  fault := false
  recovery := 0
  timer := 0
  scanning := false
  known := false

/-- R151. -/
def Coordinator.reset : Coordinator where
  phase := .rejoin
  permit := false
  keyWithheld := false
  quietStart := none
  claimOutstanding := false
  claimPending := false
  bidWindow := none
  contest := none
  stagger := none
  step := .none
  holdPending := false

/-- R185: kind 0, result 0, console 0. -/
def DirectiveRecord.reset : DirectiveRecord := ⟨none, none, 0⟩

/-- R179, R180: LISTENING, the window to expire at stamp 3000, reset-seen set. -/
def Startup.reset : Startup := ⟨.listening, some 3000, true⟩

/-- Every block of a station strapped so, right after reset (R1), with these commands waiting. -/
def State.afterReset (straps : Straps) (sfsHigh : Bool) (pending : List Instr) : State where
  pending := pending
  clock := 0
  bitPhase := 0
  straps := straps
  port := .reset sfsHigh
  assessor := .reset
  peers := List.replicate 32 .never
  duplicate := false
  scanner := .reset
  directive := .reset
  startup := .reset
  act := ⟨.reset, .reset, .reset, .reset⟩

/-- The machine right after reset: no command waits, SFS is low, and every strap pin is low (DESIGN CHOICE, log 3:
the spec names no strap values; unsafe). -/
def State.reset : State := .afterReset ⟨0, 0, 0, 0⟩ false []

end Sys2Proof.Machine
end

