-- ==== Sys2Proof/Machine/Timing.lean ====
section
/-! DEFINITION. Time on the station clock, the fixed durations of the chapters, the codes of stages and phases, and the
profile table (R178). -/

namespace Sys2Proof.Machine

/-! ### Stamps (00, "Time") -/

/-- Milliseconds from one stamp to another, modulo 2^32. -/
def elapsed (now start : Stamp) : Nat := (now - start).toNat

/-- The clock has reached an expiry stamp. A difference of two stamps is meaningful up to 2^31 - 1 ms (00, "Time"). -/
def reached (now expiry : Stamp) : Bool := elapsed now expiry < 2147483648

/-- A timer started at a stamp, if it runs, has run its duration. -/
def ranFor (now : Stamp) (timer : Option Stamp) (duration : Nat) : Bool :=
  match timer with
  | some start => duration ≤ elapsed now start
  | none => false

/-- A timer held as an expiry stamp, if it runs, has expired. -/
def expired (now : Stamp) (timer : Option Stamp) : Bool :=
  match timer with
  | some expiry => reached now expiry
  | none => false

/-- The stamp a number of milliseconds after another. -/
def later (now : Stamp) (ms : Nat) : Stamp := now + BitVec.ofNat 32 ms

/-- The modular distance between two stamps: the smaller of their two modular differences (00, "Time"). -/
def distance (a b : Stamp) : Nat := min (elapsed a b) (elapsed b a)

/-! ### Durations in milliseconds -/

/-- R10. -/
def frameTimeout : Nat := 25
/-- The nominal frame period, for the stamps of held samples (R7). -/
def framePeriod : Nat := 5
/-- R37. -/
def disturbanceLimit : Nat := 300000
/-- R66. -/
def lineStuckLimit : Nat := 500
/-- R68. -/
def fastPeriod : Nat := 100
/-- R68. -/
def slowPeriod : Nat := 1000
/-- R81. -/
def quietAge : Nat := 3500
/-- R82. -/
def lostAge : Nat := 10000
/-- R83. -/
def bidLife : Nat := 4000
/-- R84. -/
def claimLife : Nat := 300000
/-- R98. -/
def soloDelay : Nat := 1500
/-- R115. -/
def standDownTime : Nat := 60000
/-- R122. -/
def testTime : Nat := 2000
/-- R123. -/
def pullInTime : Nat := 300
/-- R123: the confirmation window of a HOLD channel. -/
def holdWindow : HoldId → Nat
  | .valve => 60000
  | .coolstop => 10000
/-- R131. -/
def pulseTime : Nat := 200
/-- R131. -/
def pulseGap : Nat := 250
/-- R133: the confirmation window of a PULSE channel. -/
def pulseWindow : PulseId → Nat
  | .trip _ => 500
  | .close _ => 2000
/-- R140. -/
def scanPeriod : Nat := 10
/-- R158. -/
def bidWindowTime : Nat := 2000
/-- R161. -/
def contestTime : Nat := 2000
/-- R164: one step of the backoff stagger. -/
def staggerStep : Nat := 250
/-- R169. -/
def powerSettle : Nat := 10000
/-- R170. -/
def releaseWaitTime : Nat := 5000

/-! ### Codes -/

/-- Stage codes (05, introduction); stages are compared by their codes (00, "Names and codes"). -/
def Stage.code : Stage → Nat
  | .watch => 0 | .alert => 1 | .quiesce => 2 | .isolate => 3 | .safe => 4

/-- The stage of a code. -/
def Stage.ofCode? : Nat → Option Stage
  | 0 => some .watch | 1 => some .alert | 2 => some .quiesce | 3 => some .isolate | 4 => some .safe
  | _ => none

/-- The higher of two stages. -/
def Stage.higher (a b : Stage) : Stage := if a.code ≤ b.code then b else a

/-- The lesser of two stages. -/
def Stage.lesser (a b : Stage) : Stage := if a.code ≤ b.code then a else b

/-- One level down (R112). -/
def Stage.lowered : Stage → Stage
  | .safe => .isolate | .isolate => .quiesce | .quiesce => .alert | .alert => .watch | .watch => .watch

/-- Detector state codes (02, section 2.1). -/
def Detector.code : Detector → Nat
  | .capture => 0 | .calm => 1 | .event => 2 | .settling => 3 | .blind => 4

/-- The detector state of a code. -/
def Detector.ofCode? : Nat → Option Detector
  | 0 => some .capture | 1 => some .calm | 2 => some .event | 3 => some .settling | 4 => some .blind
  | _ => none

/-- The detector is in EVENT or SETTLING: an event is open (R36). -/
def Detector.inEvent : Detector → Bool
  | .event | .settling => true
  | .capture | .calm | .blind => false

/-- Restart phase codes (08, introduction). -/
def Phase.code : Phase → Nat
  | .none => 0 | .quietWait => 1 | .awaitPermit => 2 | .bidding => 3 | .contest => 4 | .energizing => 5
  | .backoff => 6 | .rejoin => 7

/-- The restart phase of a code. -/
def Phase.ofCode? : Nat → Option Phase
  | 0 => some .none | 1 => some .quietWait | 2 => some .awaitPermit | 3 => some .bidding | 4 => some .contest
  | 5 => some .energizing | 6 => some .backoff | 7 => some .rejoin
  | _ => none

/-- Directive kind codes (10, section 10.2). -/
def DirectiveKind.code : DirectiveKind → Nat
  | .resume => 1 | .hold => 2 | .trip => 3 | .mute => 4 | .unmute => 5 | .reseed => 6 | .test => 7
  | .ackReset => 8 | .clearCounts => 9

/-- The directive kind of a code. -/
def DirectiveKind.ofCode? : Nat → Option DirectiveKind
  | 1 => some .resume | 2 => some .hold | 3 => some .trip | 4 => some .mute | 5 => some .unmute
  | 6 => some .reseed | 7 => some .test | 8 => some .ackReset | 9 => some .clearCounts
  | _ => none

/-- Directive result codes (10, section 10.1). -/
def DirectiveResult.code : DirectiveResult → Nat
  | .accepted => 1 | .wrongState => 2 | .keyAbsent => 3 | .badArgument => 4

/-- The directive result of a code. -/
def DirectiveResult.ofCode? : Nat → Option DirectiveResult
  | 1 => some .accepted | 2 => some .wrongState | 3 => some .keyAbsent | 4 => some .badArgument
  | _ => none

/-! ### Profiles -/

/-- One row of the profile table (R178): R_on and R_off in quarters, W in ms, q in eighths, the solo grade, the ISOLATE
grace and the quiet time Q in ms. -/
structure Profile where
  rOn : Nat
  rOff : Nat
  window : Nat
  q : Nat
  soloGrade : Nat
  grace : Nat
  quiet : Nat
deriving DecidableEq, Repr

/-- The profile table (R178). -/
def profileRow : Nat → Profile
  | 0 => ⟨16, 8, 3000, 3, 6, 60000, 600000⟩
  | 1 => ⟨12, 8, 3000, 3, 6, 60000, 600000⟩
  | 2 => ⟨24, 10, 3000, 3, 6, 60000, 600000⟩
  | 3 => ⟨16, 8, 5000, 2, 5, 30000, 300000⟩
  | 4 => ⟨16, 8, 2000, 4, 6, 120000, 1200000⟩
  | 5 => ⟨12, 8, 5000, 2, 5, 30000, 300000⟩
  | 6 => ⟨24, 10, 2000, 4, 7, 120000, 1200000⟩
  | _ => ⟨16, 8, 3000, 4, 7, 60000, 1200000⟩

/-- The profile of the latched PRF value. -/
def profileOf (straps : Straps) : Profile := profileRow straps.prf.toNat

/-- The restart key of a station: restart group × 32 + station number (R91). -/
def restartKey (group : BitVec 2) (station : Nat) : Nat := group.toNat * 32 + station

end Sys2Proof.Machine
end

