-- ==== Sys2Proof/Machine/Port.lean ====
section
/-! DEFINITION. The Sample Port (01): framing of the serial stream, placing of sound frames in the converter's sequence,
missing frames, silence, the stuck test, loss and recovery. It hands the Motion Assessor a list of deliveries (R4). -/

namespace Sys2Proof.Machine

/-- What the port delivers, in order, within one event (R4). -/
inductive Delivery where
  | sample (counts : Sample) (stamp : Stamp) (held : Bool)
  | loss
  | restoration
deriving DecidableEq, Repr

/-- A sound frame: its sequence number and its counts with the clipped mark. -/
structure Frame where
  seq : Byte
  counts : Sample
deriving DecidableEq, Repr

/-! ### Framing (R2, R3) -/

/-- A rising edge of SFS starts a frame: the counters are zeroed and the bits gathered before are discarded (R2). -/
def Port.openFrame (p : Port) : Port := { p with wordPos := 0, bitCount := 0, shift := 0, words := [] }

/-- A rising edge of SCK while SFS is high (R2): it shifts SDI into the current word; after the 64th bit the word
position counter goes to 5 and stays there. Of the bit counter and the current word R2 says nothing then: the model leaves
both as they stand (DESIGN CHOICE, log 31). -/
def Port.clockBit (p : Port) (bit : Bool) : Port :=
  if 4 ≤ p.wordPos then { p with wordPos := 5 }
  else
    let word := p.shift <<< 1 ||| (if bit then 1 else 0)
    if p.bitCount = 15 then
      { p with shift := 0, bitCount := 0, words := p.words ++ [word], wordPos := p.wordPos + 1 }
    else { p with shift := word, bitCount := p.bitCount + 1 }

/-- A whole frame clocked in, from the rising edge of SFS to just before its falling edge. -/
def Port.clockFrame (p : Port) (bits : List Bool) : Port := bits.foldl Port.clockBit p.openFrame

/-- A count at either code of a driven axis is clipped (R11). -/
def clippedCount (c : Word16) : Bool := c = 0x8000 || c = 0x7FFF

/-- The counts of a frame with their clipped mark (R11). -/
def Sample.ofCounts (x y z : Word16) : Sample :=
  ⟨x, y, z, clippedCount x || clippedCount y || clippedCount z⟩

/-- R3: the sound frame that stands in the port at the falling edge of SFS; none if it is missing, by its length or by
its FLT flag (bit 0 of word 1). Word 1 holds the sequence number in bits 15 to 8. -/
def Port.soundFrame? (p : Port) : Option Frame :=
  if p.wordPos = 4 ∧ p.bitCount = 0 then
    match p.words with
    | [head, x, y, z] =>
      if head.getLsbD 0 then none else some ⟨head.extractLsb' 8 8, Sample.ofCounts x y z⟩
    | _ => none
  else none

/-! ### Supervision -/

/-- The two samples bear the same triple (R12). -/
def Sample.sameTriple (a b : Sample) : Bool := a.x = b.x && a.y = b.y && a.z = b.z

/-- The identical count after a frame's triple is compared with the last good sample's (R12). -/
def Port.identicalAfter (p : Port) (counts : Sample) : Nat :=
  match p.lastGood with
  | some last => if last.sameTriple counts then min 2048 (p.identical + 1) else 1
  | none => 1

/-- What a sound frame that is no repeat leaves in the sequence and stuck-test state (R5, R12, R14). -/
def Port.take (p : Port) (f : Frame) : Port :=
  { p with lastSeq := some f.seq, lastGood := some f.counts, identical := p.identicalAfter f.counts }

/-- Entry to LOST with the recovery run its declaring rule gives (R13). -/
def Port.lose (p : Port) (run : Nat) : Port := { p with status := .lost, missing := 0, recovery := run }

/-- R5: a frame delivered as a received sample restarts the frame timer and clears the missing count. -/
def Port.track (p : Port) (now : Stamp) : Port :=
  { p with status := .tracking, missing := 0, recovery := 0, frameTimer := some now }

/-- The k held samples of a short gap, oldest first, each a copy of the last good sample at its nominal stamp (R7). -/
def heldSamples (last : Sample) (now : Stamp) (k : Nat) : List Delivery :=
  (List.range k).map fun i => .sample last (now - BitVec.ofNat 32 (framePeriod * (k - i))) true

/-- A sound frame in TRACKING with a sequence difference of 1 to 4 (R5, R7), or stuck at it (R12). -/
def Port.arrive (p : Port) (now : Stamp) (f : Frame) (held : List Delivery) : Port × List Delivery :=
  let p' := p.take f
  if 2048 ≤ p'.identical then (p'.lose 0, held ++ [.loss])
  else (p'.track now, held ++ [.sample f.counts now false])

/-- A sound frame in TRACKING with a sequence difference of 5 or more (R8). -/
def Port.longGap (p : Port) (now : Stamp) (f : Frame) : Port × List Delivery :=
  let p' := p.take f
  ({ p'.lose (if 2048 ≤ p'.identical then 0 else 1) with frameTimer := some now }, [.loss])

/-- The recovery run after a sound frame that is no repeat in LOST (R14); `good` says that its sequence difference is 1. -/
def Port.nextRun (p : Port) (good : Bool) : Nat :=
  if 2048 ≤ p.identical then 0 else if good then p.recovery + 1 else 1

/-- A sound frame that is no repeat in LOST (R14), and the one that restores the sensor (R15). -/
def Port.recover (p : Port) (now : Stamp) (f : Frame) (good : Bool) : Port × List Delivery :=
  let p' := p.take f
  let run := p'.nextRun good
  if 200 ≤ run then (p'.track now, [.restoration, .sample f.counts now false])
  else ({ p' with recovery := run, frameTimer := some now }, [])

/-- A sound frame, by the port's status and the sequence difference (R5 to R8, R14, R16). -/
def Port.sound (p : Port) (now : Stamp) (f : Frame) : Port × List Delivery :=
  match p.status, p.lastSeq with
  | .start, _ => p.arrive now f []
  | .tracking, none => p.arrive now f []
  | .tracking, some last =>
    let d := (f.seq - last).toNat
    if d = 0 then (p, [])
    else if d ≤ 4 then
      p.arrive now f (match p.lastGood with
        | some g => heldSamples g now (d - 1)
        | none => [])
    else p.longGap now f
  | .lost, none => p.recover now f false
  | .lost, some last =>
    if f.seq = last then ({ p with recovery := 0 }, [])
    else p.recover now f (f.seq - last = 1)

/-- A missing frame (R9, R14). -/
def Port.missed (p : Port) : Port × List Delivery :=
  match p.status with
  | .lost => ({ p with recovery := 0 }, [])
  | .start | .tracking =>
    if 5 ≤ p.missing + 1 then (p.lose 0, [.loss]) else ({ p with missing := p.missing + 1 }, [])

/-- The falling edge of SFS after these bits (R2, R3). The one that ends a frame cut by reset is no frame end. -/
def Port.frameEnd (p : Port) (now : Stamp) (bits : List Bool) : Port × List Delivery :=
  if p.awaitLow then ({ p with awaitLow := false }, [])
  else
    let p' := p.clockFrame bits
    match p'.soundFrame? with
    | some f => p'.sound now f
    | none => p'.missed

/-- The expiry of the frame timer (R10). -/
def Port.timeout (p : Port) : Port × List Delivery :=
  match p.status with
  | .lost => ({ p with frameTimer := none, recovery := 0 }, [])
  | .start | .tracking => ({ p.lose 0 with frameTimer := none }, [.loss])

end Sys2Proof.Machine
end

