-- ==== Sys2Proof/Machine/Assessment.lean ====
section
/-! DEFINITION. The Motion Assessor (02): dynamic values, magnitude, averages, tests, runs, detector states, event record.
A right shift of a signed quantity rounds toward minus infinity (00, "Scaled quantities"): it is written as integer
division by the power of two. -/

namespace Sys2Proof.Machine

/-! ### One sample's quantities -/

/-- The dynamic value of one axis (R19). -/
def dynamic (count : Word16) (base : Int) : Int := max (-32767) (min 32767 (count.toInt - base / 256))

/-- The magnitude of three absolute dynamic values (R20): a + b / 2 + c / 4 with a ≥ b ≥ c. -/
def magnitudeOf (u v w : Nat) : Nat :=
  let a := max u (max v w)
  let c := min u (min v w)
  let b := u + v + w - a - c
  a + b / 2 + c / 4

/-- The magnitude of a sample against the baselines (R19, R20). -/
def magnitude (s : Sample) (base : Axes) : Nat :=
  magnitudeOf (dynamic s.x base.x).natAbs (dynamic s.y base.y).natAbs (dynamic s.z base.z).natAbs

/-- One step of an average or baseline toward a target, by a shift: x + ((target - x) >> shift) (R21 to R23). -/
def approach (x target : Int) (shift : Nat) : Int := x + (target - x) / 2 ^ shift

/-- The long average after a sample of magnitude m, with its floor of 128 (R22). -/
def longAfter (long : Int) (m shift : Nat) : Int := max 128 (approach long (16 * m) shift)

/-- The baselines seeded from a sample (R25, R37). -/
def Axes.seed (s : Sample) : Axes := ⟨s.x.toInt * 256, s.y.toInt * 256, s.z.toInt * 256⟩

/-- The baselines after a sample (R23). -/
def Axes.follow (b : Axes) (s : Sample) (shift : Nat) : Axes :=
  ⟨approach b.x (s.x.toInt * 256) shift, approach b.y (s.y.toInt * 256) shift, approach b.z (s.z.toInt * 256) shift⟩

/-- The grade of a peak (R34). -/
def gradeOf (peak : Nat) : Grade :=
  if peak < 41 then 0 else if peak < 164 then 1 else if peak < 410 then 2 else if peak < 820 then 3
  else if peak < 1639 then 4 else if peak < 3277 then 5 else if peak < 6554 then 6 else 7

/-- The short average qualifies against the long one (R24). -/
def qualifies (prof : Profile) (short long : Int) : Bool := prof.rOn * long ≤ 4 * short

/-- The short average releases against the long one (R24). -/
def releases (prof : Profile) (short long : Int) : Bool := 4 * short < prof.rOff * long

/-! ### What the assessor offers (R35, R41) -/

/-- The reported grade; none is unknown (R35). -/
def Assessor.grade (a : Assessor) : Option Grade :=
  match a.detector with
  | .calm => some 0
  | .event | .settling => some a.event.grade
  | .capture | .blind => none

/-- The offered onset (R41). -/
def Assessor.onset (a : Assessor) : Option Stamp := if a.detector.inEvent then a.event.onset else none

/-! ### Runs and state changes -/

/-- No qualifying run, and nothing of one kept (R27). -/
def Assessor.noRun (a : Assessor) : Assessor :=
  { a with qualifying := 0, runOnset := none, runPeak := 0, runClipped := false }

/-- Entry to CAPTURE (R25). -/
def Assessor.enterCapture (a : Assessor) : Assessor :=
  { a.noRun with detector := .capture, captureCount := 0, awaitingSeed := true, releasing := 0, settling := 0 }

/-- The seeding sample (R25). -/
def Assessor.seed (a : Assessor) (s : Sample) : Assessor :=
  { a with base := .seed s, short := 0, long := 128, awaitingSeed := false }

/-- A qualifying sample in CALM extends the run (R27). -/
def Assessor.extendRun (a : Assessor) (s : Sample) (stamp : Stamp) (m : Nat) : Assessor :=
  if a.qualifying = 0 then
    { a with qualifying := 1, runOnset := some stamp, runPeak := m, runClipped := s.clipped }
  else
    { a with qualifying := a.qualifying + 1, runPeak := max a.runPeak m, runClipped := a.runClipped || s.clipped }

/-- Entry to EVENT from CALM (R28). The settling count keeps what stands, since R28 names no change to it (DESIGN CHOICE,
log 27). -/
def Assessor.openEvent (a : Assessor) : Assessor :=
  { a.noRun with
    detector := .event
    releasing := 0
    event := ⟨a.event.number + 1, a.runOnset, a.runPeak, gradeOf a.runPeak, a.runClipped⟩ }

/-- Step 4 of R18 in CALM (R27, R28). -/
def Assessor.testCalm (a : Assessor) (prof : Profile) (s : Sample) (stamp : Stamp) (m : Nat) : Assessor :=
  if qualifies prof a.short a.long then
    let a' := a.extendRun s stamp m
    if 4 ≤ a'.qualifying then a'.openEvent else a'
  else a.noRun

/-- Step 4 of R18 in EVENT (R29). -/
def Assessor.testEvent (a : Assessor) (prof : Profile) : Assessor :=
  if releases prof a.short a.long then
    if 200 ≤ a.releasing + 1 then
      { a with detector := .settling, releasing := 0, settling := 0, qualifying := 0 }
    else { a with releasing := a.releasing + 1 }
  else { a with releasing := 0 }

/-- A sample in SETTLING that completes no run is counted; the 2000th returns to CALM (R31). -/
def Assessor.settle (a : Assessor) : Assessor :=
  if 2000 ≤ a.settling + 1 then { a with detector := .calm, settling := a.settling + 1, qualifying := 0 }
  else { a with settling := a.settling + 1 }

/-- Step 4 of R18 in SETTLING (R30 to R32). -/
def Assessor.testSettling (a : Assessor) (prof : Profile) : Assessor :=
  if qualifies prof a.short a.long then
    if 4 ≤ a.qualifying + 1 then { a with detector := .event, qualifying := 0, releasing := 0, settling := 0 }
    else { a with qualifying := a.qualifying + 1 }.settle
  else { a with qualifying := 0 }.settle

/-- The record with a sample taken in EVENT or SETTLING: peak, grade, clipped-seen (R33, R34, R36). -/
def EventRecord.take (e : EventRecord) (s : Sample) (m : Nat) : EventRecord :=
  { e with peak := max e.peak m, grade := gradeOf (max e.peak m), clipped := e.clipped || s.clipped }

/-- Step 7 of R18: the persistent-disturbance limit (R37). -/
def Assessor.disturbance (a : Assessor) (s : Sample) (stamp : Stamp) : Assessor :=
  if a.detector.inEvent && ranFor stamp a.event.onset disturbanceLimit then
    { a.noRun with
      detector := .calm, long := max 128 a.short, base := .seed s, releasing := 0, settling := 0 }
  else a

/-- Steps 6 and the capture count of a sample taken in CAPTURE (R22, R23, R26). -/
def Assessor.endCapture (a : Assessor) (s : Sample) (m : Nat) : Assessor :=
  let a' := { a with long := longAfter a.long m 6, base := a.base.follow s 6, captureCount := a.captureCount + 1 }
  if 1024 ≤ a'.captureCount then { a'.noRun with detector := .calm, awaitingSeed := false } else a'

/-- Step 3 of R18 (R21). -/
def Assessor.withShort (a : Assessor) (m : Nat) : Assessor := { a with short := approach a.short (16 * m) 3 }

/-- R18: one sample delivery, by the state in which it is taken. A sample taken in CALM is put to the disturbance test too, in
the state it has led to, by R32 and R37 and against the table of section 2.2, which gives it none (DEDUCED, log 30). -/
def Assessor.sample (a : Assessor) (prof : Profile) (s : Sample) (stamp : Stamp) : Assessor :=
  match a.detector with
  | .capture =>
    let a := if a.awaitingSeed then a.seed s else a
    let m := magnitude s a.base
    (a.withShort m).endCapture s m
  | .calm =>
    let m := magnitude s a.base
    let b := (a.withShort m).testCalm prof s stamp m
    { b with long := longAfter a.long m 9, base := a.base.follow s 10 }.disturbance s stamp
  | .event =>
    let m := magnitude s a.base
    let b := (a.withShort m).testEvent prof
    { b with event := b.event.take s m }.disturbance s stamp
  | .settling =>
    let m := magnitude s a.base
    let b := (a.withShort m).testSettling prof
    { b with event := b.event.take s m }.disturbance s stamp
  | .blind => a

/-- A loss indication (R38). -/
def Assessor.lose (a : Assessor) : Assessor :=
  match a.detector with
  | .blind => a
  | .capture =>
    { a.noRun with detector := .blind, releasing := 0, settling := 0, captureCount := 0, awaitingSeed := false }
  | .calm | .event | .settling => { a.noRun with detector := .blind, releasing := 0, settling := 0 }

/-- A restoration (R39). -/
def Assessor.restore (a : Assessor) : Assessor := a.enterCapture

/-- What one delivery makes of the assessor. -/
def Assessor.take (a : Assessor) (prof : Profile) : Delivery → Assessor
  | .sample s stamp _ => a.sample prof s stamp
  | .loss => a.lose
  | .restoration => a.restore

/-- R42: the change from one assessor state to the next makes an urgent STATE due. -/
def Assessor.reportable (old new : Assessor) : Bool :=
  old.detector ≠ new.detector || old.grade ≠ new.grade || (!old.event.clipped && new.event.clipped)

end Sys2Proof.Machine
end

