-- ==== Sys2Proof/Machine/Contacts.lean ====
section
/-! DEFINITION. The Contact Scanner (07): judging scans, debouncing, the scan fault and its end, the known condition. -/

namespace Sys2Proof.Machine

/-- The value a level reads as: high is active (R141). -/
def InputValue.ofLevel (level : Bool) : InputValue := if level then .active else .inactive

/-- The value the scanner offers for an input. -/
def Scanner.value (sc : Scanner) (i : Nat) : InputValue :=
  match sc.inputs[i]? with
  | some c => c.value
  | none => .unknown

/-- An input reads active; UNKNOWN counts as inactive (R142). -/
def Scanner.active (sc : Scanner) (i : Nat) : Bool := sc.value i = .active

/-- One reading compared with an input's debounced value (R143). -/
def ContactInput.compare (c : ContactInput) (level : Bool) : ContactInput :=
  if c.value = .ofLevel level then { c with candidate := none, agreement := 0 }
  else if c.candidate = some level then { c with agreement := c.agreement + 1 }
  else { c with candidate := some level, agreement := 1 }

/-- An agreement count of 3 makes the candidate the debounced value (R143, R146). -/
def ContactInput.adopt (c : ContactInput) : ContactInput :=
  match c.candidate with
  | some level => if 3 ≤ c.agreement then ⟨.ofLevel level, none, 0⟩ else c
  | none => c

/-- A bad scan removes an input's candidate (R144). -/
def ContactInput.drop (c : ContactInput) : ContactInput := { c with candidate := none, agreement := 0 }

/-- The input bits of a frame, input 0 first (R141). -/
def inputLevels (frame : BitVec 24) : List Bool := (List.range 16).map frame.getLsbD

/-- Bits 17 to 24 show the end pattern high, low, high, high, low, high, low, low (R141). -/
def endPattern (frame : BitVec 24) : Bool := frame.extractLsb' 16 8 = 0x2D

/-- All sixteen inputs compared with a good scan's readings. -/
def compareAll (inputs : List ContactInput) (frame : BitVec 24) : List ContactInput :=
  inputs.zipWith ContactInput.compare (inputLevels frame)

/-- The known condition, latched (R148). -/
def Scanner.latchKnown (sc : Scanner) : Scanner :=
  { sc with known := sc.known || sc.fault || sc.inputs.all fun c => c.value ≠ .unknown }

/-- A good scan outside a fault (R143, R144). -/
def Scanner.debounce (sc : Scanner) (frame : BitVec 24) : Scanner :=
  { sc with inputs := (compareAll sc.inputs frame).map .adopt, badScans := 0 }

/-- A bad scan outside a fault; the third sets the fault (R144). -/
def Scanner.countBad (sc : Scanner) : Scanner :=
  let inputs := sc.inputs.map .drop
  if 3 ≤ sc.badScans + 1 then { sc with inputs := inputs, badScans := 3, fault := true, recovery := 0 }
  else { sc with inputs := inputs, badScans := sc.badScans + 1 }

/-- A good scan in a fault; the third in a row ends it (R145, R146). -/
def Scanner.recover (sc : Scanner) (frame : BitVec 24) : Scanner :=
  let inputs := compareAll sc.inputs frame
  if 3 ≤ sc.recovery + 1 then
    { sc with inputs := inputs.map .adopt, fault := false, badScans := 0, recovery := 0 }
  else { sc with inputs := inputs, recovery := sc.recovery + 1 }

/-- A bad scan in a fault (R145). -/
def Scanner.breakRecovery (sc : Scanner) : Scanner :=
  { sc with inputs := sc.inputs.map .drop, recovery := 0 }

/-- The scanner after a scan completion (R141, R143 to R146, R148). -/
def Scanner.complete (sc : Scanner) (frame : BitVec 24) : Scanner :=
  let sc' := { sc with scanning := false }
  (match sc.fault, endPattern frame with
    | false, true => sc'.debounce frame
    | false, false => sc'.countBad
    | true, true => sc'.recover frame
    | true, false => sc'.breakRecovery).latchKnown

/-- The inputs whose debounced value differs, in input-number order (R147). -/
def changedInputs (old new : Scanner) : List Nat := (List.range 16).filter fun i => old.value i ≠ new.value i

/-- The input that shows a PDU closed (R149). -/
def pduContact : Pdu → Nat
  | .a => 0 | .b => 1

/-- The input that confirms a HOLD channel (R149). -/
def limitContact : HoldId → Nat
  | .valve => 2 | .coolstop => 3

end Sys2Proof.Machine
end

