-- ==== Sys2Proof/Machine/Channels.lean ====
section
/-! DEFINITION. The Channel Driver (06): the ten channel records, the pulse queue, the arbiter, confirmations. Each operation
answers the driver and the notices it sends, in order (R138). -/

namespace Sys2Proof.Machine

/-- What the driver tells other blocks (R138). -/
inductive Notice where
  /-- TRIP-A or TRIP-B entered SPENT or FAILED (R108). -/
  | tripOutcome (p : Pdu)
  | closeConfirmed (p : Pdu)
  | closeUnconfirmed (p : Pdu)
  | closeFailed (p : Pdu)
  | closeRefused (p : Pdu)
  | closeCut (p : Pdu)
  | closeWithdrawn (p : Pdu)
  | releaseConfirmed (h : HoldId)
  | releaseUnconfirmed (h : HoldId)
  | releaseFailed (h : HoldId)
  /-- A channel's failed flag turned on (R67). -/
  | failedFlag
deriving DecidableEq, Repr

/-- A driver operation's answer. -/
abbrev Driven := Driver × List Notice

/-- One driver operation after another, their notices in order. -/
def Driven.next (r : Driven) (f : Driver → Driven) : Driven :=
  let r' := f r.1
  (r'.1, r.2 ++ r'.2)

/-! ### Records by channel -/

/-- The record of a LEVEL channel. -/
def Driver.level (d : Driver) : LevelId → LevelChannel
  | .advise => d.advise | .lift => d.lift | .freeze => d.freeze | .haltreq => d.haltreq

/-- A LEVEL channel's record replaced. -/
def Driver.setLevel (d : Driver) (id : LevelId) (c : LevelChannel) : Driver :=
  match id with
  | .advise => { d with advise := c }
  | .lift => { d with lift := c }
  | .freeze => { d with freeze := c }
  | .haltreq => { d with haltreq := c }

/-- The record of a HOLD channel. -/
def Driver.hold (d : Driver) : HoldId → HoldChannel
  | .valve => d.valve | .coolstop => d.coolstop

/-- A HOLD channel's record replaced. -/
def Driver.setHold (d : Driver) (id : HoldId) (c : HoldChannel) : Driver :=
  match id with
  | .valve => { d with valve := c }
  | .coolstop => { d with coolstop := c }

/-- The record of a PULSE channel. -/
def Driver.pulse (d : Driver) : PulseId → PulseChannel
  | .trip .a => d.tripA | .trip .b => d.tripB | .close .a => d.closeA | .close .b => d.closeB

/-- A PULSE channel's record replaced. -/
def Driver.setPulse (d : Driver) (id : PulseId) (c : PulseChannel) : Driver :=
  match id with
  | .trip .a => { d with tripA := c }
  | .trip .b => { d with tripB := c }
  | .close .a => { d with closeA := c }
  | .close .b => { d with closeB := c }

/-! ### The release order (R126, R127) -/

/-- Any channel of a stage counts as asserted (R126). -/
def Driver.stageAsserted (d : Driver) : Stage → Bool
  | .watch => false
  | .alert => d.advise.state = .asserted || d.lift.state = .asserted
  | .quiesce => d.freeze.state = .asserted || d.haltreq.state = .asserted
  | .isolate => d.tripA.state ≠ .ready || d.tripB.state ≠ .ready
  | .safe => holdCounts d.valve || holdCounts d.coolstop
where
  /-- A HOLD channel counts in PULL_IN, HOLDING and FAILED. -/
  holdCounts (c : HoldChannel) : Bool :=
    match c.state with
    | .pullIn | .holding | .failed _ => true
    | .off | .releasing => false

/-- The stage of a LEVEL channel (06, channel map). -/
def levelStage : LevelId → Stage
  | .advise | .lift => .alert
  | .freeze | .haltreq => .quiesce

/-- Some channel of a stage above counts as asserted: a release of this stage is refused (R127). -/
def Driver.assertedAbove (d : Driver) (stage : Stage) : Bool :=
  [Stage.alert, .quiesce, .isolate, .safe].any fun s => stage.code < s.code && d.stageAsserted s

/-! ### LEVEL channels (R121, R122) -/

/-- An assert request (R121). -/
def Driver.assertLevel (d : Driver) (id : LevelId) : Driver :=
  d.setLevel id { d.level id with state := .asserted, testTimer := none }

/-- A release request; false where the release order refuses it (R121, R127). -/
def Driver.releaseLevel (d : Driver) (id : LevelId) : Driver × Bool :=
  if d.assertedAbove (levelStage id) then (d, false)
  else (d.setLevel id { d.level id with state := .normal, testTimer := none }, true)

/-- A channel test (R122). -/
def Driver.testLevel (d : Driver) (id : LevelId) (now : Stamp) : Driver :=
  if (d.level id).state = .asserted then d
  else d.setLevel id { d.level id with state := .testing, testTimer := some now }

/-- The expiry of a test timer (R122). -/
def Driver.endTest (d : Driver) (id : LevelId) : Driver :=
  d.setLevel id { d.level id with state := .normal, testTimer := none }

/-! ### HOLD channels (R123 to R125) -/

/-- The sequencer's sense of an asserted HOLD channel (R101): PULL_IN, HOLDING, or FAILED with its drive on. -/
def HoldChannel.asserted (c : HoldChannel) : Bool :=
  match c.state with
  | .pullIn | .holding | .failed true => true
  | .off | .releasing | .failed false => false

/-- An assert request (R123); in a scan fault no confirmation is awaited and the outcome is marked unconfirmed (R136). -/
def Driver.assertHold (d : Driver) (sc : Scanner) (now : Stamp) (id : HoldId) : Driver :=
  let c := d.hold id
  if c.asserted then d
  else d.setHold id { c with
    state := .pullIn
    pullInTimer := some now
    window := if sc.fault || sc.active (limitContact id) then none else some now
    unconfirmed := sc.fault }

/-- A release request (R125, R136). The release order has no stage above 4 to test (R127). -/
def Driver.releaseHold (d : Driver) (sc : Scanner) (now : Stamp) (id : HoldId) : Driven :=
  let c := d.hold id
  match c.state with
  | .off => (d, [.releaseConfirmed id])
  | .releasing => (d, [])
  | .pullIn | .holding | .failed _ =>
    let c' := { c with pullInTimer := none, window := none, unconfirmed := false }
    if sc.fault then (d.setHold id { c' with state := .off, unconfirmed := true }, [.releaseUnconfirmed id])
    else if sc.active (limitContact id) then (d.setHold id { c' with state := .releasing, window := some now }, [])
    else (d.setHold id { c' with state := .off }, [.releaseConfirmed id])

/-- The pull-in timer expires (R123). -/
def Driver.endPullIn (d : Driver) (id : HoldId) : Driver :=
  d.setHold id { d.hold id with state := .holding, pullInTimer := none }

/-- The failed flag turns on; one already set makes no notice (R138). -/
def flagNotice (already : Bool) : List Notice := if already then [] else [.failedFlag]

/-- A HOLD channel's confirmation window runs out (R124, R125). -/
def Driver.failHold (d : Driver) (id : HoldId) : Driven :=
  let c := d.hold id
  match c.state with
  | .pullIn | .holding =>
    (d.setHold id { c with state := .failed true, pullInTimer := none, window := none, failed := true },
      flagNotice c.failed)
  | .releasing =>
    (d.setHold id { c with state := .failed false, window := none, failed := true },
      flagNotice c.failed ++ [.releaseFailed id])
  | .off | .failed _ => (d, [])

/-- The change of a HOLD channel's input (R124, R125). -/
def Driver.holdInput (d : Driver) (id : HoldId) (active : Bool) : Driven :=
  let c := d.hold id
  match c.state, active with
  | .pullIn, true => (d.setHold id { c with window := none }, [])
  | .holding, true => (d.setHold id { c with window := none }, [])
  | .releasing, false => (d.setHold id { c with state := .off, window := none }, [.releaseConfirmed id])
  | _, _ => (d, [])

/-! ### PULSE channels (R128 to R135) -/

/-- A PDU reads open: its input is not active, unknown counting as inactive (R129). -/
def pduOpen (sc : Scanner) (p : Pdu) : Bool := !sc.active (pduContact p)

/-- An outcome read from the PDU's input is unconfirmed: the input is unknown or the scanner in fault (R129, R136). -/
def pduUnsure (sc : Scanner) (p : Pdu) : Bool := sc.fault || sc.value (pduContact p) = .unknown

/-- A record returned to READY: no attempt number, its timers stopped. -/
def PulseChannel.toReady (c : PulseChannel) : PulseChannel :=
  { c with state := .ready, attempt := none, pulseTimer := none, window := none }

/-- A record settled as SPENT. -/
def PulseChannel.toSpent (c : PulseChannel) (unconfirmed : Bool) : PulseChannel :=
  { c with state := .spent, attempt := none, pulseTimer := none, window := none, unconfirmed := unconfirmed }

/-- A record placed in the queue for an attempt. -/
def PulseChannel.toQueued (c : PulseChannel) (attempt : Attempt) : PulseChannel :=
  { c with state := .queued, attempt := some attempt, pulseTimer := none, window := none, unconfirmed := false }

/-- A channel enters QUEUED and joins at the tail (R128). -/
def Driver.enqueue (d : Driver) (id : PulseId) (attempt : Attempt) : Driver :=
  { d.setPulse id ((d.pulse id).toQueued attempt) with pulseQueue := d.pulseQueue ++ [id] }

/-- A close channel in QUEUED or FIRING is taken back to READY; a pulse cut short ends now (R132, R135). -/
def Driver.stopClose (d : Driver) (now : Stamp) (p : Pdu) : Driver :=
  match (d.pulse (.close p)).state with
  | .queued =>
    { d.setPulse (.close p) (d.pulse (.close p)).toReady with
      pulseQueue := d.pulseQueue.filter (· ≠ .close p) }
  | .firing => { d.setPulse (.close p) (d.pulse (.close p)).toReady with gap := some now }
  | .ready | .checking | .spent | .failed => d

/-- A trip request deals with the close channel of its PDU (R132). -/
def Driver.cutClose (d : Driver) (now : Stamp) (p : Pdu) : Driven :=
  match (d.pulse (.close p)).state with
  | .queued | .firing => (d.stopClose now p, [.closeCut p])
  | .checking => (d.setPulse (.close p) (d.pulse (.close p)).toReady, [.closeCut p])
  | .ready | .spent | .failed => (d, [])

/-- A trip request for one PDU (R129). -/
def Driver.requestTrip (d : Driver) (sc : Scanner) (now : Stamp) (p : Pdu) : Driven :=
  (d.cutClose now p).next fun d =>
    match (d.pulse (.trip p)).state with
    | .ready =>
      if pduOpen sc p then
        (d.setPulse (.trip p) ((d.pulse (.trip p)).toSpent (pduUnsure sc p)), [.tripOutcome p])
      else (d.enqueue (.trip p) .first, [])
    | .queued | .firing | .checking | .spent | .failed => (d, [])

/-- A confirmed close re-arms the trip channel of its PDU (R133). -/
def Driver.rearm (d : Driver) (p : Pdu) : Driver :=
  match (d.pulse (.trip p)).state with
  | .spent | .failed => d.setPulse (.trip p) { (d.pulse (.trip p)).toReady with unconfirmed := false }
  | .ready | .queued | .firing | .checking => d

/-- The re-arming of a close that completed; outside ENERGIZING the breaker is opened again at once (R133, R135). -/
def Driver.rearmAfterClose (d : Driver) (sc : Scanner) (now : Stamp) (energizing : Bool) (p : Pdu) : Driven :=
  if energizing then (d.rearm p, []) else (d.rearm p).requestTrip sc now p

/-- A close channel enters SPENT with its PDU reading closed: confirmed, or unconfirmed in a scan fault (R130, R131, R133,
R136). -/
def Driver.finishClose (d : Driver) (sc : Scanner) (now : Stamp) (energizing : Bool) (p : Pdu) : Driven :=
  let d' := d.setPulse (.close p) ((d.pulse (.close p)).toSpent sc.fault)
  if sc.fault then (d', [.closeUnconfirmed p])
  else Driven.next (d', [.closeConfirmed p]) fun d => d.rearmAfterClose sc now energizing p

/-- A close request for one PDU (R130). -/
def Driver.requestClose (d : Driver) (sc : Scanner) (now : Stamp) (energizing : Bool) (p : Pdu) : Driven :=
  match (d.pulse (.trip p)).state with
  | .queued | .firing => (d, [.closeRefused p])
  | .ready | .checking | .spent | .failed =>
    match (d.pulse (.close p)).state with
    | .queued | .firing | .checking => (d, [])
    | .ready | .spent | .failed =>
      if pduOpen sc p then (d.enqueue (.close p) .first, []) else d.finishClose sc now energizing p

/-- The arbiter's gap has been served: 250 ms since the last pulse ended, or none since reset (R131). -/
def Driver.gapServed (d : Driver) (now : Stamp) : Bool :=
  match d.gap with
  | none => true
  | some ended => pulseGap ≤ elapsed now ended

/-- A channel's coil is energized (R119). -/
def Driver.firing (d : Driver) (id : PulseId) : Bool := (d.pulse id).state = .firing

/-- Some coil is energized. -/
def Driver.anyFiring (d : Driver) : Bool :=
  d.firing (.trip .a) || d.firing (.trip .b) || d.firing (.close .a) || d.firing (.close .b)

/-- A channel begins its pulse (R131). -/
def Driver.fire (d : Driver) (now : Stamp) (id : PulseId) : Driver :=
  d.setPulse id { d.pulse id with state := .firing, pulseTimer := some now }

/-- The head taken out of the queue is judged (R131). -/
def Driver.judgeHead (d : Driver) (sc : Scanner) (now : Stamp) (energizing : Bool) (id : PulseId) : Driven :=
  match id with
  | .trip p =>
    if pduOpen sc p then
      (d.setPulse (.trip p) ((d.pulse (.trip p)).toSpent (pduUnsure sc p)), [.tripOutcome p])
    else (d.fire now (.trip p), [])
  | .close p =>
    if !energizing then (d.setPulse (.close p) (d.pulse (.close p)).toReady, [.closeWithdrawn p])
    else if pduOpen sc p then (d.fire now (.close p), [])
    else d.finishClose sc now energizing p

/-- The arbiter serves heads until one fires, the gap holds it back or the queue is empty, at most `n` of them (R131). -/
def Driver.serve (sc : Scanner) (now : Stamp) (energizing : Bool) : Nat → Driver → Driven
  | 0, d => (d, [])
  | n + 1, d =>
    if d.anyFiring || !d.gapServed now then (d, [])
    else match d.pulseQueue with
      | [] => (d, [])
      | id :: rest =>
        Driven.next (({ d with pulseQueue := rest } : Driver).judgeHead sc now energizing id)
          (Driver.serve sc now energizing n)

/-- The awaited condition of a PULSE channel holds: open after a trip, closed after a close (R133). -/
def awaitedHolds (sc : Scanner) : PulseId → Bool
  | .trip p => pduOpen sc p
  | .close p => !pduOpen sc p

/-- The awaited condition of a PULSE channel is met: SPENT, confirmed (R133). -/
def Driver.confirmPulse (d : Driver) (sc : Scanner) (now : Stamp) (energizing : Bool) : PulseId → Driven
  | .trip p => (d.setPulse (.trip p) ((d.pulse (.trip p)).toSpent false), [.tripOutcome p])
  | .close p =>
    Driven.next (d.setPulse (.close p) ((d.pulse (.close p)).toSpent false), [.closeConfirmed p])
      fun d => d.rearmAfterClose sc now energizing p

/-- A PULSE channel's check ends under a scan fault: SPENT, unconfirmed (R136). -/
def Driver.abandonCheck (d : Driver) : PulseId → Driven
  | .trip p => (d.setPulse (.trip p) ((d.pulse (.trip p)).toSpent true), [.tripOutcome p])
  | .close p => (d.setPulse (.close p) ((d.pulse (.close p)).toSpent true), [.closeUnconfirmed p])

/-- The pulse timer expires (R133). -/
def Driver.endPulse (d : Driver) (sc : Scanner) (now : Stamp) (energizing : Bool) (id : PulseId) : Driven :=
  let d := { d with gap := some now }
  if sc.fault then d.abandonCheck id
  else if awaitedHolds sc id then d.confirmPulse sc now energizing id
  else (d.setPulse id { d.pulse id with state := .checking, pulseTimer := none, window := some now }, [])

/-- The notice of a PULSE channel's failure (R134). -/
def failureNotice : PulseId → Notice
  | .trip p => .tripOutcome p
  | .close p => .closeFailed p

/-- A PULSE channel's confirmation window expires unmet: a retry, or FAILED (R134). -/
def Driver.missWindow (d : Driver) (id : PulseId) : Driven :=
  let c := d.pulse id
  if c.attempt = some .first then (d.enqueue id .second, [])
  else (d.setPulse id { c with state := .failed, attempt := none, window := none, failed := true },
    flagNotice c.failed ++ [failureNotice id])

/-- The change of a PDU's input: a channel in CHECKING that awaits this value is SPENT, confirmed (R133). -/
def Driver.pduInput (d : Driver) (sc : Scanner) (now : Stamp) (energizing : Bool) (p : Pdu) : Driven :=
  let settle := fun (id : PulseId) (d : Driver) =>
    if (d.pulse id).state = .checking && awaitedHolds sc id then d.confirmPulse sc now energizing id else (d, [])
  (settle (.trip p) d).next (settle (.close p))

/-- The restart phase has left ENERGIZING: queued and firing closes return to READY (R135). -/
def Driver.leaveEnergizing (d : Driver) (now : Stamp) : Driven :=
  let withdraw := fun (p : Pdu) (d : Driver) =>
    match (d.pulse (.close p)).state with
    | .queued | .firing => (d.stopClose now p, [Notice.closeWithdrawn p])
    | .ready | .checking | .spent | .failed => (d, [])
  Driven.next (withdraw .a d) (withdraw .b)

/-! ### Scan faults (R136, R137) and adoption (R139) -/

/-- A HOLD channel as the scan fault begins (R136). -/
def Driver.holdFault (d : Driver) (id : HoldId) : Driven :=
  let c := d.hold id
  match c.state with
  | .pullIn | .holding =>
    if c.window.isSome then (d.setHold id { c with window := none, unconfirmed := true }, []) else (d, [])
  | .releasing =>
    (d.setHold id { c with state := .off, window := none, unconfirmed := true }, [.releaseUnconfirmed id])
  | .off | .failed _ => (d, [])

/-- A PULSE channel as the scan fault begins (R136). -/
def Driver.pulseFault (d : Driver) (id : PulseId) : Driven :=
  if (d.pulse id).state = .checking then d.abandonCheck id else (d, [])

/-- The scan fault begins: the channels in channel-number order (R136, R138). -/
def Driver.faultBegins (d : Driver) : Driven :=
  (d.pulseFault (.trip .a)).next (·.pulseFault (.trip .b)) |>.next (·.holdFault .valve)
    |>.next (·.holdFault .coolstop) |>.next (·.pulseFault (.close .a)) |>.next (·.pulseFault (.close .b))

/-- The judgement of an unconfirmed HOLD channel at the fault's end (R137). A release judged confirmed is not told to the
coordinator a second time (DESIGN CHOICE, log 28). -/
def Driver.judgeHold (d : Driver) (sc : Scanner) (id : HoldId) : Driven :=
  let c := d.hold id
  if !c.unconfirmed then (d, [])
  else
    let met := match c.state with
      | .pullIn | .holding => sc.active (limitContact id)
      | .off => !sc.active (limitContact id)
      | .releasing | .failed _ => true
    (d.setHold id { c with unconfirmed := false, failed := c.failed || !met },
      if met then [] else flagNotice c.failed)

/-- The judgement of an unconfirmed PULSE channel at the fault's end (R137). A close judged confirmed is not told to the
coordinator a second time (DESIGN CHOICE, log 28). -/
def Driver.judgePulse (d : Driver) (sc : Scanner) (now : Stamp) (energizing : Bool) (id : PulseId) : Driven :=
  let c := d.pulse id
  if !c.unconfirmed then (d, [])
  else if c.state ≠ .spent then (d.setPulse id { c with unconfirmed := false }, [])
  else if awaitedHolds sc id then
    let d' := d.setPulse id { c with unconfirmed := false }
    match id with
    | .trip _ => (d', [])
    | .close p => d'.rearmAfterClose sc now energizing p
  else (d.setPulse id { c with unconfirmed := false, failed := true }, flagNotice c.failed)

/-- The scan fault ends: each unconfirmed channel is judged, in channel-number order (R137, R138). -/
def Driver.faultEnds (d : Driver) (sc : Scanner) (now : Stamp) (energizing : Bool) : Driven :=
  (d.judgePulse sc now energizing (.trip .a)).next (·.judgePulse sc now energizing (.trip .b))
    |>.next (·.judgeHold sc .valve) |>.next (·.judgeHold sc .coolstop)
    |>.next (·.judgePulse sc now energizing (.close .a)) |>.next (·.judgePulse sc now energizing (.close .b))

/-- The adoption of a trip channel (R139). -/
def Driver.adoptTrip (d : Driver) (sc : Scanner) (p : Pdu) : Driven :=
  if pduOpen sc p then
    (d.setPulse (.trip p) ((d.pulse (.trip p)).toSpent sc.fault), [.tripOutcome p])
  else (d, [])

/-- The adoption of a HOLD channel (R139). -/
def Driver.adoptHold (d : Driver) (sc : Scanner) (now : Stamp) (id : HoldId) : Driver :=
  if sc.fault || sc.active (limitContact id) then
    d.setHold id { d.hold id with
      state := .holding, pullInTimer := none, window := none, unconfirmed := sc.fault }
  else d.assertHold sc now id

/-- The adoption request of the channels of one stage (R139). -/
def Driver.adoptStage (d : Driver) (sc : Scanner) (now : Stamp) : Stage → Driven
  | .watch => (d, [])
  | .alert => ((d.assertLevel .advise).assertLevel .lift, [])
  | .quiesce => ((d.assertLevel .freeze).assertLevel .haltreq, [])
  | .isolate => (d.adoptTrip sc .a).next (·.adoptTrip sc .b)
  | .safe => ((d.adoptHold sc now .valve).adoptHold sc now .coolstop, [])

end Sys2Proof.Machine
end

