-- ==== Sys2Proof/Machine/Operands.lean ====
section
/-! DEFINITION. The wire formats of 03: frames, CRC, payload layouts both ways, and the receiver's judgement of bytes
(R46 to R53). -/

namespace Sys2Proof.Machine

/-! ### CRC (R47) -/

/-- One bit step of the CRC of generator x^16 + x^12 + x^5 + 1. -/
def crcShift (c : Word16) : Word16 := if c.getLsbD 15 then c <<< 1 ^^^ 0x1021 else c <<< 1

/-- One byte taken into the CRC, most significant bit first. -/
def crcByte (c : Word16) (b : Byte) : Word16 :=
  crcShift (crcShift (crcShift (crcShift (crcShift (crcShift (crcShift (crcShift
    (c ^^^ (b.zeroExtend 16 <<< 8)))))))))

/-- The CRC-16 of a run of bytes, from 0xFFFF, not inverted. -/
def crc16 (bytes : List Byte) : Word16 := bytes.foldl crcByte 0xFFFF

/-- The two CRC bytes as sent, high byte first. -/
def crcBytes (bytes : List Byte) : List Byte := [(crc16 bytes).extractLsb' 8 8, (crc16 bytes).extractLsb' 0 8]

/-! ### Frames (03, section 3.3) -/

/-- LENGTH of each KIND (R46); none for an unknown kind. -/
def kindLength : Nat → Option Nat
  | 1 => some 12
  | 2 | 3 | 4 | 5 => some 1
  | 6 => some 3
  | _ => none

/-- A telegram as bytes: SYNC, SENDER, KIND, LENGTH, payload, CRC over SENDER to the last payload byte. -/
def frameBytes (kind sender : Byte) (payload : List Byte) : List Byte :=
  let body := sender :: kind :: BitVec.ofNat 8 payload.length :: payload
  0x5A :: body ++ crcBytes body

/-- KIND codes of the restart telegrams. -/
def RestartKind.code : RestartKind → Byte
  | .bid => 2 | .claim => 3 | .yield => 4 | .done => 5

/-! ### STATE payload (R48) -/

/-- The fields of a STATE payload that carry a value. -/
structure StatePayload where
  grade : Option Grade
  detector : Detector
  phase : Phase
  stage : Stage
  eventNumber : Byte
  onsetAge : Word16
  fast : Bool
  permit : Bool
  congested : Bool
  clipped : Bool
  channelFailed : Bool
  scanFault : Bool
  duplicate : Bool
  resetSeen : Bool
  testKey : Bool
  utilityAbsent : Bool
  group : BitVec 2
  directiveResult : Option DirectiveResult
  directiveKind : Option DirectiveKind
  errors : Byte
  console : BitVec 2
  auxiliary : BitVec 6
  failed : BitVec 10
deriving DecidableEq, Repr

/-- Two nibbles as one byte. -/
def nibbles (high low : Nat) : Byte := BitVec.ofNat 8 (high * 16 + low)

/-- The high nibble of a byte. -/
def highNibble (b : Byte) : Nat := b.toNat / 16

/-- The low nibble of a byte. -/
def lowNibble (b : Byte) : Nat := b.toNat % 16

/-- The code of a reported grade on the line: 15 is unknown. -/
def gradeCode : Option Grade → Nat
  | some g => g.val
  | none => 15

/-- The reported grade of a code: 0 to 7, or 15 for unknown (R53). -/
def gradeOfCode? (n : Nat) : Option (Option Grade) :=
  if h : n < 8 then some (some ⟨n, h⟩) else if n = 15 then some none else none

/-- The code of a last directive kind, 0 for none. -/
def directiveKindCode : Option DirectiveKind → Nat
  | some k => k.code
  | none => 0

/-- The last directive kind of a code, 0 to 9 (R53). -/
def directiveKindOfCode? (n : Nat) : Option (Option DirectiveKind) :=
  if n = 0 then some none else (DirectiveKind.ofCode? n).map some

/-- The code of a last directive result, 0 for none yet. -/
def directiveResultCode : Option DirectiveResult → Nat
  | some r => r.code
  | none => 0

/-- The last directive result of a code, 0 to 4 (R53). -/
def directiveResultOfCode? (n : Nat) : Option (Option DirectiveResult) :=
  if n = 0 then some none else (DirectiveResult.ofCode? n).map some

/-- Payload byte 6: the flags, bit 7 first. -/
def StatePayload.flagByte (p : StatePayload) : Byte :=
  BitVec.ofBool p.fast ++ BitVec.ofBool p.permit ++ BitVec.ofBool p.congested ++ BitVec.ofBool p.clipped
    ++ BitVec.ofBool p.channelFailed ++ BitVec.ofBool p.scanFault ++ BitVec.ofBool p.duplicate
    ++ BitVec.ofBool p.resetSeen

/-- The twelve payload bytes of a STATE. -/
def StatePayload.encode (p : StatePayload) : List Byte :=
  [ nibbles (gradeCode p.grade) p.detector.code,
    nibbles p.phase.code p.stage.code,
    p.eventNumber,
    p.onsetAge.extractLsb' 8 8,
    p.onsetAge.extractLsb' 0 8,
    p.flagByte,
    (0 : BitVec 4) ++ BitVec.ofBool p.testKey ++ BitVec.ofBool p.utilityAbsent ++ p.group,
    nibbles (directiveResultCode p.directiveResult) (directiveKindCode p.directiveKind),
    p.errors,
    p.console ++ p.auxiliary,
    (0 : BitVec 6) ++ p.failed.extractLsb' 8 2,
    p.failed.extractLsb' 0 8 ]

/-- The fields read from the payload bytes of a STATE, the bits marked as sent 0 ignored (R48); none where a coded field
is out of range (R53) or the bytes are not twelve. -/
def StatePayload.decode? : List Byte → Option StatePayload
  | [b1, b2, b3, b4, b5, b6, b7, b8, b9, b10, b11, b12] => do
    let grade ← gradeOfCode? (highNibble b1)
    let detector ← Detector.ofCode? (lowNibble b1)
    let phase ← Phase.ofCode? (highNibble b2)
    let stage ← Stage.ofCode? (lowNibble b2)
    let result ← directiveResultOfCode? (highNibble b8)
    let kind ← directiveKindOfCode? (lowNibble b8)
    some {
      grade := grade
      detector := detector
      phase := phase
      stage := stage
      eventNumber := b3
      onsetAge := b4 ++ b5
      fast := b6.getLsbD 7
      permit := b6.getLsbD 6
      congested := b6.getLsbD 5
      clipped := b6.getLsbD 4
      channelFailed := b6.getLsbD 3
      scanFault := b6.getLsbD 2
      duplicate := b6.getLsbD 1
      resetSeen := b6.getLsbD 0
      testKey := b7.getLsbD 3
      utilityAbsent := b7.getLsbD 2
      group := b7.extractLsb' 0 2
      directiveResult := result
      directiveKind := kind
      errors := b9
      console := b10.extractLsb' 6 2
      auxiliary := b10.extractLsb' 0 6
      failed := b11.extractLsb' 0 2 ++ b12 }
  | _ => none

/-! ### Telegrams -/

/-- A valid telegram: one that has passed the three judgements of R53. -/
inductive Telegram where
  | state (sender : Byte) (payload : StatePayload)
  | restart (k : RestartKind) (sender : Byte) (group : BitVec 2)
  | directive (sender target : Byte) (kind : DirectiveKind) (argument : Byte)
deriving DecidableEq, Repr

/-- A restart telegram with its group byte, which must be 0 to 3 (R49). -/
def restartTelegram? (k : RestartKind) (sender : Byte) : List Byte → Option Telegram
  | [g] => if g.toNat ≤ 3 then some (.restart k sender (g.extractLsb' 0 2)) else none
  | _ => none

/-- A directive's payload: its target must be 0 to 31 or 63 and its kind 1 to 9; the argument is not judged (R49). -/
def directiveTelegram? (sender : Byte) : List Byte → Option Telegram
  | [target, kind, argument] =>
    if target.toNat < 32 ∨ target.toNat = 63 then
      (DirectiveKind.ofCode? kind.toNat).map fun k => .directive sender target k argument
    else none
  | _ => none

/-- The coded fields of a telegram of a kind, if they are in range (R53, second judgement). -/
def readFields? (kind : Nat) (sender : Byte) (payload : List Byte) : Option Telegram :=
  match kind with
  | 1 => (StatePayload.decode? payload).map (.state sender)
  | 2 => restartTelegram? .bid sender payload
  | 3 => restartTelegram? .claim sender payload
  | 4 => restartTelegram? .yield sender payload
  | 5 => restartTelegram? .done sender payload
  | 6 => directiveTelegram? sender payload
  | _ => none

/-- The kind suits the sender (R53, third judgement): a DIRECTIVE is from 32 to 35, every other kind from 0 to 31. -/
def Telegram.suitsSender : Telegram → Bool
  | .state sender _ => sender.toNat < 32
  | .restart _ sender _ => sender.toNat < 32
  | .directive sender _ _ _ => 32 ≤ sender.toNat && sender.toNat ≤ 35

/-! ### The receiver (R50 to R53) -/

/-- Why a telegram is discarded (03, section 3.4). -/
inductive Discard where
  | framing | badSync | badSender | unknownKind | badLength | crcFailure | outOfRange | wrongSender
deriving DecidableEq, Repr

/-- What the receiver makes of the bytes so far. -/
inductive Verdict where
  | pending
  | discarded (reason : Discard)
  | valid (t : Telegram)
deriving DecidableEq, Repr

/-- The judgement at a telegram's last byte: CRC, ranges, sender, the first that fails (R53). `rest` is what follows
LENGTH: payload and CRC bytes. -/
def judge (sender kind length : Byte) (rest : List Byte) : Verdict :=
  let payload := rest.take length.toNat
  if rest.drop length.toNat = crcBytes (sender :: kind :: length :: payload) then
    match readFields? kind.toNat sender payload with
    | some t => if t.suitsSender then .valid t else .discarded .wrongSender
    | none => .discarded .outOfRange
  else .discarded .crcFailure

/-- The judgement after each stored byte of a telegram in assembly (R51, R53). -/
def progress : List Byte → Verdict
  | [_, sender] => if sender.toNat ≤ 35 then .pending else .discarded .badSender
  | [_, _, kind] => if (kindLength kind.toNat).isSome then .pending else .discarded .unknownKind
  | [_, _, kind, length] =>
    if kindLength kind.toNat = some length.toNat then .pending else .discarded .badLength
  | _ :: sender :: kind :: length :: rest =>
    if rest.length = length.toNat + 2 then judge sender kind length rest else .pending
  | _ => .pending

/-- The receiver's state and buffer with its verdict so far. -/
structure Reception where
  receiver : Receiver
  buf : List Byte
  verdict : Verdict
deriving DecidableEq, Repr

/-- A byte stored in ASSEMBLE: a verdict sends the receiver to SKIP (R50). -/
def store (buf : List Byte) : Reception :=
  match progress buf with
  | .pending => ⟨.assemble, buf, .pending⟩
  | v => ⟨.skip, [], v⟩

/-- One byte off LRX (R50). -/
def receiveByte (receiver : Receiver) (buf : List Byte) (b : RxByte) : Reception :=
  match receiver with
  | .skip => ⟨.skip, [], .pending⟩
  | .ready =>
    if !b.stop then ⟨.skip, [], .discarded .framing⟩
    else if b.data = 0x5A then ⟨.assemble, [b.data], .pending⟩
    else ⟨.skip, [], .discarded .badSync⟩
  | .assemble =>
    if !b.stop then ⟨.skip, [], .discarded .framing⟩ else store (buf ++ [b.data])

/-- A run of bytes off LRX, up to the first verdict; the bytes after it are skipped (R50). -/
def receiveBytes (receiver : Receiver) (buf : List Byte) : List RxByte → Reception
  | [] => ⟨receiver, buf, .pending⟩
  | b :: bs =>
    let r := receiveByte receiver buf b
    match r.verdict with
    | .pending => receiveBytes r.receiver r.buf bs
    | _ => r

/-- Bytes sent with good stop bits. -/
def onTheLine (bytes : List Byte) : List RxByte := bytes.map fun b => ⟨b, true⟩

/-- Recessive bit times at the end of the k lowest bits of a byte, sent least significant first. -/
def recessiveTail (b : Byte) : Nat → Nat
  | 0 => 0
  | k + 1 => if b.getLsbD k then recessiveTail b k + 1 else 0

/-- Bit times without a dominant level at the end of a run of bytes: the last stop bit and the data bits before it. -/
def quietTail (bytes : List RxByte) : Nat :=
  match bytes.getLast? with
  | some b => if b.stop then 1 + recessiveTail b.data 8 else 0
  | none => 0

end Sys2Proof.Machine
end

