-- ==== Sys2Proof/Machine/Line.lean ====
section
/-! DEFINITION. The Line Unit (03): transmit queue, deferred request, access wait, backoff, line-stuck timer, error count. -/

namespace Sys2Proof.Machine

/-! ### Entries and the queue (R56) -/

/-- A STATE entry. -/
def TxEntry.isState (e : TxEntry) : Bool :=
  match e.kind with
  | .state _ => true
  | .restart _ => false

/-- The restart telegram an entry stands for. -/
def TxEntry.restart? (e : TxEntry) : Option RestartKind :=
  match e.kind with
  | .state _ => none
  | .restart k => some k

/-- A routine STATE entry. -/
def TxEntry.isRoutine (e : TxEntry) : Bool := e.kind = .state false

/-- A fresh entry (R57, R58): collision count 0, mark clear. -/
def TxEntry.new (kind : TxKind) : TxEntry := ⟨kind, 0, false⟩

/-- The re-send mark set (R57). -/
def TxEntry.mark (e : TxEntry) : TxEntry := { e with resend := true }

/-- The entry in transmission: the head while SENDING (R56). -/
def LineUnit.inTransit (l : LineUnit) : List TxEntry := if l.sending then l.queue.take 1 else []

/-- The entries not in transmission. -/
def LineUnit.waitingEntries (l : LineUnit) : List TxEntry := if l.sending then l.queue.drop 1 else l.queue

/-- The transmitter is WAITING (R56). -/
def LineUnit.waiting (l : LineUnit) : Bool := !l.sending && !l.queue.isEmpty

/-- The station is muted (R70). -/
def LineUnit.muted (l : LineUnit) : Bool := l.mute.isSome

/-- The access wait and the line-stuck timer judged afresh: the idle count runs while the transmitter is WAITING, the line
IDLE, the station not muted and the line-stuck flag clear (R61); the line-stuck timer runs while an entry waits, the station
is neither muted nor sending, and the line is BUSY (R66). -/
def LineUnit.rejudge (l : LineUnit) (now : Stamp) : LineUnit :=
  { l with
    idleCount :=
      if l.waiting && l.condition = .idle && !l.muted && !l.stuck then some (l.idleCount.getD 0) else none
    stuckTimer :=
      if l.waiting && l.condition = .busy && !l.muted then some (l.stuckTimer.getD now) else none }

/-! ### Notices (R57) -/

/-- The waiting entries after an urgent notice with no STATE in transmission. -/
def urgentInto (waiting : List TxEntry) : List TxEntry :=
  match waiting.find? TxEntry.isState with
  | none => .new (.state true) :: waiting
  | some e =>
    if e.isRoutine then { e with kind := .state true } :: waiting.filter (fun w => !w.isState) else waiting

/-- An urgent notice (R57). -/
def LineUnit.urgent (l : LineUnit) (now : Stamp) : LineUnit :=
  (if l.inTransit.any TxEntry.isState then
    { l with queue := l.inTransit.map TxEntry.mark ++ l.waitingEntries }
  else { l with queue := l.inTransit ++ urgentInto l.waitingEntries }).rejudge now

/-- A routine notice (R57). -/
def LineUnit.routine (l : LineUnit) (now : Stamp) : LineUnit :=
  (if l.queue.any TxEntry.isState then l
  else { l with queue := l.queue ++ [.new (.state false)] }).rejudge now

/-! ### Restart requests (R58, R59) -/

/-- A restart entry joins the waiting entries: ahead of a routine STATE, behind an urgent one (R56). -/
def addRestart (waiting : List TxEntry) (k : RestartKind) : List TxEntry :=
  match waiting.find? TxEntry.isState with
  | some e => if e.isRoutine then .new (.restart k) :: waiting else waiting ++ [.new (.restart k)]
  | none => waiting ++ [.new (.restart k)]

/-- A request meets the waiting entries (R58): added, put in the place of a waiting restart entry, or, a YIELD on an unsent
CLAIM, removed with it. -/
def requestInto (waiting : List TxEntry) (k : RestartKind) : List TxEntry :=
  match waiting.findSome? TxEntry.restart? with
  | none => addRestart waiting k
  | some held =>
    if held = .claim ∧ k = .yield then waiting.filter TxEntry.isState
    else waiting.map fun e => if e.isState then e else .new (.restart k)

/-- A request meets the deferred one (R59). -/
def deferInto (deferred : Option RestartKind) (k : RestartKind) : Option RestartKind :=
  if deferred = some .claim ∧ k = .yield then none else some k

/-- A request for a restart telegram (R58, R59). -/
def LineUnit.request (l : LineUnit) (now : Stamp) (k : RestartKind) : LineUnit :=
  (if l.inTransit.any (fun e => !e.isState) then { l with deferred := deferInto l.deferred k }
  else { l with queue := l.inTransit ++ requestInto l.waitingEntries k }).rejudge now

/-- The deferred request is applied at the end of the transmission that deferred it (R59). -/
def LineUnit.applyDeferred (l : LineUnit) (now : Stamp) : LineUnit :=
  match l.deferred with
  | some k => { l with deferred := none }.request now k
  | none => l

/-! ### Access (R61, R63) -/

/-- The class gap of an entry in slots (R61). -/
def TxEntry.classGap (e : TxEntry) : Nat :=
  match e.kind with
  | .state true => 0
  | .restart _ => 1
  | .state false => 2

/-- Backoff slots b(n) of a station for a collision count n of 1 or more (R63). -/
def backoffSlots (station n : Nat) : Nat := 1 + (station + 5 * (n - 1)) % 40

/-- The wait of an entry in bit times (R61). -/
def TxEntry.accessWait (e : TxEntry) (station : Nat) : Nat :=
  Config.bitTimesPerSlot
    * (e.classGap + if e.collisions = 0 then 0 else backoffSlots station e.collisions)

/-! ### Line condition and transmission -/

/-- A dominant level on LRX (R44): the line is BUSY, and the access count is lost (R61). -/
def LineUnit.busy (l : LineUnit) (now : Stamp) (quiet : Nat) : LineUnit :=
  { l with condition := .busy, quietBits := quiet }.rejudge now

/-- The head's transmission begins (R62, R55): its start bit makes the line BUSY. -/
def LineUnit.begin (l : LineUnit) (now : Stamp) (bytes : List Byte) : LineUnit :=
  { l with
    sending := true, txBytes := bytes, txBits := 0, receiver := .skip, rxBuf := [], inByte := false
    condition := .busy, quietBits := 0 }.rejudge now

/-- The transmission is over, whichever way (R55, R62). -/
def LineUnit.endSending (l : LineUnit) : LineUnit := { l with sending := false, txBytes := [], txBits := 0 }

/-- A completed transmission of an entry leaves the queue, congestion and heartbeat so (R57, R64). -/
def LineUnit.completed (l : LineUnit) (now : Stamp) (sent : TxEntry) (rest : List TxEntry) : LineUnit :=
  { l.endSending with
    queue := if sent.isState && sent.resend then .new (.state true) :: rest else rest
    congested := false
    heartbeat := if sent.isState then some now else l.heartbeat }.rejudge now

/-- An aborted transmission leaves the entry at the head with one collision more, its mark clear (R56, R57, R63). -/
def LineUnit.aborted (l : LineUnit) (now : Stamp) (head : TxEntry) (rest : List TxEntry) : LineUnit :=
  { l.endSending with
    queue := { head with collisions := min 255 (head.collisions + 1), resend := false } :: rest }.rejudge now

/-- The congestion flag turns on when a collision count reaches 16 (R65). -/
def LineUnit.congest (l : LineUnit) (now : Stamp) (collisions : Nat) : LineUnit :=
  if collisions = 16 ∧ !l.congested then { l with congested := true }.urgent now else l

/-- A telegram discarded adds one to the line error count, up to 255 (R54). -/
def LineUnit.countError (l : LineUnit) : LineUnit := { l with errors := min 255 (l.errors + 1) }

/-- The heartbeat timer expires (R68). -/
def LineUnit.beat (l : LineUnit) (now : Stamp) : LineUnit := { l with heartbeat := none }.routine now

/-- The period of the present cadence (R68). -/
def LineUnit.period (l : LineUnit) : Nat := if l.fast then fastPeriod else slowPeriod

/-- The cadence judged afresh (R68): turning FAST measures the heartbeat against 100 ms at once and makes an urgent STATE
due. -/
def LineUnit.setCadence (l : LineUnit) (now : Stamp) (fast : Bool) : LineUnit :=
  if fast && !l.fast then
    let l := { l with fast := true }
    (if ranFor now l.heartbeat fastPeriod then l.beat now else l).urgent now
  else { l with fast := fast }

/-! ### The driven level (R43, R62) -/

/-- The level of one bit of a byte as sent: start bit dominant, data least significant first, stop bit recessive; true is
recessive. -/
def byteLevel (b : Byte) (k : Nat) : Bool := if k = 0 then false else if k = 9 then true else b.getLsbD (k - 1)

/-- The level of bit k of a telegram as sent. -/
def telegramLevel (bytes : List Byte) (k : Nat) : Bool :=
  match bytes[k / Config.bitTimesPerByte]? with
  | some b => byteLevel b (k % Config.bitTimesPerByte)
  | none => true

/-- The station drives a dominant level: LDE asserted with LTX low (R43). -/
def LineUnit.drivesDominant (l : LineUnit) : Bool := l.sending && !telegramLevel l.txBytes l.txBits

/-- Bits of the telegram in transmission. -/
def LineUnit.txLength (l : LineUnit) : Nat := Config.bitTimesPerByte * l.txBytes.length

/-- One bit time passes on the line (R44, R52, R61, R62). -/
def LineUnit.tick (l : LineUnit) : LineUnit :=
  { l with
    idleCount := l.idleCount.map (· + 1)
    quietBits := if l.drivesDominant then 0 else min 24 (l.quietBits + 1)
    gapBits := if l.inByte then l.gapBits else min 30 (l.gapBits + 1)
    txBits := if l.sending then min l.txLength (l.txBits + 1) else l.txBits }

end Sys2Proof.Machine
end

