-- ==== Sys2Proof/Machine/Peers.lean ====
section
/-! DEFINITION. The Peer Table (04): what telegrams and expiries do to a record, and the quantities formed from the
records. -/

namespace Sys2Proof.Machine

/-! ### Records -/

/-- The record of a station number. -/
def recordOf (peers : List PeerRecord) (n : Nat) : PeerRecord :=
  match peers[n]? with
  | some r => r
  | none => .never

/-- A telegram brings its sender's record to life (R73). -/
def PeerRecord.hear (r : PeerRecord) (stamp : Stamp) (group : BitVec 2) : PeerRecord :=
  match r.liveness with
  | .never | .lost => { PeerRecord.never with liveness := .live, lastHeard := some stamp, group := some group }
  | .live | .quiet => { r with liveness := .live, lastHeard := some stamp, group := some group }

/-- A new event part, unless the onset age is saturated (R76). -/
def newEventPart (stamp : Stamp) (p : StatePayload) : Option EventPart :=
  if p.onsetAge = 0xFFFF then none else some ⟨p.eventNumber, stamp - p.onsetAge.zeroExtend 32⟩

/-- A STATE on the event part (R76). -/
def PeerRecord.eventAfter (r : PeerRecord) (stamp : Stamp) (p : StatePayload) : Option EventPart :=
  if p.detector.inEvent then
    match r.event with
    | some e => if e.number = p.eventNumber then some e else newEventPart stamp p
    | none => newEventPart stamp p
  else none

/-- The phase shows a claim: CONTEST or ENERGIZING (R77). -/
def Phase.claiming : Phase → Bool
  | .contest | .energizing => true
  | .none | .quietWait | .awaitPermit | .bidding | .backoff | .rejoin => false

/-- A STATE on the claim part (R77). -/
def PeerRecord.claimAfter (r : PeerRecord) (stamp : Stamp) (phase : Phase) : Option Stamp :=
  if phase.claiming then
    match r.claim with
    | some c => some c
    | none => if r.spent then none else some stamp
  else none

/-- A valid STATE applied to a record brought to life (R75 to R77). -/
def PeerRecord.takeState (r : PeerRecord) (stamp : Stamp) (p : StatePayload) : PeerRecord :=
  { r with
    report := some ⟨p.detector, p.grade, p.stage, p.phase⟩
    event := r.eventAfter stamp p
    bid := if p.phase = .bidding then r.bid else none
    claim := r.claimAfter stamp p.phase
    spent := r.spent && p.phase.claiming }

/-- A valid BID, CLAIM, YIELD or DONE applied to a record brought to life (R78 to R80). -/
def PeerRecord.takeRestart (r : PeerRecord) (stamp : Stamp) : RestartKind → PeerRecord
  | .bid => { r with bid := some stamp, claim := none, spent := false }
  | .claim => { r with bid := none, claim := some stamp, spent := false }
  | .yield => { r with bid := none, claim := none }
  | .done => { r with bid := none, claim := none, spent := false }

/-- Ageing to QUIET (R81). -/
def PeerRecord.toQuiet (r : PeerRecord) : PeerRecord := { r with liveness := .quiet, bid := none }

/-- Ageing to LOST (R82). -/
def PeerRecord.toLost (r : PeerRecord) : PeerRecord :=
  { r with liveness := .lost, report := none, event := none, bid := none, claim := none, spent := false }

/-- The bid part's life has run out (R83). -/
def PeerRecord.dropBid (r : PeerRecord) : PeerRecord := { r with bid := none }

/-- The claim part has expired (R84). -/
def PeerRecord.spendClaim (r : PeerRecord) : PeerRecord := { r with claim := none, spent := true }

/-- The time since a stamp exceeds an age. -/
def olderThan (now : Stamp) (stamp : Option Stamp) (age : Nat) : Bool := ranFor now stamp (age + 1)

/-! ### Quantities for the stage decision (section 4.4) -/

/-- A record is able (R87). -/
def PeerRecord.able (r : PeerRecord) : Bool :=
  match r.liveness, r.report with
  | .live, some report => report.detector = .calm || report.detector.inEvent
  | _, _ => false

/-- The able count A (R87). -/
def ableCount (peers : List PeerRecord) : Nat := peers.countP PeerRecord.able

/-- The need N for an able count of 1 or more (R88). -/
def needOf (able q : Nat) : Nat := max 1 (min 4 ((able * q + 7) / 8))

/-- A record concurs with the station's own onset (R89). -/
def PeerRecord.concurs (r : PeerRecord) (own : Stamp) (window : Nat) : Bool :=
  match r.report, r.event with
  | some report, some part =>
    r.able && report.detector.inEvent
      && (match report.grade with
          | some g => 2 ≤ g.val
          | none => false)
      && distance part.estimate own ≤ window
  | _, _ => false

/-- The concurrence count C (R89): 0 while no own onset is offered. -/
def concurrence (peers : List PeerRecord) (own : Option Stamp) (window : Nat) : Nat :=
  match own with
  | some onset => peers.countP fun r => r.concurs onset window
  | none => 0

/-- An able record at a stage or above (R90). -/
def PeerRecord.ableAt (r : PeerRecord) (stage : Stage) : Bool :=
  r.able && (match r.report with
    | some report => stage.code ≤ report.stage.code
    | none => false)

/-- The count of able peers at a stage or above (R90). -/
def ableAtOrAbove (peers : List PeerRecord) (stage : Stage) : Nat := peers.countP fun r => r.ableAt stage

/-- An able record at a stage or above whose reported restart phase is not NONE (R90). -/
def PeerRecord.restartingAt (r : PeerRecord) (stage : Stage) : Bool :=
  r.ableAt stage && (match r.report with
    | some report => report.phase ≠ .none
    | none => false)

/-- The count of R90 restricted to peers in restart. -/
def restartingAtOrAbove (peers : List PeerRecord) (stage : Stage) : Nat :=
  peers.countP fun r => r.restartingAt stage

/-! ### Quantities for restart (section 4.5) -/

/-- A record's restart key (R91), with its station number. -/
def PeerRecord.key (r : PeerRecord) (n : Nat) : Nat :=
  match r.group with
  | some g => restartKey g n
  | none => n

/-- The claimers (R92). -/
def claimers (peers : List PeerRecord) : Nat := peers.countP fun r => r.claim.isSome

/-- The records holding a bid part with a key below k (R92). -/
def biddersBelow (peers : List PeerRecord) (k : Nat) : Nat :=
  peers.zipIdx.countP fun (r, n) => r.bid.isSome && r.key n < k

/-- An energizing claimer (R93). -/
def PeerRecord.energizingClaimer (r : PeerRecord) : Bool :=
  r.claim.isSome && (match r.report with
    | some report => report.phase = .energizing
    | none => false)

/-- A contesting claimer (R93). -/
def PeerRecord.contestingClaimer (r : PeerRecord) : Bool := r.claim.isSome && !r.energizingClaimer

/-- The energizing claimers plus the contesting claimers with a key below k (R93). -/
def contenders (peers : List PeerRecord) (k : Nat) : Nat :=
  peers.zipIdx.countP fun (r, n) => r.energizingClaimer || (r.contestingClaimer && r.key n < k)

end Sys2Proof.Machine
end

