-- ==== Sys2Proof/Machine/Ops.lean ====
section
/-! DEFINITION. The operations the commands share. `View` is what the four acting blocks read of the others; the operations
on `Actors` are the calls these four make of one another within one event. -/

namespace Sys2Proof.Machine

/-- What Line Unit, Stage Sequencer, Channel Driver and Restart Coordinator read of the other blocks in an event. -/
structure View where
  now : Stamp
  straps : Straps
  assessor : Assessor
  peers : List PeerRecord
  scanner : Scanner

/-- What a state offers its acting blocks. -/
def State.view (s : State) : View := ⟨s.clock, s.straps, s.assessor, s.peers, s.scanner⟩

/-- The latched profile (R178). -/
def View.profile (v : View) : Profile := profileOf v.straps

/-- The station's own restart key (R91). -/
def View.key (v : View) : Nat := restartKey v.straps.rgp v.straps.stn.toNat

/-- The limit K (R159): the strap's, or 1 while the utility is absent (input 8). -/
def View.limit (v : View) : Nat := if v.scanner.active 8 then 1 else if v.straps.kmx = 0 then 1 else 2

/-- The restart key is turned (input 7). -/
def View.keyTurned (v : View) : Bool := v.scanner.active 7

/-- The able count A of the Peer Table as it stands (R87). -/
def View.able (v : View) : Nat := ableCount v.peers

/-- The need N (R88); it exists while A is 1 or more. -/
def View.need (v : View) : Nat := needOf v.able v.profile.q

/-! ### The Line Unit's services to the other blocks -/

/-- The Line Unit replaced. -/
def Actors.withLine (a : Actors) (l : LineUnit) : Actors := { a with line := l }

/-- The Stage Sequencer replaced. -/
def Actors.withSeq (a : Actors) (q : Sequencer) : Actors := { a with seq := q }

/-- The Channel Driver replaced. -/
def Actors.withDrv (a : Actors) (d : Driver) : Actors := { a with drv := d }

/-- The Restart Coordinator replaced. -/
def Actors.withCoord (a : Actors) (c : Coordinator) : Actors := { a with coord := c }

/-- An urgent notice to the Line Unit (R67). -/
def Actors.urgent (a : Actors) (v : View) : Actors := a.withLine (a.line.urgent v.now)

/-- A restart telegram asked of the Line Unit (R58). -/
def Actors.request (a : Actors) (v : View) (k : RestartKind) : Actors := a.withLine (a.line.request v.now k)

/-- The restart phases at the fast cadence (R68). -/
def Phase.isFast : Phase → Bool
  | .bidding | .contest | .energizing | .backoff | .rejoin => true
  | .none | .quietWait | .awaitPermit => false

/-- The cadence is to be FAST (R68). -/
def Actors.wantsFast (a : Actors) (v : View) : Bool :=
  v.assessor.detector.inEvent || a.seq.stage ≠ .watch || a.coord.phase.isFast

/-- The stand-down timer is to run (R114). -/
def Actors.wantsStandDown (a : Actors) (v : View) : Bool :=
  a.seq.stage = .alert && v.assessor.detector = .calm && a.coord.phase = .none && !a.seq.rejoinHold

/-- Cadence and stand-down timer judged afresh, at every change of what they depend on (R68, R114). -/
def Actors.judge (a : Actors) (v : View) : Actors :=
  { a with
    line := a.line.setCadence v.now (a.wantsFast v)
    seq := { a.seq with
      standDown := if a.wantsStandDown v then some (a.seq.standDown.getD v.now) else none } }

/-! ### The driver's notices to the sequencer and the Line Unit -/

/-- Both trip channels have ended: SPENT or FAILED (R107). -/
def Driver.tripsEnded (d : Driver) : Bool :=
  tripEnded d.tripA && tripEnded d.tripB
where
  /-- A trip channel stands SPENT or FAILED. -/
  tripEnded (c : PulseChannel) : Bool :=
    match c.state with
    | .spent | .failed => true
    | .ready | .queued | .firing | .checking => false

/-- Assertion of VALVE, then COOLSTOP, each if not asserted (R101, R107). -/
def Driver.assertSafe (d : Driver) (v : View) : Driver :=
  (d.assertHold v.scanner v.now .valve).assertHold v.scanner v.now .coolstop

/-- A trip outcome notice meets the SAFE wait (R107, R108). -/
def Actors.tripOutcome (a : Actors) (v : View) : Actors :=
  if a.seq.safeWait && a.drv.tripsEnded then
    { a with drv := a.drv.assertSafe v, seq := { a.seq with safeWait := false } }
  else a

/-- A driver's notice as sequencer and Line Unit take it; the coordinator's are none of theirs (R138). -/
def Actors.hear (a : Actors) (v : View) : Notice → Actors
  | .tripOutcome _ => a.tripOutcome v
  | .failedFlag => a.urgent v
  | .closeConfirmed _ | .closeUnconfirmed _ | .closeFailed _ | .closeRefused _ | .closeCut _ | .closeWithdrawn _
  | .releaseConfirmed _ | .releaseUnconfirmed _ | .releaseFailed _ => a

/-- A driver operation whose notices concern sequencer and Line Unit alone. -/
def Actors.drive (a : Actors) (v : View) (f : Driver → Driven) : Actors :=
  (f a.drv).2.foldl (fun a n => a.hear v n) (a.withDrv (f a.drv).1)

/-- Trip requests for TRIP-A, then TRIP-B, each if it stands READY (R101, R104). -/
def Actors.tripReady (a : Actors) (v : View) : Actors :=
  let one := fun (p : Pdu) (a : Actors) =>
    if (a.drv.pulse (.trip p)).state = .ready then a.drive v (·.requestTrip v.scanner v.now p) else a
  one .b (one .a a)

end Sys2Proof.Machine
end

