-- ==== Sys2Proof/Machine/Flags.lean ====
section
/-! DEFINITION. The flags and fields a STATE carries (R48, R69), and the levels of the output pins (R43, R119, R140),
each a function of the state that owns it. -/

namespace Sys2Proof.Machine

/-! ### The failed bitmap (06, section 6.2) -/

/-- The failed flags of the ten channels, bit k for channel k. -/
def Driver.failedBitmap (d : Driver) : BitVec 10 :=
  BitVec.ofBool d.closeB.failed ++ BitVec.ofBool d.closeA.failed ++ BitVec.ofBool d.coolstop.failed
    ++ BitVec.ofBool d.valve.failed ++ BitVec.ofBool d.tripB.failed ++ BitVec.ofBool d.tripA.failed
    ++ BitVec.ofBool d.haltreq.failed ++ BitVec.ofBool d.freeze.failed ++ BitVec.ofBool d.lift.failed
    ++ BitVec.ofBool d.advise.failed

/-- Any channel's failed flag is set (R48). -/
def Driver.channelFailed (d : Driver) : Bool := d.failedBitmap ≠ 0

/-! ### STATE content -/

/-- The onset age (R69): the time since the offered onset, saturated at 65535; 0 where none is offered. -/
def onsetAge (now : Stamp) (onset : Option Stamp) : Word16 :=
  match onset with
  | some o => BitVec.ofNat 16 (min 65535 (elapsed now o))
  | none => 0

/-- The auxiliary inputs 15 to 10, bit 0 for input 10 (R48). -/
def auxiliaryBits (sc : Scanner) : BitVec 6 :=
  BitVec.ofBool (sc.active 15) ++ BitVec.ofBool (sc.active 14) ++ BitVec.ofBool (sc.active 13)
    ++ BitVec.ofBool (sc.active 12) ++ BitVec.ofBool (sc.active 11) ++ BitVec.ofBool (sc.active 10)

/-- The fields of the station's own STATE, gathered from their owners (R69). -/
def State.stateContent (s : State) : StatePayload where
  grade := s.assessor.grade
  detector := s.assessor.detector
  phase := s.act.coord.phase
  stage := s.act.seq.stage
  eventNumber := s.assessor.event.number
  onsetAge := onsetAge s.clock s.assessor.onset
  fast := s.act.line.fast
  permit := s.act.coord.permit
  congested := s.act.line.congested
  clipped := s.assessor.event.clipped
  channelFailed := s.act.drv.channelFailed
  scanFault := s.scanner.fault
  duplicate := s.duplicate
  resetSeen := s.startup.resetSeen
  testKey := s.scanner.active 9
  utilityAbsent := s.scanner.active 8
  group := s.straps.rgp
  directiveResult := s.directive.result
  directiveKind := s.directive.kind
  errors := BitVec.ofNat 8 s.act.line.errors
  console := s.directive.console
  auxiliary := auxiliaryBits s.scanner
  failed := s.act.drv.failedBitmap

/-- The station's own SENDER byte (R46). -/
def State.sender (s : State) : Byte := s.straps.stn.zeroExtend 8

/-- The telegram an entry is sent as (R46, R49, R69). -/
def State.telegramOf (s : State) (e : TxEntry) : List Byte :=
  match e.kind with
  | .state _ => frameBytes 1 s.sender s.stateContent.encode
  | .restart k => frameBytes k.code s.sender [s.straps.rgp.zeroExtend 8]

/-! ### Output pins -/

/-- A HOLD channel's output is energized (R119). -/
def HoldChannel.energized (c : HoldChannel) : Bool :=
  match c.state with
  | .pullIn | .holding => true
  | .failed drive => drive
  | .off | .releasing => false

/-- A LEVEL channel's output is energized (R119). -/
def LevelChannel.energized (c : LevelChannel) : Bool :=
  match c.state with
  | .asserted | .testing => true
  | .normal => false

/-- A PULSE channel's output is energized (R119). -/
def PulseChannel.energized (c : PulseChannel) : Bool := c.state = .firing

/-- The outputs CO0 to CO9, bit k for COk (R119). -/
def Driver.outputs (d : Driver) : BitVec 10 :=
  BitVec.ofBool d.closeB.energized ++ BitVec.ofBool d.closeA.energized ++ BitVec.ofBool d.coolstop.energized
    ++ BitVec.ofBool d.valve.energized ++ BitVec.ofBool d.tripB.energized ++ BitVec.ofBool d.tripA.energized
    ++ BitVec.ofBool d.haltreq.energized ++ BitVec.ofBool d.freeze.energized ++ BitVec.ofBool d.lift.energized
    ++ BitVec.ofBool d.advise.energized

/-- HDR: asserted while at least one HOLD channel is energized and neither is in PULL_IN (R119). -/
def Driver.hdr (d : Driver) : Bool :=
  (d.valve.energized || d.coolstop.energized) && d.valve.state ≠ .pullIn && d.coolstop.state ≠ .pullIn

/-- LDE: asserted for each dominant bit driven (R43). -/
def LineUnit.lde (l : LineUnit) : Bool := l.drivesDominant

/-- LTX: low for each dominant bit driven (R43). Its level while LDE is released the spec leaves open: the model has it high
(DESIGN CHOICE, log 29). -/
def LineUnit.ltx (l : LineUnit) : Bool := !l.drivesDominant

/-- The levels of the chain's two outputs: CSL and CSK, true is high (07, section 7.1). -/
structure ChainPins where
  csl : Bool
  csk : Bool
deriving DecidableEq, Repr

/-- At rest CSL is high and CSK low (07, section 7.1). -/
def ChainPins.rest : ChainPins := ⟨true, false⟩

/-- CSL low loads the chain (R140). -/
def ChainPins.load : ChainPins := ⟨false, false⟩

/-- CSK high: the rising edge has brought the next bit (R140). -/
def ChainPins.shifted : ChainPins := ⟨true, true⟩

/-- The levels a scan drives, in order (R140): CSL low and high again, when bit 1 is sampled, then for each later bit a rising
edge of CSK, when that bit is sampled, and the return to low. -/
def scanLevels : List ChainPins :=
  [.load, .rest] ++ (List.replicate (Config.scanBits - 1) [ChainPins.shifted, .rest]).flatten

/-- The levels the chain's pins take from now to the next event of the scanner, in order: those of the scan under way, or rest
(R140). The edges of a scan are no commands of their own (log 24). -/
def Scanner.chainLevels (sc : Scanner) : List ChainPins := if sc.scanning then scanLevels else [.rest]

/-- The pins as an event leaves them: a scan begins with CSL low (R140). -/
def Scanner.chainPins (sc : Scanner) : ChainPins := if sc.scanning then .load else .rest

/-- CSL: the load strobe (R140). -/
def Scanner.csl (sc : Scanner) : Bool := sc.chainPins.csl

/-- CSK: the shift clock (R140). -/
def Scanner.csk (sc : Scanner) : Bool := sc.chainPins.csk

end Sys2Proof.Machine
end

