-- ==== Sys2Proof/Machine/Zone.lean ====
section
/-! DEFINITION. Bringing the zone up to a stage, and the ISOLATE grace (05, sections 5.4 and 5.5). -/

namespace Sys2Proof.Machine

/-- The grace ends, by expiry or by a cut (R104); one that does not run is left as it is. -/
def Actors.endGrace (a : Actors) (v : View) : Actors :=
  match a.seq.grace with
  | .running _ => (a.withSeq { a.seq with grace := .ended }).tripReady v
  | .none | .ended => a

/-- The grade-7 condition (R106): an event of reported grade 7, with the target held at 3 or more. -/
def Actors.grade7 (a : Actors) (v : View) : Bool :=
  v.assessor.detector.inEvent && v.assessor.grade = some 7 && 3 ≤ a.seq.target.code

/-- The cuts tested as a grace starts (R103): input 5 already active (R105), or the grade-7 condition (R106). -/
def Actors.cutAtStart (a : Actors) (v : View) : Actors :=
  if v.scanner.active 5 || a.grade7 v then a.endGrace v else a

/-- What stage 3 asks for (R101, R103). -/
def Actors.bringIsolate (a : Actors) (v : View) : Actors :=
  match a.seq.grace with
  | .none =>
    (a.withSeq { a.seq with grace := .running (later v.now v.profile.grace) }).cutAtStart v
  | .running _ => a
  | .ended => a.tripReady v

/-- What stage 4 asks for (R101, R107). -/
def Actors.bringSafe (a : Actors) (v : View) : Actors :=
  if a.drv.valve.asserted && a.drv.coolstop.asserted then a
  else if a.drv.tripsEnded then a.withDrv (a.drv.assertSafe v)
  else a.withSeq { a.seq with safeWait := true }

/-- What one stage needs and does not have (R101). -/
def Actors.bringOne (a : Actors) (v : View) : Stage → Actors
  | .watch => a
  | .alert => a.withDrv ((a.drv.assertLevel .advise).assertLevel .lift)
  | .quiesce => a.withDrv ((a.drv.assertLevel .freeze).assertLevel .haltreq)
  | .isolate => a.bringIsolate v
  | .safe => a.bringSafe v

/-- The stages from ALERT up to a stage, in rising order. -/
def stagesTo : Stage → List Stage
  | .watch => []
  | .alert => [.alert]
  | .quiesce => [.alert, .quiesce]
  | .isolate => [.alert, .quiesce, .isolate]
  | .safe => [.alert, .quiesce, .isolate, .safe]

/-- The zone is brought up to a stage (R101). -/
def Actors.bringUp (a : Actors) (v : View) (stage : Stage) : Actors :=
  (stagesTo stage).foldl (fun a s => a.bringOne v s) a

end Sys2Proof.Machine
end

