-- ==== Sys2Proof/Machine/Restart.lean ====
section
/-! DEFINITION. The Restart Coordinator's phases up to energizing (08, sections 8.1 to 8.7), and the abort of R172. -/

namespace Sys2Proof.Machine

/-- The phase is one that may hold a claim: BIDDING, CONTEST or ENERGIZING (R152). -/
def Phase.inTurn : Phase → Bool
  | .bidding | .contest | .energizing => true
  | .none | .quietWait | .awaitPermit | .backoff | .rejoin => false

/-- A phase that gives a turn up: QUIET_WAIT, AWAIT_PERMIT or BACKOFF (R152). -/
def Phase.standsAside : Phase → Bool
  | .quietWait | .awaitPermit | .backoff => true
  | .none | .bidding | .contest | .energizing | .rejoin => false

/-- The turn is given up (R152): the YIELD if a claim is outstanding, marks and windows cleared. -/
def Actors.withdrawClaim (a : Actors) (v : View) : Actors :=
  let a' := if a.coord.claimOutstanding then a.request v .yield else a
  a'.withCoord { a'.coord with
    claimOutstanding := false, claimPending := false, bidWindow := none, contest := none }

/-- ENERGIZING is left (R152): the driver is told (R135), step and hold pending are discarded. -/
def Actors.leaveEnergizing (a : Actors) (v : View) : Actors :=
  let a' := a.drive v (·.leaveEnergizing v.now)
  a'.withCoord { a'.coord with step := .none, holdPending := false }

/-- The coordinator in a new phase; the quiet start and the stagger belong to their own phases. -/
def Coordinator.enter (c : Coordinator) (phase : Phase) : Coordinator :=
  { c with phase := phase, quietStart := none, stagger := none }

/-- A change of restart phase (R152). -/
def Actors.setPhase (a : Actors) (v : View) (phase : Phase) : Actors :=
  if a.coord.phase = phase then a
  else
    let a₁ := if a.coord.phase.inTurn && phase.standsAside then a.withdrawClaim v else a
    let a₂ := if a.coord.phase = .energizing then a₁.leaveEnergizing v else a₁
    ((a₂.withCoord (a₂.coord.enter phase)).judge v).urgent v

/-! ### The quiet wait (section 8.2) -/

/-- The quiet wait starts afresh (R153). -/
def Actors.restartWait (a : Actors) (v : View) : Actors :=
  a.withCoord { a.coord with quietStart := if v.assessor.detector = .calm then some v.now else none }

/-- Entry to QUIET_WAIT, or the wait restarted in place (R153, R154). -/
def Actors.enterQuietWait (a : Actors) (v : View) : Actors := (a.setPhase v .quietWait).restartWait v

/-- ENERGIZING is aborted (R172): phase, wait, abort notice, on which the sequencer brings the zone up to the stage it
holds (R113). -/
def Actors.abort (a : Actors) (v : View) : Actors :=
  let a' := a.enterQuietWait v
  a'.bringUp v a'.seq.stage

/-- A rise notice (R102) as the coordinator takes it (R153, R154, R165, R172). -/
def Actors.onRise (a : Actors) (v : View) (new : Stage) : Actors :=
  match a.coord.phase with
  | .none => if 2 ≤ new.code then a.enterQuietWait v else a
  | .quietWait | .awaitPermit | .bidding | .contest | .backoff => a.enterQuietWait v
  | .energizing => a.abort v
  | .rejoin => a

/-- A trip notice (R109, R110) as the coordinator takes it (R154, R165, R172). -/
def Actors.onTrip (a : Actors) (v : View) : Actors :=
  match a.coord.phase with
  | .quietWait | .awaitPermit | .bidding | .contest | .backoff => a.enterQuietWait v
  | .energizing => a.abort v
  | .none | .rejoin => a

/-- The detector has left CALM (R154, R165). -/
def Actors.onLeftCalm (a : Actors) (v : View) : Actors :=
  match a.coord.phase with
  | .quietWait | .awaitPermit | .bidding | .contest | .backoff => a.enterQuietWait v
  | .none | .energizing | .rejoin => a

/-- The detector has entered CALM (R154). -/
def Actors.onEnteredCalm (a : Actors) (v : View) : Actors :=
  if a.coord.phase = .quietWait then a.withCoord { a.coord with quietStart := some v.now } else a

/-! ### Leave to restart (section 8.3) -/

/-- The restart key gives authority (R156). -/
def Actors.keyAuthority (a : Actors) (v : View) : Bool := v.keyTurned && !a.coord.keyWithheld

/-- The authority check (R157). -/
def Actors.authorityHolds (a : Actors) (v : View) : Bool :=
  ((a.coord.permit && !a.line.stuck) || a.keyAuthority v) && !a.line.muted && !v.scanner.fault

/-- Entry to BIDDING (R158). -/
def Actors.enterBidding (a : Actors) (v : View) : Actors := (a.setPhase v .bidding).request v .bid

/-- The authority check made in AWAIT_PERMIT (R157). -/
def Actors.checkAuthority (a : Actors) (v : View) : Actors :=
  if a.coord.phase = .awaitPermit && a.authorityHolds v then a.enterBidding v else a

/-- Entry to AWAIT_PERMIT, with its authority check (R157). -/
def Actors.enterAwaitPermit (a : Actors) (v : View) : Actors := (a.setPhase v .awaitPermit).checkAuthority v

/-! ### Turn-taking (sections 8.4 to 8.6) -/

/-- The backoff stagger has ended (R164): BIDDING if the authority check holds, else AWAIT_PERMIT. -/
def Actors.endStagger (a : Actors) (v : View) : Actors :=
  if a.authorityHolds v then a.enterBidding v else a.enterAwaitPermit v

/-- The stagger of a key (R164). -/
def staggerOf (key : Nat) : Nat := key % 8 * staggerStep

/-- The comparison of BACKOFF (R164). -/
def Actors.compareBackoff (a : Actors) (v : View) : Actors :=
  if a.coord.phase ≠ .backoff then a
  else if v.limit ≤ claimers v.peers then a.withCoord { a.coord with stagger := none }
  else if a.coord.stagger.isSome then a
  else if staggerOf v.key = 0 then a.endStagger v
  else a.withCoord { a.coord with stagger := some (later v.now (staggerOf v.key)) }

/-- Entry to BACKOFF, with its first comparison (R164). -/
def Actors.enterBackoff (a : Actors) (v : View) : Actors := (a.setPhase v .backoff).compareBackoff v

/-- The end of the bid window (R160). -/
def Actors.endBidWindow (a : Actors) (v : View) : Actors :=
  let c := claimers v.peers
  if v.limit ≤ c then a.enterBackoff v
  else if c + biddersBelow v.peers v.key < v.limit then
    (a.withCoord { a.coord with bidWindow := none, claimOutstanding := true, claimPending := true }).request v .claim
  else a.enterBackoff v

/-- A CLAIM from a peer's key, heard in CONTEST or with a claim pending (R162). -/
def Actors.onClaim (a : Actors) (v : View) (key : Nat) : Actors :=
  let mayYield := a.coord.phase = .contest || (a.coord.phase = .bidding && a.coord.claimPending)
  if mayYield && key < v.key && v.limit ≤ contenders v.peers v.key then a.enterBackoff v else a

/-- A completion notice of the Line Unit (R64): the bid window starts (R158), or CONTEST begins (R161). -/
def Actors.onSent (a : Actors) (v : View) : RestartKind → Actors
  | .bid =>
    if a.coord.phase = .bidding && a.coord.bidWindow.isNone && !a.coord.claimPending then
      a.withCoord { a.coord with bidWindow := some (later v.now bidWindowTime) }
    else a
  | .claim =>
    if a.coord.phase = .bidding && a.coord.claimPending then
      let a' := a.setPhase v .contest
      a'.withCoord { a'.coord with claimPending := false, contest := some (later v.now contestTime) }
    else a
  | .yield | .done => a

/-! ### HOLD, mute and scan fault (R166, R173) -/

/-- A stop of energizing (R173): fresh leave is needed, and the phase becomes AWAIT_PERMIT. -/
def Actors.stop (a : Actors) (v : View) : Actors :=
  (a.withCoord { a.coord with permit := false, keyWithheld := a.coord.keyWithheld || v.keyTurned }).enterAwaitPermit v

/-- A mute begins (R166, R175). -/
def Actors.onMute (a : Actors) (v : View) : Actors :=
  match a.coord.phase with
  | .bidding | .backoff => a.enterAwaitPermit v
  | .none | .quietWait | .awaitPermit | .contest | .energizing | .rejoin => a

/-- The scan fault begins (R166, R173). -/
def Actors.onFault (a : Actors) (v : View) : Actors :=
  match a.coord.phase with
  | .bidding | .contest | .backoff => a.enterAwaitPermit v
  | .energizing => a.stop v
  | .none | .quietWait | .awaitPermit | .rejoin => a

/-- A step of energizing is under way; a postponed step D is not (R174). -/
def EnergizeStep.underWay : EnergizeStep → Bool
  | .a _ _ | .b _ _ | .settle _ | .releaseWait _ => true
  | .none | .postponed => false

/-- A HOLD accepted (R155, R156, R166, R174). -/
def Actors.onHold (a : Actors) (v : View) : Actors :=
  let a := a.withCoord { a.coord with permit := false, keyWithheld := a.coord.keyWithheld || v.keyTurned }
  match a.coord.phase with
  | .bidding | .contest | .backoff => a.enterAwaitPermit v
  | .energizing =>
    if a.coord.step.underWay then a.withCoord { a.coord with holdPending := true } else a.enterAwaitPermit v
  | .none | .quietWait | .awaitPermit | .rejoin => a

/-- A RESUME accepted (R155, R157, R174). -/
def Actors.onResume (a : Actors) (v : View) : Actors :=
  let turnsOn := !a.coord.permit
  let a := a.withCoord { a.coord with permit := true, holdPending := false }
  (if turnsOn then a.urgent v else a).checkAuthority v

/-- The change of the restart key input (R156, R157). -/
def Actors.onKey (a : Actors) (v : View) (active : Bool) : Actors :=
  if active then a.checkAuthority v else a.withCoord { a.coord with keyWithheld := false }

end Sys2Proof.Machine
end

