-- ==== Sys2Proof/Machine/Stages.lean ====
section
/-! DEFINITION. The Stage Sequencer's decisions (05): target stage, raise, trips, lowering, adoption; and the energizing steps
of the Restart Coordinator (08, sections 8.8 and 8.9), which call it and are called by it. -/

namespace Sys2Proof.Machine

/-! ### Target stage (sections 5.2 and 5.3) -/

/-- The justified stage J(G) (R95). -/
def justified (g : Grade) : Stage :=
  if g.val ≤ 1 then .watch else if g.val = 2 then .alert else if g.val ≤ 4 then .quiesce
  else if g.val = 5 then .isolate else .safe

/-- T with able peers (R97). -/
def targetWithPeers (v : View) (g : Grade) : Stage :=
  if v.need ≤ concurrence v.peers v.assessor.onset v.profile.window then justified g
  else if 3 ≤ g.val then .alert else .watch

/-- T without able peers (R98). -/
def targetSolo (v : View) (g : Grade) : Stage :=
  if v.profile.soloGrade ≤ g.val && ranFor v.now v.assessor.onset soloDelay then justified g
  else (justified g).lesser .alert

/-- T by blind following (R99): the highest stage that at least N able peers stand at or above. -/
def targetBlind (v : View) : Stage :=
  if v.able = 0 then .watch
  else match [Stage.safe, .isolate, .quiesce, .alert].find? fun s => v.need ≤ ableAtOrAbove v.peers s with
    | some s => s
    | none => .watch

/-- The target stage T (R96 to R99). -/
def target (v : View) : Stage :=
  match v.assessor.detector, v.assessor.grade with
  | .event, some g | .settling, some g => if v.able = 0 then targetSolo v g else targetWithPeers v g
  | .capture, _ | .blind, _ => targetBlind v
  | _, _ => .watch

/-! ### Raising (section 5.4) -/

/-- The stage set, with cadence and stand-down judged afresh. -/
def Actors.setStage (a : Actors) (v : View) (stage : Stage) : Actors :=
  (a.withSeq { a.seq with stage := stage }).judge v

/-- A raise (R100 to R102): stage, requests, urgent notice, rise notice. -/
def Actors.raise (a : Actors) (v : View) (new : Stage) : Actors :=
  (((a.setStage v new).bringUp v new).urgent v).onRise v new

/-- The demand (R100): the greater of T and the trip floor. -/
def Sequencer.demand (q : Sequencer) : Stage := q.target.higher q.floor

/-- The comparison of R100; none is made under the rejoin hold (R117). -/
def Actors.compare (a : Actors) (v : View) : Actors :=
  if a.seq.rejoinHold then a
  else if a.seq.stage.code < a.seq.demand.code then a.raise v a.seq.demand else a

/-- The trip floor raised to a stage if it is below, then the comparison and the trip notice (R109, R110). -/
def Actors.tripTo (a : Actors) (v : View) (stage : Stage) : Actors :=
  ((a.withSeq { a.seq with floor := a.seq.floor.higher stage }).compare v).onTrip v

/-- A console TRIP accepted (R110, R188): one to stage 4 ends a running grace. -/
def Actors.consoleTrip (a : Actors) (v : View) (stage : Stage) : Actors :=
  let a' := a.tripTo v stage
  if stage = .safe then a'.endGrace v else a'

/-- The stage lowered by a completed release step, then the comparison (R112). -/
def Actors.lower (a : Actors) (v : View) : Actors :=
  let new := a.seq.stage.lowered
  let a' := a.withSeq { a.seq with
    safeWait := a.seq.safeWait && new = .safe
    grace := if new.code < 3 then .none else a.seq.grace }
  ((a'.setStage v new).urgent v).compare v

/-- The stand-down of ALERT (R115). -/
def Actors.standDown (a : Actors) (v : View) : Actors :=
  let a₁ := a.setStage v .watch
  let d₁ := (a₁.drv.releaseLevel .advise).1
  let a₂ := a₁.withDrv (d₁.releaseLevel .lift).1
  (a₂.withSeq { a₂.seq with
    floor := if a₂.seq.floor = .alert then .watch else a₂.seq.floor }).urgent v

/-! ### The energizing steps (section 8.8) -/

/-- The coordinator in a step. -/
def Actors.inStep (a : Actors) (step : EnergizeStep) : Actors := a.withCoord { a.coord with step := step }

/-- A notice list holds the confirmed release of a HOLD channel. -/
def releasedAtOnce (ns : List Notice) (h : HoldId) : Bool := ns.contains (.releaseConfirmed h)

/-- Step A requests both releases; true if both are confirmed at once (R168). -/
def Actors.beginA (a : Actors) (v : View) : Actors × Bool :=
  let r := (a.drv.releaseHold v.scanner v.now .valve).next (·.releaseHold v.scanner v.now .coolstop)
  let valve := !releasedAtOnce r.2 .valve
  let coolstop := !releasedAtOnce r.2 .coolstop
  ((a.withDrv r.1).inStep (.a valve coolstop), !valve && !coolstop)

/-- A close is needed for a PDU: its trip channel does not stand READY (R169). -/
def Driver.needsClose (d : Driver) (p : Pdu) : Bool := (d.pulse (.trip p)).state ≠ .ready

/-- The power settle starts when no requested close is awaited any more (R169). -/
def Actors.settleIfClosed (a : Actors) (v : View) : Actors :=
  if a.coord.step = .b false false then a.inStep (.settle (later v.now powerSettle)) else a

/-- Step B requests a close for each PDU that needs one; true if none does (R169). -/
def Actors.beginB (a : Actors) (v : View) : Actors × Bool :=
  let needA := a.drv.needsClose .a
  let needB := a.drv.needsClose .b
  if !needA && !needB then (a, true)
  else
    let close := fun (need : Bool) (p : Pdu) (d : Driver) =>
      if need then d.requestClose v.scanner v.now true p else ((d, []) : Driven)
    let r := Driven.next (close needA .a a.drv) (close needB .b)
    let step := EnergizeStep.b (needA && !r.2.contains (.closeConfirmed .a))
      (needB && !r.2.contains (.closeConfirmed .b))
    (((a.withDrv r.1).inStep step).settleIfClosed v, false)

/-- Step C releases FREEZE and HALTREQ and starts the release wait; a refusal stops the energizing (R170, R173). -/
def Actors.beginC (a : Actors) (v : View) : Actors :=
  let r₁ := a.drv.releaseLevel .freeze
  let r₂ := r₁.1.releaseLevel .haltreq
  let a' := a.withDrv r₂.1
  if r₁.2 && r₂.2 then a'.inStep (.releaseWait (later v.now releaseWaitTime)) else a'.stop v

/-- Step D at T = 0 (R171): ADVISE and LIFT released, the stage lowered, the permit consumed, DONE, phase NONE; a refused
release stops the energizing (R173). -/
def Actors.runD (a : Actors) (v : View) : Actors :=
  let r₁ := a.drv.releaseLevel .advise
  let r₂ := r₁.1.releaseLevel .lift
  let a' := a.withDrv r₂.1
  if r₁.2 && r₂.2 then
    let a₁ := (a'.inStep .none).lower v
    if a₁.coord.phase = .energizing then
      let a₂ := a₁.withCoord { a₁.coord with
        permit := false, keyWithheld := a₁.coord.keyWithheld || v.keyTurned }
      let a₃ := a₂.request v .done
      (a₃.withCoord { a₃.coord with claimOutstanding := false }).setPhase v .none
    else a₁
  else a'.stop v

/-- Step D is due (R171): it runs at T = 0, and is postponed otherwise. -/
def Actors.beginD (a : Actors) (v : View) : Actors :=
  if a.seq.target = .watch then a.runD v else a.inStep .postponed

/-- The step that matches the stage begins (R167); true if it completes at once and the stage is to be lowered. -/
def Actors.beginStep (a : Actors) (v : View) : Actors × Bool :=
  match a.seq.stage with
  | .safe => a.beginA v
  | .isolate => a.beginB v
  | .quiesce => (a.beginC v, false)
  | .alert => (a.beginD v, false)
  | .watch => (a.inStep .none, false)

/-- A step has completed (R167): the stage is lowered; then, still in ENERGIZING, a pending hold gives AWAIT_PERMIT (R174),
or the next step begins. -/
def Actors.completeStep (a : Actors) (v : View) (next : Actors → Actors) : Actors :=
  let a' := (a.inStep .none).lower v
  if a'.coord.phase = .energizing then
    if a'.coord.holdPending then a'.enterAwaitPermit v else next a'
  else a'

/-- Steps begun one after another as each completes at once; there are four (R167). -/
def Actors.runSteps (v : View) : Nat → Actors → Actors
  | 0, a => a
  | n + 1, a =>
    let r := a.beginStep v
    if r.2 then r.1.completeStep v (Actors.runSteps v n) else r.1

/-- A step that awaited something has completed. -/
def Actors.stepDone (a : Actors) (v : View) : Actors := a.completeStep v (Actors.runSteps v 4)

/-- Entry to ENERGIZING (R163, R167): the sequencer clears the trip floor (R111), and the matching step begins. -/
def Actors.enterEnergizing (a : Actors) (v : View) : Actors :=
  let a' := a.setPhase v .energizing
  Actors.runSteps v 4 (a'.withSeq { a'.seq with floor := .watch })

/-! ### The driver's outcomes as the coordinator takes them (R138, R168, R169, R173) -/

/-- A step that awaits nothing more: A completes, B starts its settle. -/
def Actors.progress (a : Actors) (v : View) : Actors :=
  match a.coord.step with
  | .a false false => a.stepDone v
  | .b false false => a.settleIfClosed v
  | _ => a

/-- A HOLD release confirmed (R168). -/
def Actors.onReleased (a : Actors) (v : View) (h : HoldId) : Actors :=
  match a.coord.step, h with
  | .a true coolstop, .valve => (a.inStep (.a false coolstop)).progress v
  | .a valve true, .coolstop => (a.inStep (.a valve false)).progress v
  | _, _ => a

/-- A close confirmed (R169). -/
def Actors.onClosed (a : Actors) (v : View) (p : Pdu) : Actors :=
  match a.coord.step, p with
  | .b true closeB, .a => (a.inStep (.b false closeB)).progress v
  | .b closeA true, .b => (a.inStep (.b closeA false)).progress v
  | _, _ => a

/-- A HOLD release reported failed: awaited, it stops the energizing (R168, R173). -/
def Actors.onReleaseFailed (a : Actors) (v : View) (h : HoldId) : Actors :=
  match a.coord.step, h with
  | .a true _, .valve => a.stop v
  | .a _ true, .coolstop => a.stop v
  | _, _ => a

/-- A close reported failed: awaited, it stops the energizing (R169, R173). -/
def Actors.onCloseFailed (a : Actors) (v : View) (p : Pdu) : Actors :=
  match a.coord.step, p with
  | .b true _, .a => a.stop v
  | .b _ true, .b => a.stop v
  | _, _ => a

/-- A driver's notice as its addressee takes it (R138). -/
def Actors.report (a : Actors) (v : View) (n : Notice) : Actors :=
  match n with
  | .releaseConfirmed h => a.onReleased v h
  | .closeConfirmed p => a.onClosed v p
  | .releaseFailed h => a.onReleaseFailed v h
  | .closeFailed p => a.onCloseFailed v p
  | .tripOutcome _ | .failedFlag | .closeUnconfirmed _ | .closeRefused _ | .closeCut _ | .closeWithdrawn _
  | .releaseUnconfirmed _ => a.hear v n

/-- A driver operation with every notice taken by its addressee. -/
def Actors.operate (a : Actors) (v : View) (f : Driver → Driven) : Actors :=
  (f a.drv).2.foldl (fun a n => a.report v n) (a.withDrv (f a.drv).1)

/-- The restart phase is ENERGIZING, as the driver is told (R131). -/
def Actors.energizing (a : Actors) : Bool := a.coord.phase = .energizing

/-- The arbiter tries to serve (R131). -/
def Actors.serve (a : Actors) (v : View) : Actors :=
  a.operate v fun d => Driver.serve v.scanner v.now a.energizing d.pulseQueue.length d

/-! ### Forming T (R96) -/

/-- The coordinator takes a T just formed (R171, R172). -/
def Actors.onTarget (a : Actors) (v : View) : Actors :=
  if a.coord.phase = .energizing then
    if 2 ≤ a.seq.target.code then a.abort v
    else if a.seq.target = .watch && a.coord.step = .postponed then a.runD v
    else a
  else a

/-- The grade-7 cut tested at a forming, after the raise it may cause (R106). -/
def Actors.cutByGrade (a : Actors) (v : View) : Actors := if a.grade7 v then a.endGrace v else a

/-- T is formed and held; outside the rejoin hold it is compared, tested for the grade-7 cut and offered to the coordinator
(R96, R100, R106, R116, R117). -/
def Actors.formTarget (a : Actors) (v : View) : Actors :=
  let a' := a.withSeq { a.seq with target := target v }
  if a'.seq.rejoinHold then a' else ((a'.compare v).cutByGrade v).onTarget v

/-- What a change of the assessor sets off among the acting blocks (R42, R96, R98, R154, R165); `old` is the assessor
before. -/
def Actors.afterAssessor (a : Actors) (v : View) (old : Assessor) : Actors :=
  let a₁ := (if old.reportable v.assessor then a.urgent v else a).judge v
  let a₂ := a₁.withSeq { a₁.seq with solo := v.assessor.onset.map fun o => later o soloDelay }
  let a₃ :=
    if old.detector = .calm && v.assessor.detector ≠ .calm then a₂.onLeftCalm v
    else if old.detector ≠ .calm && v.assessor.detector = .calm then a₂.onEnteredCalm v
    else a₂
  a₃.formTarget v

/-- A Peer Table notice (R86): the sequencer forms T, the coordinator makes its backoff comparison (R164). -/
def Actors.onPeers (a : Actors) (v : View) : Actors := (a.formTarget v).compareBackoff v

/-! ### Adoption (R118, R183) -/

/-- The sequencer takes the adopted stage (R118). -/
def Actors.adoptStage (a : Actors) (v : View) (stage : Stage) : Actors :=
  let a₁ := (a.withSeq { a.seq with
    rejoinHold := false
    grace := if 3 ≤ stage.code then .ended else .none
    safeWait := false }).setStage v stage
  let a₂ := (if stage = .watch then a₁ else a₁.urgent v).compare v
  if a₂.seq.floor = .safe then a₂.endGrace v else a₂

end Sys2Proof.Machine
end

