-- ==== Sys2Proof/Machine/Events.lean ====
section
/-! DEFINITION. What the commands do to the whole station: deliveries of the port, bytes on the line, notices of the table,
hand-over of inputs, adoption, directives, the passing of a bit time. -/

namespace Sys2Proof.Machine

/-- The acting blocks replaced. -/
def State.withAct (s : State) (a : Actors) : State := { s with act := a }

/-- An operation of the acting blocks on what the state offers them. -/
def State.acting (s : State) (f : View → Actors → Actors) : State := s.withAct (f s.view s.act)

/-- The pulse queue or the arbiter's gap has changed: an event that adds to the queue, removes its head or ends a pulse
(R131). -/
def arbiterStirred (old new : Driver) : Bool := old.pulseQueue ≠ new.pulseQueue || old.gap ≠ new.gap

/-- The end of an event: the arbiter tries to serve where the event calls for it (R131). -/
def State.endEvent (s old : State) : State :=
  if arbiterStirred old.act.drv s.act.drv then s.acting fun v a => a.serve v else s

/-- One event, whole: what it does, then the arbiter. -/
def State.event (s : State) (f : State → State) : State := (f s).endEvent s

/-- An event that occurs only where its timer or count says so; otherwise nothing happens (log 2). -/
def State.eventWhen (s : State) (occurs : Bool) (f : State → State) : State := if occurs then s.event f else s

/-! ### The sensing path (R4, R18, R96) -/

/-- One delivery, taken whole by the assessor and then by the acting blocks. -/
def State.deliver (s : State) (d : Delivery) : State :=
  { s with assessor := s.assessor.take (profileOf s.straps) d }.acting fun v a => a.afterAssessor v s.assessor

/-- The port's answer: its new state, and its deliveries one after another (R4). -/
def State.fromPort (s : State) (r : Port × List Delivery) : State :=
  r.2.foldl State.deliver { s with port := r.1 }

/-! ### The Peer Table -/

/-- A record changed, then the table's notice (R86). -/
def State.withRecord (s : State) (n : Nat) (r : PeerRecord) : State :=
  { s with peers := s.peers.set n r }.acting fun v a => a.onPeers v

/-- The record of a station number other than the own. -/
def State.peerRecord (s : State) (peer : BitVec 5) : Option PeerRecord :=
  if peer = s.straps.stn then none else s.peers[peer.toNat]?

/-- An expiry of a record's timer, where it is due (R81 to R84). -/
def State.expirePeer (s : State) (peer : BitVec 5) (due : PeerRecord → Bool) (f : PeerRecord → PeerRecord) : State :=
  match s.peerRecord peer with
  | some r => if due r then s.withRecord peer.toNat (f r) else s
  | none => s

/-- A telegram bearing the station's own number (R74). -/
def State.duplicated (s : State) : State :=
  if s.duplicate then s else { s with duplicate := true }.acting fun v a => a.urgent v

/-- A valid STATE (R73 to R77). -/
def State.takeState (s : State) (sender : Byte) (p : StatePayload) : State :=
  if sender = s.sender then s.duplicated
  else
    let r := recordOf s.peers sender.toNat
    s.withRecord sender.toNat ((r.hear s.clock p.group).takeState s.clock p)

/-- A valid BID, CLAIM, YIELD or DONE (R73, R74, R78 to R80); a CLAIM is put to the yield rule (R162). -/
def State.takeRestart (s : State) (k : RestartKind) (sender : Byte) (group : BitVec 2) : State :=
  if sender = s.sender then s.duplicated
  else
    let r := recordOf s.peers sender.toNat
    let s' := s.withRecord sender.toNat ((r.hear s.clock group).takeRestart s.clock k)
    if k = .claim then s'.acting fun v a => a.onClaim v (restartKey group sender.toNat) else s'

/-! ### Directives (10) -/

/-- The stage of a TRIP argument (R186). -/
def tripStage? (argument : Byte) : Option Stage :=
  if argument = 0 then none else Stage.ofCode? argument.toNat

/-- The LEVEL channel of a TEST argument (R190). -/
def testChannel? (argument : Byte) : Option LevelId :=
  match argument.toNat with
  | 0 => some .advise | 1 => some .lift | 2 => some .freeze | 3 => some .haltreq
  | _ => none

/-- The argument suits the kind (R186, first test). -/
def argumentSuits (kind : DirectiveKind) (target argument : Byte) : Bool :=
  match kind with
  | .trip => (tripStage? argument).isSome
  | .mute => argument ≠ 0 && target ≠ 63
  | .test => (testChannel? argument).isSome
  | .resume | .hold | .unmute | .reseed | .ackReset | .clearCounts => argument = 0

/-- The station's state suits the kind (R186, second test). -/
def State.suits (s : State) (kind : DirectiveKind) : Bool :=
  match kind with
  | .unmute => s.act.line.muted
  | .reseed => s.assessor.detector = .calm && s.act.seq.stage = .watch
  | .test => s.act.seq.stage = .watch && s.assessor.detector = .calm
  | .resume | .hold | .trip | .mute | .ackReset | .clearCounts => true

/-- The judgement of a taken directive (R186). -/
def State.judgeDirective (s : State) (kind : DirectiveKind) (target argument : Byte) : DirectiveResult :=
  if !argumentSuits kind target argument then .badArgument
  else if !s.suits kind then .wrongState
  else if kind = .test && !s.scanner.active 9 then .keyAbsent
  else .accepted

/-- A mute begins, or is set afresh (R70, R189); the coordinator is told of one that begins (R157, R166). -/
def Actors.muteFor (a : Actors) (v : View) (seconds : Nat) : Actors :=
  let begins := !a.line.muted
  let a' := a.withLine ({ a.line with mute := some ⟨v.now, seconds⟩ }.rejudge v.now)
  if begins then a'.onMute v else a'

/-- A mute ends (R70, R157). -/
def Actors.endMute (a : Actors) (v : View) : Actors :=
  (a.withLine ({ a.line with mute := none }.rejudge v.now)).checkAuthority v

/-- A fresh capture asked for by RESEED (R40). -/
def State.reseed (s : State) : State :=
  { s with assessor := s.assessor.enterCapture }.acting fun v a => a.afterAssessor v s.assessor

/-- The effect of an accepted directive in its owning block (R187 to R191). -/
def State.applyDirective (s : State) (kind : DirectiveKind) (argument : Byte) : State :=
  match kind with
  | .resume => s.acting fun v a => a.onResume v
  | .hold => s.acting fun v a => a.onHold v
  | .trip =>
    match tripStage? argument with
    | some stage => s.acting fun v a => a.consoleTrip v stage
    | none => s
  | .mute => s.acting fun v a => a.muteFor v argument.toNat
  | .unmute => s.acting fun v a => a.endMute v
  | .reseed => s.reseed
  | .test =>
    match testChannel? argument with
    | some id => s.acting fun v a => a.withDrv (a.drv.testLevel id v.now)
    | none => s
  | .ackReset => { s with startup := { s.startup with resetSeen := false } }
  | .clearCounts => s.acting fun _ a => a.withLine { a.line with errors := 0 }

/-- The record of a taken directive and its urgent notice (R185). -/
def State.recordDirective (s : State) (sender : Byte) (kind : DirectiveKind) (result : DirectiveResult) : State :=
  { s with directive := ⟨some kind, some result, BitVec.ofNat 2 (sender.toNat - 32)⟩ }.acting fun v a => a.urgent v

/-- A valid DIRECTIVE (R185): one with another target is disregarded. -/
def State.takeDirective (s : State) (sender target : Byte) (kind : DirectiveKind) (argument : Byte) : State :=
  if target = s.sender ∨ target = 63 then
    let result := s.judgeDirective kind target argument
    (if result = .accepted then s.applyDirective kind argument else s).recordDirective sender kind result
  else s

/-! ### Bytes on the line (R44, R50 to R55) -/

/-- What a verdict of the receiver sets off (R53, R54). -/
def State.onVerdict (s : State) : Verdict → State
  | .pending => s
  | .discarded _ => s.acting fun _ a => a.withLine a.line.countError
  | .valid (.state sender payload) => s.takeState sender payload
  | .valid (.restart k sender group) => s.takeRestart k sender group
  | .valid (.directive sender target kind argument) => s.takeDirective sender target kind argument

/-- The Line Unit with a receiver's new state: after at least one byte the gap is timed afresh, and a start bit begins the
next byte, unless the receiver ignores it (R50, R52). -/
def LineUnit.withReception (l : LineUnit) (r : Reception) (heard startBit : Bool) : LineUnit :=
  { l with
    receiver := r.receiver, rxBuf := r.buf, gapBits := if heard then 0 else l.gapBits
    inByte := (startBit || (l.inByte && !heard)) && r.receiver ≠ .skip }

/-- A dominant level on LRX, the bytes completed since the last command, and the start bit of the next byte if one has come
(R44, R50): the line is BUSY, the receiver takes the bytes, and what it makes of them happens. -/
def State.hearLine (s : State) (bytes : List RxByte) (startBit : Bool) : State :=
  let r := receiveBytes s.act.line.receiver s.act.line.rxBuf bytes
  (s.acting fun v a =>
    a.withLine ((a.line.withReception r (!bytes.isEmpty) startBit).busy v.now
      (if startBit then 0 else quietTail bytes))).onVerdict r.verdict

/-- A run of bytes with no start bit after it: a whole telegram, or what the receiver throws away. -/
def State.hearBytes (s : State) (bytes : List RxByte) : State := s.hearLine bytes false

/-! ### The Contact Scanner's hand-over (R147, R149) -/

/-- The local trip button pressed (R109). -/
def Actors.localTrip (a : Actors) (v : View) : Actors := a.tripTo v .isolate

/-- One changed input handed to its consumers (R149). -/
def Actors.onInput (a : Actors) (v : View) (i : Nat) : Actors :=
  match i with
  | 0 => a.operate v fun d => d.pduInput v.scanner v.now a.energizing .a
  | 1 => a.operate v fun d => d.pduInput v.scanner v.now a.energizing .b
  | 2 => a.operate v fun d => d.holdInput .valve (v.scanner.active 2)
  | 3 => a.operate v fun d => d.holdInput .coolstop (v.scanner.active 3)
  | 5 => if v.scanner.active 5 then a.endGrace v else a
  | 6 => if v.scanner.active 6 then a.localTrip v else a
  | 7 => a.onKey v (v.scanner.active 7)
  | 8 => a.compareBackoff v
  | _ => a

/-- The scan fault has begun: driver, coordinator, Line Unit (R136, R144, R166, R173). -/
def Actors.faultBegins (a : Actors) (v : View) : Actors :=
  ((a.operate v Driver.faultBegins).onFault v).urgent v

/-- The scan fault has ended: the driver's judgement, the coordinator's check (R137, R146, R157). -/
def Actors.faultEnds (a : Actors) (v : View) : Actors :=
  (a.operate v fun d => d.faultEnds v.scanner v.now a.energizing).checkAuthority v

/-- What a scan completion sets off, the scanner already in its new state: the fault's begin or end, then the changes in
input-number order (R144, R146, R147). In a fault no change is handed on (R145). -/
def Actors.afterScan (a : Actors) (v : View) (old : Scanner) : Actors :=
  let a' :=
    if !old.fault && v.scanner.fault then a.faultBegins v
    else if old.fault && !v.scanner.fault then a.faultEnds v
    else a
  (changedInputs old v.scanner).foldl (fun a i => a.onInput v i) a'

/-! ### Start-up (09) -/

/-- The feedback stage (R181). -/
def feedbackStage (sc : Scanner) : Stage :=
  if sc.active 2 || sc.active 3 then .safe
  else if !sc.active 0 || !sc.active 1 then .isolate
  else .watch

/-- The peer stage (R182). -/
def peerStage (v : View) : Stage :=
  if v.able ≠ 0 ∧ v.need ≤ restartingAtOrAbove v.peers .quiesce then .quiesce else .watch

/-- The adopted stage (R183). -/
def adoptedStage (v : View) : Stage := (feedbackStage v.scanner).higher (peerStage v)

/-- Adoption as the acting blocks take it: channels, phase, stage (R183). -/
def Actors.adopt (a : Actors) (v : View) (stage : Stage) : Actors :=
  let inRestart := 2 ≤ stage.code
  let a₁ := if inRestart then
      (stagesTo stage).foldl (fun a st => a.drive v fun d => d.adoptStage v.scanner v.now st) a
    else a
  let a₂ := if inRestart then a₁.enterQuietWait v else a₁.setPhase v .none
  a₂.adoptStage v stage

/-- Adoption (R183). -/
def State.adopt (s : State) : State :=
  { s with startup := { s.startup with state := .running, window := none } }.acting fun v a =>
    a.adopt v (adoptedStage v)

/-- The known condition has begun (R148, R180). -/
def State.onKnown (s : State) : State :=
  match s.startup.state with
  | .awaitingInputs => s.adopt
  | .listening | .running => s

/-- A scan completion (R141): scanner, then acting blocks, then the Start-up Controller. -/
def State.completeScan (s : State) (frame : BitVec 24) : State :=
  let sc := s.scanner.complete frame
  let s' := { s with scanner := sc }.acting fun v a => a.afterScan v s.scanner
  if !s.scanner.known && sc.known then s'.onKnown else s'

/-! ### Time (R1) -/

/-- One bit time of 4 us passes (log 1): the counters of the line, and every 250th the station clock. -/
def State.tick (s : State) : State :=
  let s' := s.acting fun _ a => a.withLine a.line.tick
  if Config.bitTimesPerMs ≤ s.bitPhase + 1 then { s' with bitPhase := 0, clock := s.clock + 1 }
  else { s' with bitPhase := s.bitPhase + 1 }

end Sys2Proof.Machine
end

