-- ==== Sys2Proof/Machine/ChannelEvents.lean ====
section
/-! DEFINITION. Meanings of the Channel Driver's expiries (06). -/

namespace Sys2Proof.Machine

/-- TEST_TIMER_EXPIRY (R122). -/
def execTestTimerExpiry (ch : LevelId) (s : State) : Host.Outcome State Fault Refusal :=
  .next (s.eventWhen ((s.act.drv.level ch).state = .testing && ranFor s.clock (s.act.drv.level ch).testTimer testTime)
    fun s => s.acting fun _ a => a.withDrv (a.drv.endTest ch))

/-- PULL_IN_EXPIRY (R123). -/
def execPullInExpiry (ch : HoldId) (s : State) : Host.Outcome State Fault Refusal :=
  .next (s.eventWhen ((s.act.drv.hold ch).state = .pullIn && ranFor s.clock (s.act.drv.hold ch).pullInTimer pullInTime)
    fun s => s.acting fun _ a => a.withDrv (a.drv.endPullIn ch))

/-- HOLD_WINDOW_EXPIRY (R124, R125). -/
def execHoldWindowExpiry (ch : HoldId) (s : State) : Host.Outcome State Fault Refusal :=
  .next (s.eventWhen (ranFor s.clock (s.act.drv.hold ch).window (holdWindow ch))
    fun s => s.acting fun v a => a.operate v fun d => d.failHold ch)

/-- The inter-pulse gap has run its 250 ms (R131). -/
def Driver.gapDue (d : Driver) (now : Stamp) : Bool := ranFor now d.gap pulseGap

/-- PULSE_GAP_EXPIRY (R131): the gap is served, and the arbiter tries to serve as the event ends. -/
def execPulseGapExpiry (s : State) : Host.Outcome State Fault Refusal :=
  .next (s.eventWhen (s.act.drv.gapDue s.clock) fun s => s.acting fun _ a => a.withDrv { a.drv with gap := none })

/-- PULSE_TIMER_EXPIRY (R133). -/
def execPulseTimerExpiry (ch : PulseId) (s : State) : Host.Outcome State Fault Refusal :=
  .next (s.eventWhen ((s.act.drv.pulse ch).state = .firing && ranFor s.clock (s.act.drv.pulse ch).pulseTimer pulseTime)
    fun s => s.acting fun v a => a.operate v fun d => d.endPulse v.scanner v.now a.energizing ch)

/-- PULSE_WINDOW_EXPIRY (R134). -/
def execPulseWindowExpiry (ch : PulseId) (s : State) : Host.Outcome State Fault Refusal :=
  .next (s.eventWhen ((s.act.drv.pulse ch).state = .checking && ranFor s.clock (s.act.drv.pulse ch).window (pulseWindow ch))
    fun s => s.acting fun v a => a.operate v fun d => d.missWindow ch)

end Sys2Proof.Machine
end

