-- ==== Sys2Proof/Machine/Directives.lean ====
section
/-! DEFINITION. Meanings of the nine console directives (10). Each arrives as a DIRECTIVE telegram on the line. -/

namespace Sys2Proof.Machine

/-- The bytes of a DIRECTIVE on the line (03, section 3.3). -/
def directiveBytes (kind : DirectiveKind) (sender target argument : Byte) : List RxByte :=
  onTheLine (frameBytes 6 sender [target, BitVec.ofNat 8 kind.code, argument])

/-- RESUME (R187). -/
def execResume (sender target argument : Byte) (s : State) : Host.Outcome State Fault Refusal :=
  .next (s.event fun s => s.hearBytes (directiveBytes .resume sender target argument))

/-- HOLD (R187). -/
def execHold (sender target argument : Byte) (s : State) : Host.Outcome State Fault Refusal :=
  .next (s.event fun s => s.hearBytes (directiveBytes .hold sender target argument))

/-- TRIP (R188). -/
def execTrip (sender target argument : Byte) (s : State) : Host.Outcome State Fault Refusal :=
  .next (s.event fun s => s.hearBytes (directiveBytes .trip sender target argument))

/-- MUTE (R189). -/
def execMute (sender target argument : Byte) (s : State) : Host.Outcome State Fault Refusal :=
  .next (s.event fun s => s.hearBytes (directiveBytes .mute sender target argument))

/-- UNMUTE (R189). -/
def execUnmute (sender target argument : Byte) (s : State) : Host.Outcome State Fault Refusal :=
  .next (s.event fun s => s.hearBytes (directiveBytes .unmute sender target argument))

/-- RESEED (R190). -/
def execReseed (sender target argument : Byte) (s : State) : Host.Outcome State Fault Refusal :=
  .next (s.event fun s => s.hearBytes (directiveBytes .reseed sender target argument))

/-- TEST (R190). -/
def execTest (sender target argument : Byte) (s : State) : Host.Outcome State Fault Refusal :=
  .next (s.event fun s => s.hearBytes (directiveBytes .test sender target argument))

/-- ACK_RESET (R191). -/
def execAckReset (sender target argument : Byte) (s : State) : Host.Outcome State Fault Refusal :=
  .next (s.event fun s => s.hearBytes (directiveBytes .ackReset sender target argument))

/-- CLEAR_COUNTS (R191). -/
def execClearCounts (sender target argument : Byte) (s : State) : Host.Outcome State Fault Refusal :=
  .next (s.event fun s => s.hearBytes (directiveBytes .clearCounts sender target argument))

end Sys2Proof.Machine
end

