-- ==== Sys2Proof/Machine/LineEvents.lean ====
section
/-! DEFINITION. Meanings of the Line Unit's events (03): line level, receiver, transmission, timers. -/

namespace Sys2Proof.Machine

/-! ### Line level and receiver -/

/-- The line-idle event as the Line Unit takes it (R44, R50, R61, R66): line IDLE, receiver READY unless the station sends,
line-stuck flag clear, access wait begun. -/
def LineUnit.becomeIdle (l : LineUnit) (now : Stamp) : LineUnit :=
  { l with
    condition := .idle
    receiver := if l.sending then l.receiver else .ready
    rxBuf := []
    inByte := false
    stuck := false }.rejudge now

/-- The line-idle event: the clearing of the line-stuck flag is told to the coordinator (R157). -/
def Actors.lineIdle (a : Actors) (v : View) : Actors :=
  let a' := a.withLine (a.line.becomeIdle v.now)
  if a.line.stuck then a'.checkAuthority v else a'

/-- The line is to become IDLE (R44): BUSY, 24 bit times without a dominant level, no telegram in assembly. -/
def LineUnit.idleDue (l : LineUnit) : Bool :=
  l.condition = .busy && 24 ≤ l.quietBits && l.receiver ≠ .assemble

/-- LINE_IDLE (R44). -/
def execLineIdle (s : State) : Host.Outcome State Fault Refusal :=
  .next (s.eventWhen s.act.line.idleDue fun s => s.acting fun v a => a.lineIdle v)

/-- LINE_BUSY (R44): a dominant level, with the bytes that have ended on the line since the last command; the receiver takes
them, and then the start bit of the next byte, if one has come (R50). -/
def execLineBusy (traffic : LineTraffic) (s : State) : Host.Outcome State Fault Refusal :=
  .next (s.event fun s => s.hearLine traffic.bytes traffic.startBit)

/-- TELEGRAM_DISCARDED (R50 to R54): bytes that the receiver throws away and counts. -/
def execTelegramDiscarded (bytes : List RxByte) (s : State) : Host.Outcome State Fault Refusal :=
  .next (s.event fun s => s.hearBytes bytes)

/-- The telegram in assembly is torn (R52): a gap of 30 bit times with no start bit. -/
def LineUnit.tornDue (l : LineUnit) : Bool := l.receiver = .assemble && !l.inByte && 30 ≤ l.gapBits

/-- TELEGRAM_TORN (R52): discarded and counted; the receiver is READY and the line IDLE at that moment. -/
def execTelegramTorn (s : State) : Host.Outcome State Fault Refusal :=
  .next (s.eventWhen s.act.line.tornDue fun s => s.acting fun v a => (a.withLine a.line.countError).lineIdle v)

/-! ### Transmission -/

/-- The wait of the head entry is reached (R61). -/
def LineUnit.startDue (l : LineUnit) (station : Nat) : Option TxEntry :=
  match l.queue, l.idleCount with
  | head :: _, some idle => if l.waiting && head.accessWait station ≤ idle then some head else none
  | _, _ => none

/-- The head's transmission starts, its content built from the owners at this moment (R62, R69). -/
def State.beginHead (s : State) : State :=
  match s.act.line.startDue s.straps.stn.toNat with
  | some head => s.acting fun v a => a.withLine (a.line.begin v.now (s.telegramOf head))
  | none => s

/-- TRANSMISSION_START (R61, R62). -/
def execTransmissionStart (s : State) : Host.Outcome State Fault Refusal := .next (s.event State.beginHead)

/-- The last stop bit has been sent (R62): the transmission is complete, and no bit is left to compare. -/
def LineUnit.lastBitSent (l : LineUnit) : Bool := l.txLength ≤ l.txBits

/-- A collision (R63): the entry stays at the head with one collision more, congestion may turn on (R65), and after a restart
telegram the deferred request is applied (R59). A recessive bit read back as dominant leaves a dominant level on the line.
The entry is back in the queue before congestion's urgent notice meets it: the spec orders neither (log 26). -/
def LineUnit.collide (l : LineUnit) (now : Stamp) (head : TxEntry) (rest : List TxEntry) : LineUnit :=
  let quiet := if l.drivesDominant then l.quietBits else 0
  let l' := ({ l with quietBits := quiet }.aborted now head rest).congest now (min 255 (head.collisions + 1))
  if head.isState then l' else l'.applyDeferred now

/-- The entry in transmission with the entries behind it. -/
def LineUnit.sent? (l : LineUnit) : Option (TxEntry × List TxEntry) :=
  match l.sending, l.queue with
  | true, head :: rest => some (head, rest)
  | _, _ => none

/-- The collision as it meets a bit of the transmission under way (R62, R63). -/
def State.collideHead (s : State) : State :=
  match s.act.line.sent? with
  | some (head, rest) =>
    if s.act.line.lastBitSent then s else s.acting fun v a => a.withLine (a.line.collide v.now head rest)
  | none => s

/-- COLLISION (R63). -/
def execCollision (s : State) : Host.Outcome State Fault Refusal := .next (s.event State.collideHead)

/-- A completed transmission (R64): the entry leaves, the coordinator is told of a restart telegram, and a deferred request is
applied. -/
def Actors.complete (a : Actors) (v : View) (sent : TxEntry) (rest : List TxEntry) : Actors :=
  let a₁ := a.withLine (a.line.completed v.now sent rest)
  match sent.restart? with
  | some k =>
    let a₂ := a₁.onSent v k
    a₂.withLine (a₂.line.applyDeferred v.now)
  | none => a₁

/-- The completion as it meets the transmission under way. -/
def State.completeHead (s : State) : State :=
  match s.act.line.sent? with
  | some (sent, rest) => if s.act.line.lastBitSent then s.acting fun v a => a.complete v sent rest else s
  | none => s

/-- TRANSMISSION_COMPLETE (R64). -/
def execTransmissionComplete (s : State) : Host.Outcome State Fault Refusal := .next (s.event State.completeHead)

/-! ### Timers -/

/-- LINE_STUCK_EXPIRY (R66): the flag is set, and the access wait does not run while it is. -/
def execLineStuckExpiry (s : State) : Host.Outcome State Fault Refusal :=
  .next (s.eventWhen (ranFor s.clock s.act.line.stuckTimer lineStuckLimit && !s.act.line.stuck) fun s =>
    s.acting fun v a => a.withLine ({ a.line with stuck := true }.rejudge v.now))

/-- HEARTBEAT_EXPIRY (R68). -/
def execHeartbeatExpiry (s : State) : Host.Outcome State Fault Refusal :=
  .next (s.eventWhen (ranFor s.clock s.act.line.heartbeat s.act.line.period) fun s =>
    s.acting fun v a => a.withLine (a.line.beat v.now))

/-- The mute has run its seconds (R70). -/
def LineUnit.muteDue (l : LineUnit) (now : Stamp) : Bool :=
  match l.mute with
  | some m => m.seconds * 1000 ≤ elapsed now m.start
  | none => false

/-- MUTE_EXPIRY (R70). -/
def execMuteExpiry (s : State) : Host.Outcome State Fault Refusal :=
  .next (s.eventWhen (s.act.line.muteDue s.clock) fun s => s.acting fun v a => a.endMute v)

end Sys2Proof.Machine
end

