-- ==== Sys2Proof/Machine/PeerEvents.lean ====
section
/-! DEFINITION. Meanings of the peers' telegrams and of the Peer Table's expiries (04). A telegram command puts its bytes on the
line, back to back and with the right CRC; the receiver makes of them what its state allows (log 6). -/

namespace Sys2Proof.Machine

/-- STATE_TELEGRAM (R73 to R77). -/
def execStateTelegram (sender : Byte) (payload : Vector Byte 12) (s : State) : Host.Outcome State Fault Refusal :=
  .next (s.event fun s => s.hearBytes (onTheLine (frameBytes 1 sender payload.toList)))

/-- BID_TELEGRAM (R73, R78). -/
def execBidTelegram (sender group : Byte) (s : State) : Host.Outcome State Fault Refusal :=
  .next (s.event fun s => s.hearBytes (onTheLine (frameBytes 2 sender [group])))

/-- CLAIM_TELEGRAM (R73, R79, R162). -/
def execClaimTelegram (sender group : Byte) (s : State) : Host.Outcome State Fault Refusal :=
  .next (s.event fun s => s.hearBytes (onTheLine (frameBytes 3 sender [group])))

/-- YIELD_TELEGRAM (R73, R80). -/
def execYieldTelegram (sender group : Byte) (s : State) : Host.Outcome State Fault Refusal :=
  .next (s.event fun s => s.hearBytes (onTheLine (frameBytes 4 sender [group])))

/-- DONE_TELEGRAM (R73, R80). -/
def execDoneTelegram (sender group : Byte) (s : State) : Host.Outcome State Fault Refusal :=
  .next (s.event fun s => s.hearBytes (onTheLine (frameBytes 5 sender [group])))

/-- PEER_QUIET_EXPIRY (R81): a LIVE record not heard for more than 3500 ms. -/
def execPeerQuietExpiry (peer : BitVec 5) (s : State) : Host.Outcome State Fault Refusal :=
  .next (s.event fun s =>
    s.expirePeer peer (fun r => r.liveness = .live && olderThan s.clock r.lastHeard quietAge) PeerRecord.toQuiet)

/-- PEER_LOST_EXPIRY (R82): a QUIET record not heard for more than 10 000 ms. -/
def execPeerLostExpiry (peer : BitVec 5) (s : State) : Host.Outcome State Fault Refusal :=
  .next (s.event fun s =>
    s.expirePeer peer (fun r => r.liveness = .quiet && olderThan s.clock r.lastHeard lostAge) PeerRecord.toLost)

/-- BID_PART_EXPIRY (R83): more than 4000 ms since the bid stamp. -/
def execBidPartExpiry (peer : BitVec 5) (s : State) : Host.Outcome State Fault Refusal :=
  .next (s.event fun s =>
    s.expirePeer peer (fun r => olderThan s.clock r.bid bidLife) PeerRecord.dropBid)

/-- CLAIM_PART_EXPIRY (R84): 300 000 ms since the claim stamp. -/
def execClaimPartExpiry (peer : BitVec 5) (s : State) : Host.Outcome State Fault Refusal :=
  .next (s.event fun s =>
    s.expirePeer peer (fun r => ranFor s.clock r.claim claimLife) PeerRecord.spendClaim)

end Sys2Proof.Machine
end

