-- ==== Sys2Proof/Machine/RestartEvents.lean ====
section
/-! DEFINITION. Meanings of the Restart Coordinator's expiries (08) and of the rejoin window's (09). -/

namespace Sys2Proof.Machine

/-- QUIET_WAIT_EXPIRY (R154). -/
def execQuietWaitExpiry (s : State) : Host.Outcome State Fault Refusal :=
  .next (s.eventWhen
    (s.act.coord.phase = .quietWait && ranFor s.clock s.act.coord.quietStart (profileOf s.straps).quiet)
    fun s => s.acting fun v a => a.enterAwaitPermit v)

/-- BID_WINDOW_EXPIRY (R160). -/
def execBidWindowExpiry (s : State) : Host.Outcome State Fault Refusal :=
  .next (s.eventWhen (s.act.coord.phase = .bidding && expired s.clock s.act.coord.bidWindow)
    fun s => s.acting fun v a => a.endBidWindow v)

/-- The contest interval ends, and ENERGIZING begins (R163, R167). -/
def Actors.endContest (a : Actors) (v : View) : Actors :=
  (a.withCoord { a.coord with contest := none }).enterEnergizing v

/-- CONTEST_INTERVAL_EXPIRY (R163). -/
def execContestIntervalExpiry (s : State) : Host.Outcome State Fault Refusal :=
  .next (s.eventWhen (s.act.coord.phase = .contest && expired s.clock s.act.coord.contest)
    fun s => s.acting fun v a => a.endContest v)

/-- STAGGER_EXPIRY (R164). -/
def execStaggerExpiry (s : State) : Host.Outcome State Fault Refusal :=
  .next (s.eventWhen (s.act.coord.phase = .backoff && expired s.clock s.act.coord.stagger)
    fun s => s.acting fun v a => a.endStagger v)

/-- Step B's power settle has reached its expiry (R169). -/
def Coordinator.settleDue (c : Coordinator) (now : Stamp) : Bool :=
  match c.phase, c.step with
  | .energizing, .settle expiry => reached now expiry
  | _, _ => false

/-- POWER_SETTLE_EXPIRY (R169): step B completes. -/
def execPowerSettleExpiry (s : State) : Host.Outcome State Fault Refusal :=
  .next (s.eventWhen (s.act.coord.settleDue s.clock) fun s => s.acting fun v a => a.stepDone v)

/-- Step C's release wait has reached its expiry (R170). -/
def Coordinator.releaseWaitDue (c : Coordinator) (now : Stamp) : Bool :=
  match c.phase, c.step with
  | .energizing, .releaseWait expiry => reached now expiry
  | _, _ => false

/-- RELEASE_WAIT_EXPIRY (R170): step C completes. -/
def execReleaseWaitExpiry (s : State) : Host.Outcome State Fault Refusal :=
  .next (s.eventWhen (s.act.coord.releaseWaitDue s.clock) fun s => s.acting fun v a => a.stepDone v)

/-- The rejoin window expires (R180): adoption if the known condition holds, otherwise AWAITING_INPUTS. -/
def State.endRejoinWindow (s : State) : State :=
  if s.scanner.known then s.adopt
  else { s with startup := { s.startup with state := .awaitingInputs, window := none } }

/-- REJOIN_WINDOW_EXPIRY (R180). -/
def execRejoinWindowExpiry (s : State) : Host.Outcome State Fault Refusal :=
  .next (s.eventWhen (s.startup.state = .listening && expired s.clock s.startup.window) State.endRejoinWindow)

end Sys2Proof.Machine
end

