-- ==== Sys2Proof/Machine/ScanEvents.lean ====
section
/-! DEFINITION. Meanings of the Contact Scanner's events (07). -/

namespace Sys2Proof.Machine

/-- The scan timer expires and starts for the next 10 ms; a scan begins (R140). -/
def Scanner.beginScan (sc : Scanner) : Scanner := { sc with timer := later sc.timer scanPeriod, scanning := true }

/-- SCAN_TIMER_EXPIRY (R140). -/
def execScanTimerExpiry (s : State) : Host.Outcome State Fault Refusal :=
  .next (s.eventWhen (scanPeriod ≤ elapsed s.clock s.scanner.timer) fun s => { s with scanner := s.scanner.beginScan })

/-- SCAN_COMPLETION (R141 to R149): the scan under way is judged. -/
def execScanCompletion (frame : BitVec 24) (s : State) : Host.Outcome State Fault Refusal :=
  .next (s.eventWhen s.scanner.scanning fun s => s.completeScan frame)

end Sys2Proof.Machine
end

