-- ==== Sys2Proof/Machine/Sensing.lean ====
section
/-! DEFINITION. Meanings of RESET and of the Sample Port's two events (00, 01, 02). -/

namespace Sys2Proof.Machine

/-- RESET (R1, R177): every block in its after-reset state, the straps latched; only the waiting commands are kept. -/
def execReset (straps : Straps) (sfsHigh : Bool) (s : State) : Host.Outcome State Fault Refusal :=
  .next (.afterReset straps sfsHigh s.pending)

/-- FRAME_END (R2 to R9, R11 to R16): the frame is stamped, judged and placed, and its deliveries are taken. -/
def execFrameEnd (bits : List Bool) (s : State) : Host.Outcome State Fault Refusal :=
  .next (s.event fun s => s.fromPort (s.port.frameEnd s.clock bits))

/-- FRAME_TIMER_EXPIRY (R10). -/
def execFrameTimerExpiry (s : State) : Host.Outcome State Fault Refusal :=
  .next (s.eventWhen (ranFor s.clock s.port.frameTimer frameTimeout) fun s => s.fromPort s.port.timeout)

end Sys2Proof.Machine
end

