-- ==== Sys2Proof/Machine/StageEvents.lean ====
section
/-! DEFINITION. Meanings of the Stage Sequencer's expiries (05). -/

namespace Sys2Proof.Machine

/-- The running grace has reached its expiry (R103). -/
def Sequencer.graceDue (q : Sequencer) (now : Stamp) : Bool :=
  match q.grace with
  | .running expiry => reached now expiry
  | .none | .ended => false

/-- GRACE_EXPIRY (R104). -/
def execGraceExpiry (s : State) : Host.Outcome State Fault Refusal :=
  .next (s.eventWhen (s.act.seq.graceDue s.clock) fun s => s.acting fun v a => a.endGrace v)

/-- SOLO_DELAY_EXPIRY (R98): T is formed. -/
def execSoloDelayExpiry (s : State) : Host.Outcome State Fault Refusal :=
  .next (s.eventWhen (expired s.clock s.act.seq.solo) fun s => s.acting fun v a => a.formTarget v)

/-- STAND_DOWN_EXPIRY (R115). -/
def execStandDownExpiry (s : State) : Host.Outcome State Fault Refusal :=
  .next (s.eventWhen (ranFor s.clock s.act.seq.standDown standDownTime) fun s => s.acting fun v a => a.standDown v)

end Sys2Proof.Machine
end

