-- ==== Sys2Proof/Machine/Dispatch.lean ====
section
/-! DEFINITION. The dispatch: one arm per command, each one call of its meaning. -/

namespace Sys2Proof.Machine

/-- A command's effect on everything but the queue. -/
def exec (i : Instr) (s : State) : Host.Outcome State Fault Refusal :=
  match i with
  | .reset straps sfsHigh => Sys2Proof.Machine.execReset straps sfsHigh s
  | .frameEnd bits => Sys2Proof.Machine.execFrameEnd bits s
  | .frameTimerExpiry => Sys2Proof.Machine.execFrameTimerExpiry s
  | .lineIdle => Sys2Proof.Machine.execLineIdle s
  | .telegramDiscarded bytes => Sys2Proof.Machine.execTelegramDiscarded bytes s
  | .telegramTorn => Sys2Proof.Machine.execTelegramTorn s
  | .stateTelegram sender payload => Sys2Proof.Machine.execStateTelegram sender payload s
  | .bidTelegram sender group => Sys2Proof.Machine.execBidTelegram sender group s
  | .claimTelegram sender group => Sys2Proof.Machine.execClaimTelegram sender group s
  | .yieldTelegram sender group => Sys2Proof.Machine.execYieldTelegram sender group s
  | .doneTelegram sender group => Sys2Proof.Machine.execDoneTelegram sender group s
  | .peerQuietExpiry peer => Sys2Proof.Machine.execPeerQuietExpiry peer s
  | .peerLostExpiry peer => Sys2Proof.Machine.execPeerLostExpiry peer s
  | .bidPartExpiry peer => Sys2Proof.Machine.execBidPartExpiry peer s
  | .claimPartExpiry peer => Sys2Proof.Machine.execClaimPartExpiry peer s
  | .transmissionStart => Sys2Proof.Machine.execTransmissionStart s
  | .collision => Sys2Proof.Machine.execCollision s
  | .transmissionComplete => Sys2Proof.Machine.execTransmissionComplete s
  | .lineStuckExpiry => Sys2Proof.Machine.execLineStuckExpiry s
  | .heartbeatExpiry => Sys2Proof.Machine.execHeartbeatExpiry s
  | .muteExpiry => Sys2Proof.Machine.execMuteExpiry s
  | .resume sender target argument => Sys2Proof.Machine.execResume sender target argument s
  | .hold sender target argument => Sys2Proof.Machine.execHold sender target argument s
  | .trip sender target argument => Sys2Proof.Machine.execTrip sender target argument s
  | .mute sender target argument => Sys2Proof.Machine.execMute sender target argument s
  | .unmute sender target argument => Sys2Proof.Machine.execUnmute sender target argument s
  | .reseed sender target argument => Sys2Proof.Machine.execReseed sender target argument s
  | .test sender target argument => Sys2Proof.Machine.execTest sender target argument s
  | .ackReset sender target argument => Sys2Proof.Machine.execAckReset sender target argument s
  | .clearCounts sender target argument => Sys2Proof.Machine.execClearCounts sender target argument s
  | .graceExpiry => Sys2Proof.Machine.execGraceExpiry s
  | .soloDelayExpiry => Sys2Proof.Machine.execSoloDelayExpiry s
  | .standDownExpiry => Sys2Proof.Machine.execStandDownExpiry s
  | .testTimerExpiry ch => Sys2Proof.Machine.execTestTimerExpiry ch s
  | .pullInExpiry ch => Sys2Proof.Machine.execPullInExpiry ch s
  | .holdWindowExpiry ch => Sys2Proof.Machine.execHoldWindowExpiry ch s
  | .pulseGapExpiry => Sys2Proof.Machine.execPulseGapExpiry s
  | .pulseTimerExpiry ch => Sys2Proof.Machine.execPulseTimerExpiry ch s
  | .pulseWindowExpiry ch => Sys2Proof.Machine.execPulseWindowExpiry ch s
  | .scanTimerExpiry => Sys2Proof.Machine.execScanTimerExpiry s
  | .scanCompletion frame => Sys2Proof.Machine.execScanCompletion frame s
  | .quietWaitExpiry => Sys2Proof.Machine.execQuietWaitExpiry s
  | .bidWindowExpiry => Sys2Proof.Machine.execBidWindowExpiry s
  | .contestIntervalExpiry => Sys2Proof.Machine.execContestIntervalExpiry s
  | .staggerExpiry => Sys2Proof.Machine.execStaggerExpiry s
  | .powerSettleExpiry => Sys2Proof.Machine.execPowerSettleExpiry s
  | .releaseWaitExpiry => Sys2Proof.Machine.execReleaseWaitExpiry s
  | .rejoinWindowExpiry => Sys2Proof.Machine.execRejoinWindowExpiry s
  | .lineBusy traffic => Sys2Proof.Machine.execLineBusy traffic s

end Sys2Proof.Machine
end

