-- ==== Sys2Proof/WellFormed.lean ====
section
/-! DEFINITION. Which commands are well formed: the operands that the row's own wording allows (log 6). exec gives every command
a meaning, well formed or not: the bytes of an ill-formed telegram are judged on the line like any others. -/

namespace Sys2Proof

open Sys2Proof.Machine

/-- SENDER of a station (R46). -/
def stationSender (sender : Byte) : Bool := sender.toNat < Config.stations

/-- SENDER of a console (R53). -/
def consoleSender (sender : Byte) : Bool := 32 ≤ sender.toNat && sender.toNat ≤ 35

/-- The restart group byte of a BID, CLAIM, YIELD or DONE (R49). -/
def groupByte (group : Byte) : Bool := group.toNat ≤ 3

/-- The target byte of a DIRECTIVE (R49). -/
def targetByte (target : Byte) : Bool := target.toNat < Config.stations || target.toNat = 63

/-- The coded fields of a STATE payload are in range (R53). -/
def payloadInRange (payload : Vector Byte 12) : Bool := (StatePayload.decode? payload.toList).isSome

/-- The bytes end in a discard when a READY receiver takes them (R50). -/
def endsInDiscard (bytes : List RxByte) : Bool :=
  match (receiveBytes .ready [] bytes).verdict with
  | .discarded _ => true
  | .pending | .valid _ => false

/-- The bytes complete no telegram when a READY receiver takes them (R50). -/
def completesNone (bytes : List RxByte) : Bool := (receiveBytes .ready [] bytes).verdict = .pending

/-- The operands are what the command's row speaks of. -/
def Instr.wellFormed : Instr → Bool
  | .telegramDiscarded bytes => endsInDiscard bytes
  | .lineBusy traffic => completesNone traffic.bytes
  | .stateTelegram sender payload => stationSender sender && payloadInRange payload
  | .bidTelegram sender group | .claimTelegram sender group | .yieldTelegram sender group
  | .doneTelegram sender group => stationSender sender && groupByte group
  | .resume sender target _ | .hold sender target _ | .trip sender target _ | .mute sender target _
  | .unmute sender target _ | .reseed sender target _ | .test sender target _ | .ackReset sender target _
  | .clearCounts sender target _ => consoleSender sender && targetByte target
  | .reset _ _ | .frameEnd _ | .frameTimerExpiry | .lineIdle | .telegramTorn
  | .peerQuietExpiry _ | .peerLostExpiry _ | .bidPartExpiry _ | .claimPartExpiry _
  | .transmissionStart | .collision | .transmissionComplete | .lineStuckExpiry | .heartbeatExpiry | .muteExpiry
  | .graceExpiry | .soloDelayExpiry | .standDownExpiry
  | .testTimerExpiry _ | .pullInExpiry _ | .holdWindowExpiry _ | .pulseGapExpiry | .pulseTimerExpiry _
  | .pulseWindowExpiry _ | .scanTimerExpiry | .scanCompletion _
  | .quietWaitExpiry | .bidWindowExpiry | .contestIntervalExpiry | .staggerExpiry | .powerSettleExpiry
  | .releaseWaitExpiry | .rejoinWindowExpiry => true

end Sys2Proof
end

