-- ==== Sys2Proof/Safety.lean ====
section
/-! DEFINITION. What a sound state of the station is: for each block the ranges and relations the spec gives its items, and the
relations between blocks that every event keeps. Claims about every step are stated in these terms. -/

namespace Sys2Proof.Machine

/-! ### Sample Port (01, section 1.2) -/

/-- The ranges of the port's counters, and what each status holds (R13, R15, R16). -/
abbrev Port.Sound (p : Port) : Prop :=
  p.wordPos ≤ 5 ∧ p.bitCount ≤ 15 ∧ p.missing ≤ 4 ∧ p.identical ≤ 2048 ∧ p.recovery ≤ 199
    ∧ (p.lastSeq.isSome ↔ p.lastGood.isSome)
    ∧ (p.status = .start → p.lastSeq = none ∧ p.identical = 0)
    ∧ (p.status = .tracking → p.lastSeq.isSome ∧ 1 ≤ p.identical ∧ p.identical < 2048)
    ∧ (p.status ≠ .lost → p.recovery = 0)
    ∧ (p.status = .lost → p.missing = 0)

/-! ### Motion Assessor (02, section 2.1) -/

/-- A baseline lies in its range (R23). -/
abbrev baselineInRange (b : Int) : Prop := -8388608 ≤ b ∧ b ≤ 8388352

/-- The ranges of section 2.1; the runs stand where their states have them, and an open event has its onset. -/
abbrev Assessor.Sound (a : Assessor) : Prop :=
  baselineInRange a.base.x ∧ baselineInRange a.base.y ∧ baselineInRange a.base.z
    ∧ (0 ≤ a.short ∧ a.short ≤ 917456) ∧ (128 ≤ a.long ∧ a.long ≤ 917456)
    ∧ a.captureCount ≤ 1024 ∧ a.qualifying ≤ 3 ∧ a.runPeak ≤ 57341 ∧ a.releasing ≤ 199 ∧ a.settling ≤ 2000
    ∧ a.event.peak ≤ 57341 ∧ a.event.grade = gradeOf a.event.peak
    ∧ (a.detector = .capture → a.captureCount ≤ 1023) ∧ (a.detector = .settling → a.settling ≤ 1999)
    ∧ (a.detector = .calm → 1 ≤ a.qualifying → a.runOnset.isSome)
    ∧ (a.detector.inEvent → a.event.onset.isSome)

/-! ### Line Unit (03, section 3.2) -/

/-- At most one STATE entry and at most one restart entry (R56). -/
abbrev LineUnit.QueueSound (l : LineUnit) : Prop :=
  l.queue.countP TxEntry.isState ≤ 1 ∧ l.queue.countP (fun e => !e.isState) ≤ 1

/-- The queue, the marks, the deferred request, the counts and the two waits as 03 has them (R54, R56, R57, R59, R61, R63,
R66). -/
abbrev LineUnit.Sound (l : LineUnit) : Prop :=
  l.QueueSound
    ∧ (∀ e ∈ l.queue, e.collisions ≤ 255) ∧ l.errors ≤ 255
    ∧ (l.sending → l.queue ≠ [])
    ∧ (∀ e ∈ l.waitingEntries, e.resend = false)
    ∧ (∀ e ∈ l.inTransit, e.resend → e.isState)
    ∧ (l.deferred.isSome → ∃ e ∈ l.inTransit, e.restart?.isSome)
    ∧ (l.idleCount.isSome ↔ (l.waiting ∧ l.condition = .idle ∧ ¬ l.muted ∧ ¬ l.stuck))
    ∧ (l.stuckTimer.isSome → l.waiting ∧ l.condition = .busy ∧ ¬ l.muted)

/-- The receiver assembles only on a BUSY line and never while the station sends, and it is inside no byte in SKIP (R44, R50,
R55). -/
abbrev LineUnit.ReceiverSound (l : LineUnit) : Prop :=
  (l.receiver = .assemble ↔ l.rxBuf ≠ []) ∧ (l.receiver = .assemble → l.condition = .busy)
    ∧ (l.sending → l.receiver = .skip) ∧ (l.inByte → l.receiver ≠ .skip)

/-! ### Peer Table (04, section 4.1) -/

/-- Which parts a record holds in each class (section 4.1, R81, R82), and never a bid beside a claim (R92). -/
abbrev PeerRecord.Sound (r : PeerRecord) : Prop :=
  (r.liveness = .never → r = .never)
    ∧ (r.liveness ≠ .never → r.lastHeard.isSome ∧ r.group.isSome)
    ∧ (r.liveness = .quiet → r.bid = none)
    ∧ (r.liveness = .lost → r.report = none ∧ r.event = none ∧ r.bid = none ∧ r.claim = none ∧ r.spent = false)
    ∧ (r.bid.isSome → r.claim = none) ∧ (r.spent → r.claim = none)
    ∧ (r.event.isSome → r.report.any (·.detector.inEvent))

/-- Every record is sound, and the own number has none (R71). -/
abbrev State.PeersSound (s : State) : Prop :=
  s.peers.length = Config.stations ∧ (∀ r ∈ s.peers, r.Sound) ∧ recordOf s.peers s.straps.stn.toNat = .never

/-! ### Contact Scanner (07, section 7.2) -/

/-- An input's candidate and count (R143): a candidate differs from the debounced value, and has a count of 1 or more. -/
abbrev ContactInput.Sound (c : ContactInput) : Prop :=
  (c.candidate = none ↔ c.agreement = 0) ∧ (∀ level, c.candidate = some level → c.value ≠ .ofLevel level)

/-- The scanner's counts, its fault and its known condition (R144, R145, R148). -/
abbrev Scanner.Sound (sc : Scanner) : Prop :=
  sc.inputs.length = Config.contactInputs ∧ (∀ c ∈ sc.inputs, c.Sound)
    ∧ (sc.fault ↔ sc.badScans = 3) ∧ sc.badScans ≤ 3 ∧ sc.recovery ≤ 2
    ∧ (sc.fault = false → sc.recovery = 0 ∧ ∀ c ∈ sc.inputs, c.agreement ≤ 2)
    ∧ (sc.fault → ∀ c ∈ sc.inputs, c.agreement ≤ sc.recovery)
    ∧ (sc.fault → sc.known) ∧ ((∀ c ∈ sc.inputs, c.value ≠ .unknown) → sc.known)

/-! ### Channel Driver (06) -/

/-- The four PULSE channels. -/
def pulseIds : List PulseId := [.trip .a, .trip .b, .close .a, .close .b]

/-- The four LEVEL channels. -/
def levelIds : List LevelId := [.advise, .lift, .freeze, .haltreq]

/-- The two HOLD channels. -/
def holdIds : List HoldId := [.valve, .coolstop]

/-- The pulse queue holds the QUEUED channels, none twice (R128), and at most one coil is energized (R131). -/
abbrev Driver.PulseSound (d : Driver) : Prop :=
  d.pulseQueue.Nodup ∧ (∀ id ∈ pulseIds, id ∈ d.pulseQueue ↔ (d.pulse id).state = .queued)
    ∧ pulseIds.countP d.firing ≤ 1

/-- A PULSE channel has an attempt number and its timers in the states that have them (06, section 6.2). -/
abbrev PulseChannel.Sound (c : PulseChannel) : Prop :=
  (c.attempt.isSome ↔ (c.state = .queued ∨ c.state = .firing ∨ c.state = .checking))
    ∧ (c.pulseTimer.isSome ↔ c.state = .firing) ∧ (c.window.isSome ↔ c.state = .checking)

/-- A LEVEL channel's test timer runs in TESTING, and its failed flag is never set (06, section 6.2). -/
abbrev LevelChannel.Sound (c : LevelChannel) : Prop :=
  (c.testTimer.isSome ↔ c.state = .testing) ∧ c.failed = false

/-- A HOLD channel's timers run in the states that have them (R123 to R125). -/
abbrev HoldChannel.Sound (c : HoldChannel) : Prop :=
  (c.pullInTimer.isSome ↔ c.state = .pullIn) ∧ (c.state = .releasing → c.window.isSome)
    ∧ (c.window.isSome → c.state = .pullIn ∨ c.state = .holding ∨ c.state = .releasing)

/-- Every channel's record is sound. -/
abbrev Driver.RecordsSound (d : Driver) : Prop :=
  (∀ id ∈ pulseIds, (d.pulse id).Sound) ∧ (∀ id ∈ levelIds, (d.level id).Sound) ∧ (∀ id ∈ holdIds, (d.hold id).Sound)

/-! ### Relations between the acting blocks -/

/-- A close coil is energized only while the restart phase is ENERGIZING (R131, R135). -/
abbrev Actors.CloseSound (a : Actors) : Prop :=
  a.coord.phase ≠ .energizing → a.drv.firing (.close .a) = false ∧ a.drv.firing (.close .b) = false

/-- Under the rejoin hold no PULSE or HOLD channel has left its rest state (R117, R120). -/
abbrev Actors.RestSound (a : Actors) : Prop :=
  a.seq.rejoinHold →
    (∀ id ∈ pulseIds, (a.drv.pulse id).state = .ready) ∧ (∀ id ∈ holdIds, (a.drv.hold id).state = .off)

/-- The coordinator's marks, windows and step stand only in the phases that have them (08, section 8.1). -/
abbrev Coordinator.Sound (c : Coordinator) : Prop :=
  (c.step ≠ .none → c.phase = .energizing) ∧ (c.holdPending → c.phase = .energizing)
    ∧ (c.claimPending → c.phase = .bidding ∧ c.claimOutstanding)
    ∧ (c.bidWindow.isSome → c.phase = .bidding ∧ c.claimPending = false)
    ∧ (c.contest.isSome ↔ c.phase = .contest)
    ∧ (c.claimOutstanding → c.phase.inTurn) ∧ (c.phase = .contest ∨ c.phase = .energizing → c.claimOutstanding)
    ∧ (c.stagger.isSome → c.phase = .backoff) ∧ (c.quietStart.isSome → c.phase = .quietWait)

/-- The restart phases from QUIET_WAIT to BACKOFF (08, introduction). -/
def Phase.inRestart : Phase → Bool
  | .quietWait | .awaitPermit | .bidding | .contest | .energizing | .backoff => true
  | .none | .rejoin => false

/-- The stage at which an energizing step runs (R167 to R171). -/
def EnergizeStep.stage? : EnergizeStep → Option Stage
  | .none => Option.none
  | .a _ _ => some .safe
  | .b _ _ | .settle _ => some .isolate
  | .releaseWait _ => some .quiesce
  | .postponed => some .alert

/-- What the sequencer holds under the rejoin hold and outside it (R94, R100, R103, R107, R111, R112, R117), with the
coordinator's share (08, introduction: in restart the stage is ALERT or higher). -/
abbrev Actors.StageSound (a : Actors) : Prop :=
  (a.seq.rejoinHold ↔ a.coord.phase = .rejoin)
    ∧ (a.seq.rejoinHold → a.seq.stage = .watch ∧ a.seq.grace = .none ∧ a.seq.safeWait = false)
    ∧ (a.seq.rejoinHold = false → a.seq.demand.code ≤ a.seq.stage.code)
    ∧ (a.seq.safeWait → a.seq.stage = .safe)
    ∧ (a.seq.grace ≠ .none ↔ 3 ≤ a.seq.stage.code)
    ∧ (a.coord.phase.inRestart → 1 ≤ a.seq.stage.code)
    ∧ (a.coord.step = .none ∨ a.coord.step.stage? = some a.seq.stage)

/-- Cadence, stand-down timer, quiet start, solo delay and held target agree with the values they are judged from (R68, R98,
R99, R114, R153, R154). -/
abbrev State.JudgedSound (s : State) : Prop :=
  s.act.line.fast = s.act.wantsFast s.view
    ∧ s.act.seq.standDown.isSome = s.act.wantsStandDown s.view
    ∧ (s.act.coord.phase = .quietWait → (s.act.coord.quietStart.isSome ↔ s.assessor.detector = .calm))
    ∧ s.act.seq.solo = s.assessor.onset.map (fun onset => later onset soloDelay)
    ∧ (s.assessor.detector = .calm → s.act.seq.target = .watch)

/-- The sensor is LOST exactly while the detector is in BLIND (01, section 1.2; R38, R39). -/
abbrev State.SensorSound (s : State) : Prop := s.port.status = .lost ↔ s.assessor.detector = .blind

/-- The start-up state goes with the rejoin hold and the rejoin window (R117, R180). -/
abbrev State.StartupSound (s : State) : Prop :=
  (s.startup.state = .running ↔ s.act.seq.rejoinHold = false)
    ∧ (s.startup.window.isSome ↔ s.startup.state = .listening)
    ∧ (s.startup.state = .awaitingInputs → s.scanner.known = false)

/-- Every block and every relation is sound. -/
abbrev State.Sound (s : State) : Prop :=
  s.port.Sound ∧ s.assessor.Sound ∧ s.act.line.Sound ∧ s.act.line.ReceiverSound ∧ s.PeersSound ∧ s.scanner.Sound
    ∧ s.act.drv.PulseSound ∧ s.act.drv.RecordsSound ∧ s.act.CloseSound ∧ s.act.RestSound ∧ s.act.coord.Sound
    ∧ s.act.StageSound ∧ s.JudgedSound ∧ s.SensorSound ∧ s.StartupSound

/-! ### Terms the claims use -/

/-- The bits of a word as SDI brings them, most significant first (01, section 1.1). -/
def wordBits (w : Word16) : List Bool := (List.range 16).map w.getMsbD

/-- The record is one that a telegram does not make fresh (R73). -/
def PeerRecord.kept (r : PeerRecord) : Bool := r.liveness = .live || r.liveness = .quiet

/-- An urgent STATE is due: one waits, or a STATE in transmission is marked to be sent again (R57). -/
def LineUnit.urgentDue (l : LineUnit) : Bool :=
  l.waitingEntries.any (fun e => e.kind = .state true) || l.inTransit.any (fun e => e.isState && e.resend)

/-- A restart telegram has been asked for and has not begun: it waits, or it is the deferred request (R58, R59). -/
def LineUnit.restartAsked (l : LineUnit) (k : RestartKind) : Bool :=
  l.waitingEntries.any (fun e => e.restart? = some k) || l.deferred = some k

/-- The receiver takes the next telegram from its first byte (R50). -/
abbrev LineUnit.Hears (l : LineUnit) : Prop := l.receiver = .ready ∧ l.rxBuf = []

/-- The Line Unit after its receiver has taken a run of bytes up to a judgement (R44, R50, R61, R66). -/
def LineUnit.heard (l : LineUnit) (now : Stamp) (bytes : List RxByte) : LineUnit :=
  ({ l with
    receiver := .skip, rxBuf := [], gapBits := 0, inByte := false, condition := .busy
    quietBits := quietTail bytes }).rejudge now

/-- The command that brings a restart telegram. -/
def restartCommand (k : RestartKind) (sender group : Byte) : Instr :=
  match k with
  | .bid => .bidTelegram sender group
  | .claim => .claimTelegram sender group
  | .yield => .yieldTelegram sender group
  | .done => .doneTelegram sender group

/-- The command that brings a directive. -/
def directiveCommand (k : DirectiveKind) (sender target argument : Byte) : Instr :=
  match k with
  | .resume => .resume sender target argument
  | .hold => .hold sender target argument
  | .trip => .trip sender target argument
  | .mute => .mute sender target argument
  | .unmute => .unmute sender target argument
  | .reseed => .reseed sender target argument
  | .test => .test sender target argument
  | .ackReset => .ackReset sender target argument
  | .clearCounts => .clearCounts sender target argument

/-- A directive of these bytes is taken by the station (R49, R53, R185). -/
abbrev State.Takes (s : State) (sender target : Byte) : Prop :=
  s.act.line.Hears ∧ consoleSender sender ∧ (target = s.sender ∨ target = 63)

end Sys2Proof.Machine
end

