-- ==== Sys2Proof/Certificates/Slice0/Obligations.lean ====
section
/-! DEFINITION. The statements for the provers: what the spec's rules say of the commands, block by block, and what every step
keeps. -/

open Sys2Proof Sys2Proof.Machine

/-- A step runs the command at the front of the queue. The one link between per-command statements and runs: commands are
taken one at a time, first in, first out. -/
def Obligations.StepRunsFrontCommand : Prop :=
  ∀ (c : Instr) (rest : List Instr) (s : State),
    step { s with pending := c :: rest } = exec c { s with pending := rest }

/-- With no command waiting, one bit time passes (the model's choice, log 1). The tick is the model's (log 1); 250 bit
times of 4 us are one millisecond of the clock. -/
def Obligations.EmptyQueuePassesOneBitTime : Prop :=
  ∀ (s : State),
    s.pending = [] →
    ∃ t, step s = .next t ∧
      t = { s with
      clock := if s.bitPhase < 249 then s.clock else s.clock + 1
      bitPhase := if s.bitPhase < 249 then s.bitPhase + 1 else 0
      act := { s.act with line := { s.act.line with
        idleCount := s.act.line.idleCount.map (· + 1)
        quietBits := if s.act.line.drivesDominant then 0 else min 24 (s.act.line.quietBits + 1)
        gapBits := if s.act.line.inByte then s.act.line.gapBits else min 30 (s.act.line.gapBits + 1)
        txBits := if s.act.line.sending then min (10 * s.act.line.txBytes.length) (s.act.line.txBits + 1)
          else s.act.line.txBits } } }

/-- Every command completes; the waiting commands, straps and clock are kept, and latched flags stay set. What only a
reset takes back: the straps, the duplicate flag, the known condition and the failed flags (from R74, R148, R177 and
the table of section 6.2). That a command takes no time, so that clock and bit phase stand, is the model's choice (log
1); that the commands waiting behind it are kept is the model's queue (log 22). -/
def Obligations.EveryCommandCompletesAndKeepsLatches : Prop :=
  ∀ (c : Instr) (s : State),
    ∃ t, exec c s = .next t ∧
      t.pending = s.pending
      ∧ ((∀ straps high, c ≠ .reset straps high) →
        t.straps = s.straps ∧ t.clock = s.clock ∧ t.bitPhase = s.bitPhase
          ∧ (s.duplicate → t.duplicate) ∧ (s.scanner.known → t.scanner.known)
          ∧ (∀ id ∈ pulseIds, (s.act.drv.pulse id).failed → (t.act.drv.pulse id).failed)
          ∧ (∀ id ∈ levelIds, (s.act.drv.level id).failed → (t.act.drv.level id).failed)
          ∧ (∀ id ∈ holdIds, (s.act.drv.hold id).failed → (t.act.drv.hold id).failed))

/-- RESET latches the straps, zeroes the clock and puts every block into its after-reset state. The after-reset columns of
the chapters' tables, block by block; CSL and CSK by R140. Whether a byte is under way at reset is the model's choice
(log 4). -/
def Obligations.ResetPutsEveryBlockAfterReset : Prop :=
  ∀ (straps : Straps) (high : Bool) (s : State),
    ∃ t, exec (.reset straps high) s = .next t ∧
      t.pending = s.pending ∧ t.clock = 0 ∧ t.straps = straps
      ∧ (t.port.status = .start ∧ t.port.lastSeq = none ∧ t.port.lastGood = none ∧ t.port.frameTimer = some 0
        ∧ t.port.missing = 0 ∧ t.port.identical = 0 ∧ t.port.recovery = 0 ∧ t.port.awaitLow = high
        ∧ t.port.wordPos = 0 ∧ t.port.bitCount = 0)
      ∧ (t.assessor.detector = .capture ∧ t.assessor.awaitingSeed ∧ t.assessor.captureCount = 0
        ∧ t.assessor.base = ⟨0, 0, 0⟩ ∧ t.assessor.short = 0 ∧ t.assessor.long = 128 ∧ t.assessor.qualifying = 0
        ∧ t.assessor.releasing = 0 ∧ t.assessor.settling = 0 ∧ t.assessor.event = ⟨0, none, 0, 0, false⟩
        ∧ t.assessor.runOnset = none ∧ t.assessor.runPeak = 0 ∧ t.assessor.runClipped = false)
      ∧ (t.act.line.condition = .busy ∧ t.act.line.receiver = .skip ∧ t.act.line.rxBuf = []
        ∧ t.act.line.inByte = false ∧ t.act.line.queue = [⟨.state true, 0, false⟩] ∧ t.act.line.sending = false
          ∧ t.act.line.deferred = none
        ∧ t.act.line.idleCount = none ∧ t.act.line.congested = false ∧ t.act.line.stuck = false
        ∧ t.act.line.stuckTimer = none ∧ t.act.line.mute = none ∧ t.act.line.heartbeat = some 0
        ∧ t.act.line.fast ∧ t.act.line.errors = 0)
      ∧ (t.peers = List.replicate 32 ⟨.never, none, none, none, none, none, none, false⟩ ∧ t.duplicate = false)
      ∧ t.act.seq = ⟨.watch, .watch, .none, false, none, none, true, .watch⟩
      ∧ ((∀ id ∈ levelIds, t.act.drv.level id = ⟨.normal, none, false⟩)
        ∧ (∀ id ∈ holdIds, t.act.drv.hold id = ⟨.off, none, none, false, false⟩)
        ∧ (∀ id ∈ pulseIds, t.act.drv.pulse id = ⟨.ready, none, none, none, false, false⟩)
        ∧ t.act.drv.pulseQueue = [] ∧ t.act.drv.gap = none ∧ t.act.drv.outputs = 0 ∧ t.act.drv.hdr = false)
      ∧ (t.scanner.inputs = List.replicate 16 ⟨.unknown, none, 0⟩ ∧ t.scanner.badScans = 0 ∧ t.scanner.fault = false
        ∧ t.scanner.recovery = 0 ∧ t.scanner.timer = 0 ∧ t.scanner.scanning = false ∧ t.scanner.known = false
        ∧ t.scanner.csl ∧ t.scanner.csk = false)
      ∧ t.act.coord = ⟨.rejoin, false, false, none, false, false, none, none, none, .none, false⟩
      ∧ t.directive = ⟨none, none, 0⟩ ∧ t.startup = ⟨.listening, some 3000, true⟩

/-- A frame's four words are read back whole, and a frame of any other length is missing. From R2, R3 and R11: framing by
the two counters, FLT, the sequence number and the clipped mark. -/
def Obligations.FrameBitsReadBack : Prop :=
  (∀ (p : Port) (head x y z : Word16),
    (p.clockFrame (wordBits head ++ wordBits x ++ wordBits y ++ wordBits z)).soundFrame? =
      if head.getLsbD 0 then none
      else some ⟨head.extractLsb' 8 8, ⟨x, y, z, [x, y, z].any fun c => c = 0x8000 || c = 0x7FFF⟩⟩)
  ∧ (∀ (p : Port) (bits : List Bool),
    bits.length ≠ 64 →
    (p.clockFrame bits).soundFrame? = none)

/-- FRAME_END with a sound frame in sequence: held samples, then the received one, reach the assessor, T is formed and the
stage and restart follow. From R4, R5, R7, R9, R12 and R16, and R42, R96, R100, R102, R153, R154, R165 and R172 for
what the samples set off. That the first sound frame in START clears the missing count, which R9 says of a sound frame
in TRACKING that is no repeat, is the model's reading (log 9). The premise Port.Sound, LineUnit.Sound,
Coordinator.Sound and StageSound are the model's invariants. -/
def Obligations.FrameEndInSequence : Prop :=
  (∀ (s : State) (bits : List Bool) (f : Frame) (n : Byte) (g : Sample),
    s.port.awaitLow = false →
    (s.port.clockFrame bits).soundFrame? = some f →
    s.port.status = .tracking →
    s.port.recovery = 0 →
    s.port.lastSeq = some n →
    s.port.lastGood = some g →
    1 ≤ (f.seq - n).toNat →
    (f.seq - n).toNat ≤ 4 →
    (if g.x = f.counts.x ∧ g.y = f.counts.y ∧ g.z = f.counts.z then s.port.identical + 1 else 1) < 2048 →
    ∃ t, exec (.frameEnd bits) s = .next t ∧
      t = { s with port := t.port, assessor := t.assessor, act := t.act }
      ∧ t.port = { s.port.clockFrame bits with
        lastSeq := some f.seq, lastGood := some f.counts, missing := 0, frameTimer := some s.clock
        identical := if g.x = f.counts.x ∧ g.y = f.counts.y ∧ g.z = f.counts.z then s.port.identical + 1 else 1 }
      ∧ t.assessor =
        ((List.range ((f.seq - n).toNat - 1)).foldl (fun a i => a.sample (profileOf s.straps) g
        (s.clock - BitVec.ofNat 32 (5 * ((f.seq - n).toNat - 1 - i)))) s.assessor).sample
        (profileOf s.straps) f.counts s.clock
      ∧ t.act.seq.target = target t.view)
  ∧ (∀ (s : State) (bits : List Bool) (f : Frame),
    s.port.awaitLow = false →
    (s.port.clockFrame bits).soundFrame? = some f →
    s.port.status = .start →
    s.port.Sound →
    ∃ t, exec (.frameEnd bits) s = .next t ∧
      t = { s with port := t.port, assessor := t.assessor, act := t.act }
      ∧ t.port = { s.port.clockFrame bits with
        lastSeq := some f.seq, lastGood := some f.counts, identical := 1, missing := 0, frameTimer := some s.clock, status := .tracking }
      ∧ t.assessor = s.assessor.sample (profileOf s.straps) f.counts s.clock
      ∧ t.act.seq.target = target t.view)
  ∧ (∀ (s : State) (bits : List Bool) (f : Frame) (n : Byte) (g : Sample),
    s.port.awaitLow = false →
    (s.port.clockFrame bits).soundFrame? = some f →
    s.port.status = .tracking →
    s.port.recovery = 0 →
    s.port.lastSeq = some n →
    s.port.lastGood = some g →
    1 ≤ (f.seq - n).toNat →
    (f.seq - n).toNat ≤ 4 →
    (if g.x = f.counts.x ∧ g.y = f.counts.y ∧ g.z = f.counts.z then s.port.identical + 1 else 1) < 2048 →
    s.act.line.Sound →
    s.act.coord.Sound →
    s.act.StageSound →
    ∃ t, exec (.frameEnd bits) s = .next t ∧
      t.act.seq.target = target t.view ∧ t.act.seq.floor = s.act.seq.floor
      ∧ (s.act.coord.phase ≠ .energizing → s.act.seq.rejoinHold → t.act.seq.stage = s.act.seq.stage)
      ∧ (s.act.seq.rejoinHold = false →
        (s.act.coord.phase ≠ .energizing → (s.act.seq.stage.code ≤ t.act.seq.stage.code
          ∧ (target t.view).code ≤ t.act.seq.stage.code
          ∧ s.act.seq.floor.code ≤ t.act.seq.stage.code))
        ∧ (s.act.coord.phase = .energizing → 2 ≤ (target t.view).code → t.act.coord.phase = .quietWait)
        ∧ (s.act.seq.stage.code < t.act.seq.stage.code → s.act.coord.phase ≠ .rejoin →
          (s.act.coord.phase ≠ .none ∨ 2 ≤ t.act.seq.stage.code) → t.act.coord.phase = .quietWait))
      ∧ ((t.assessor.detector ≠ s.assessor.detector ∨ t.assessor.grade ≠ s.assessor.grade
          ∨ (s.assessor.event.clipped = false ∧ t.assessor.event.clipped)) → t.act.line.urgentDue)
      ∧ (f.seq = n + 1 → s.act.seq.rejoinHold = false → s.act.coord.phase ≠ .energizing →
        t.act.seq.stage = s.act.seq.stage.higher ((target t.view).higher s.act.seq.floor))
      ∧ (s.assessor.detector = .calm → t.assessor.detector ≠ .calm →
        s.act.coord.phase ∈ [.quietWait, .awaitPermit, .bidding, .contest, .backoff] →
        t.act.coord.phase = .quietWait ∧ t.act.coord.claimOutstanding = false ∧ t.act.coord.claimPending = false
          ∧ t.act.coord.bidWindow = none ∧ t.act.coord.contest = none ∧ t.act.coord.quietStart = none
          ∧ (s.act.coord.claimOutstanding → t.act.line.restartAsked .claim = false
            ∧ (t.act.line.restartAsked .yield ∨ s.act.line.restartAsked .claim)))
      ∧ (s.assessor.detector ≠ .calm → t.assessor.detector = .calm → s.act.coord.phase = .quietWait →
        t.act.coord.phase = .quietWait ∧ t.act.coord.quietStart = some s.clock))
  ∧ (∀ (s : State) (bits : List Bool) (f : Frame),
    s.port.awaitLow = false →
    (s.port.clockFrame bits).soundFrame? = some f →
    s.port.status = .start →
    s.port.Sound →
    s.act.line.Sound →
    s.act.coord.Sound →
    s.act.StageSound →
    ∃ t, exec (.frameEnd bits) s = .next t ∧
      t.act.seq.target = target t.view ∧ t.act.seq.floor = s.act.seq.floor
      ∧ (s.act.coord.phase ≠ .energizing → s.act.seq.rejoinHold → t.act.seq.stage = s.act.seq.stage)
      ∧ (s.act.seq.rejoinHold = false →
        (s.act.coord.phase ≠ .energizing → t.act.seq.stage = s.act.seq.stage.higher ((target t.view).higher s.act.seq.floor))
        ∧ (s.act.coord.phase = .energizing → 2 ≤ (target t.view).code → t.act.coord.phase = .quietWait)
        ∧ (s.act.seq.stage.code < t.act.seq.stage.code → s.act.coord.phase ≠ .rejoin →
          (s.act.coord.phase ≠ .none ∨ 2 ≤ t.act.seq.stage.code) → t.act.coord.phase = .quietWait))
      ∧ ((t.assessor.detector ≠ s.assessor.detector ∨ t.assessor.grade ≠ s.assessor.grade
          ∨ (s.assessor.event.clipped = false ∧ t.assessor.event.clipped)) → t.act.line.urgentDue)
      ∧ (s.assessor.detector = .calm → t.assessor.detector ≠ .calm →
        s.act.coord.phase ∈ [.quietWait, .awaitPermit, .bidding, .contest, .backoff] →
        t.act.coord.phase = .quietWait ∧ t.act.coord.claimOutstanding = false ∧ t.act.coord.claimPending = false
          ∧ t.act.coord.bidWindow = none ∧ t.act.coord.contest = none ∧ t.act.coord.quietStart = none
          ∧ (s.act.coord.claimOutstanding → t.act.line.restartAsked .claim = false
            ∧ (t.act.line.restartAsked .yield ∨ s.act.line.restartAsked .claim)))
      ∧ (s.assessor.detector ≠ .calm → t.assessor.detector = .calm → s.act.coord.phase = .quietWait →
        t.act.coord.phase = .quietWait ∧ t.act.coord.quietStart = some s.clock))

/-- FRAME_END with a repeat in TRACKING changes nothing but the framing counters. R6. -/
def Obligations.FrameEndRepeat : Prop :=
  ∀ (s : State) (bits : List Bool) (f : Frame),
    s.port.awaitLow = false →
    (s.port.clockFrame bits).soundFrame? = some f →
    s.port.status = .tracking →
    s.port.lastSeq = some f.seq →
    ∃ t, exec (.frameEnd bits) s = .next t ∧
      t = { s with port := s.port.clockFrame bits }
      ∧ t.port.lastSeq = s.port.lastSeq ∧ t.port.lastGood = s.port.lastGood ∧ t.port.identical = s.port.identical
      ∧ t.port.missing = s.port.missing ∧ t.port.frameTimer = s.port.frameTimer ∧ t.port.status = .tracking
      ∧ t.port.recovery = s.port.recovery

/-- FRAME_END: long gap, stuck sensor and the fifth missing frame declare the sensor lost; fewer missing frames only
count, and the frame cut by reset not even that. From R2, R8, R9, R10, R12, R13, R14 and R38, and R42, R96, R100,
R102, R153, R154, R165 and R172 for what a loss sets off. LineUnit.Sound, Coordinator.Sound and StageSound are the
model's invariants. That the last sequence number is updated and the frame timer is not restarted at a stuck frame of
a difference of 1 to 4 is the model's reading (log 8). R2 treats the frame cut by reset as absent; that it is no
missing frame either is the model's reading (log 7). -/
def Obligations.FrameEndLoss : Prop :=
  (∀ (s : State) (bits : List Bool) (f : Frame) (n : Byte) (g : Sample),
    s.port.awaitLow = false →
    (s.port.clockFrame bits).soundFrame? = some f →
    s.port.status = .tracking →
    s.port.lastSeq = some n →
    s.port.lastGood = some g →
    5 ≤ (f.seq - n).toNat →
    ∃ t, exec (.frameEnd bits) s = .next t ∧
      t = { s with port := t.port, assessor := t.assessor, act := t.act } ∧ t.assessor.detector = .blind
      ∧ t.act.seq.target = target t.view ∧ t.assessor = s.assessor.lose
      ∧ t.port = { s.port.clockFrame bits with
        lastSeq := some f.seq, lastGood := some f.counts, status := .lost, missing := 0, frameTimer := some s.clock
        identical := min 2048 (if g.x = f.counts.x ∧ g.y = f.counts.y ∧ g.z = f.counts.z then
          s.port.identical + 1 else 1)
        recovery := if 2048 ≤ (if g.x = f.counts.x ∧ g.y = f.counts.y ∧ g.z = f.counts.z then
          s.port.identical + 1 else 1) then 0 else 1 })
  ∧ (∀ (s : State) (bits : List Bool) (f : Frame) (n : Byte) (g : Sample),
    s.port.awaitLow = false →
    (s.port.clockFrame bits).soundFrame? = some f →
    s.port.status = .tracking →
    s.port.lastSeq = some n →
    s.port.lastGood = some g →
    1 ≤ (f.seq - n).toNat →
    (f.seq - n).toNat ≤ 4 →
    g.x = f.counts.x ∧ g.y = f.counts.y ∧ g.z = f.counts.z →
    s.port.identical = 2047 →
    ∃ t, exec (.frameEnd bits) s = .next t ∧
      t = { s with port := t.port, assessor := t.assessor, act := t.act } ∧ t.assessor.detector = .blind
      ∧ t.act.seq.target = target t.view
      ∧ t.assessor =
        ((List.range ((f.seq - n).toNat - 1)).foldl (fun a i => a.sample (profileOf s.straps) g
        (s.clock - BitVec.ofNat 32 (5 * ((f.seq - n).toNat - 1 - i)))) s.assessor).lose
      ∧ t.port = { s.port.clockFrame bits with
        lastSeq := some f.seq, lastGood := some f.counts, identical := 2048, status := .lost, missing := 0, recovery := 0 })
  ∧ (∀ (s : State) (bits : List Bool),
    s.port.awaitLow = false →
    (s.port.clockFrame bits).soundFrame? = none →
    s.port.status ≠ .lost →
    s.port.missing = 4 →
    ∃ t, exec (.frameEnd bits) s = .next t ∧
      t = { s with port := t.port, assessor := t.assessor, act := t.act } ∧ t.assessor.detector = .blind
      ∧ t.act.seq.target = target t.view ∧ t.assessor = s.assessor.lose
      ∧ t.port = { s.port.clockFrame bits with status := .lost, missing := 0, recovery := 0 })
  ∧ (∀ (s : State) (bits : List Bool),
    s.port.awaitLow = false →
    (s.port.clockFrame bits).soundFrame? = none →
    s.port.status ≠ .lost →
    s.port.missing < 4 →
    exec (.frameEnd bits) s =
      .next ({ s with port := { s.port.clockFrame bits with missing := s.port.missing + 1 } }))
  ∧ (∀ (s : State) (bits : List Bool),
    s.port.awaitLow = false →
    (s.port.clockFrame bits).soundFrame? = none →
    s.port.status = .lost →
    exec (.frameEnd bits) s =
      .next ({ s with port := { s.port.clockFrame bits with recovery := 0 } }))
  ∧ (∀ (s : State) (bits : List Bool),
    s.port.awaitLow →
    exec (.frameEnd bits) s =
      .next ({ s with port := { s.port with awaitLow := false } }))
  ∧ (∀ (s : State) (bits : List Bool),
    s.port.awaitLow = false →
    s.port.status ≠ .lost →
    s.act.line.Sound →
    s.act.coord.Sound →
    s.act.StageSound →
    ∃ t, exec (.frameEnd bits) s = .next t ∧
      (t.port.status = .lost →
      t.act.seq.target = target t.view ∧ t.act.seq.floor = s.act.seq.floor
      ∧ (s.act.coord.phase ≠ .energizing → s.act.seq.rejoinHold → t.act.seq.stage = s.act.seq.stage)
      ∧ (s.act.seq.rejoinHold = false →
        (s.act.coord.phase ≠ .energizing → (s.act.seq.stage.code ≤ t.act.seq.stage.code
          ∧ (target t.view).code ≤ t.act.seq.stage.code
          ∧ s.act.seq.floor.code ≤ t.act.seq.stage.code))
        ∧ (s.act.coord.phase = .energizing → 2 ≤ (target t.view).code → t.act.coord.phase = .quietWait)
        ∧ (s.act.seq.stage.code < t.act.seq.stage.code → s.act.coord.phase ≠ .rejoin →
          (s.act.coord.phase ≠ .none ∨ 2 ≤ t.act.seq.stage.code) → t.act.coord.phase = .quietWait))
      ∧ ((t.assessor.detector ≠ s.assessor.detector ∨ t.assessor.grade ≠ s.assessor.grade
          ∨ (s.assessor.event.clipped = false ∧ t.assessor.event.clipped)) → t.act.line.urgentDue)
      ∧ ((∀ f n, (s.port.clockFrame bits).soundFrame? = some f → s.port.lastSeq = some n → 5 ≤ (f.seq - n).toNat
        ∨ f.seq = n + 1) →
        s.act.seq.rejoinHold = false → s.act.coord.phase ≠ .energizing →
        t.act.seq.stage = s.act.seq.stage.higher ((target t.view).higher s.act.seq.floor))
      ∧ (s.assessor.detector = .calm → t.assessor.detector ≠ .calm →
        s.act.coord.phase ∈ [.quietWait, .awaitPermit, .bidding, .contest, .backoff] →
        t.act.coord.phase = .quietWait ∧ t.act.coord.claimOutstanding = false ∧ t.act.coord.claimPending = false
          ∧ t.act.coord.bidWindow = none ∧ t.act.coord.contest = none ∧ t.act.coord.quietStart = none
          ∧ (s.act.coord.claimOutstanding → t.act.line.restartAsked .claim = false
            ∧ (t.act.line.restartAsked .yield ∨ s.act.line.restartAsked .claim)))))

/-- FRAME_END in LOST: the recovery run, its breaks, and the restoration at the 200th good frame, with the target it
forms. From R14, R15, R25 and R39, and R42, R96, R100, R102, R153 and R172 for what the restoration sets off.
LineUnit.Sound, Coordinator.Sound and StageSound are the model's invariants. -/
def Obligations.FrameEndRecovery : Prop :=
  (∀ (s : State) (bits : List Bool) (f : Frame) (n : Byte) (g : Sample),
    s.port.awaitLow = false →
    (s.port.clockFrame bits).soundFrame? = some f →
    s.port.status = .lost →
    s.port.lastSeq = some n →
    s.port.lastGood = some g →
    f.seq ≠ n →
    (if 2048 ≤ (if g.x = f.counts.x ∧ g.y = f.counts.y ∧ g.z = f.counts.z then s.port.identical + 1 else 1) then
      0 else if f.seq = n + 1 then s.port.recovery + 1 else 1) < 200 →
    exec (.frameEnd bits) s =
      .next ({ s with port := { s.port.clockFrame bits with
        lastSeq := some f.seq, lastGood := some f.counts, frameTimer := some s.clock
        identical := min 2048 (if g.x = f.counts.x ∧ g.y = f.counts.y ∧ g.z = f.counts.z then
          s.port.identical + 1 else 1)
        recovery := (if 2048 ≤ (if g.x = f.counts.x ∧ g.y = f.counts.y ∧ g.z = f.counts.z then
          s.port.identical + 1 else 1) then 0 else if f.seq = n + 1 then s.port.recovery + 1 else 1) } }))
  ∧ (∀ (s : State) (bits : List Bool) (f : Frame) (n : Byte) (g : Sample),
    s.port.awaitLow = false →
    (s.port.clockFrame bits).soundFrame? = some f →
    s.port.status = .lost →
    s.port.lastSeq = some n →
    s.port.lastGood = some g →
    f.seq ≠ n →
    (if 2048 ≤ (if g.x = f.counts.x ∧ g.y = f.counts.y ∧ g.z = f.counts.z then s.port.identical + 1 else 1) then
      0 else if f.seq = n + 1 then s.port.recovery + 1 else 1) = 200 →
    ∃ t, exec (.frameEnd bits) s = .next t ∧
      t = { s with port := t.port, assessor := t.assessor, act := t.act }
      ∧ t.port = { s.port.clockFrame bits with
        lastSeq := some f.seq, lastGood := some f.counts, frameTimer := some s.clock, status := .tracking, missing := 0, recovery := 0
        identical := if g.x = f.counts.x ∧ g.y = f.counts.y ∧ g.z = f.counts.z then s.port.identical + 1 else 1 }
      ∧ t.assessor = s.assessor.enterCapture.sample (profileOf s.straps) f.counts s.clock
      ∧ t.assessor.detector = .capture ∧ t.assessor.captureCount = 1 ∧ t.assessor.awaitingSeed = false
      ∧ t.assessor.base = ⟨f.counts.x.toInt * 256, f.counts.y.toInt * 256, f.counts.z.toInt * 256⟩
      ∧ t.assessor.short = 0 ∧ t.assessor.long = 128
      ∧ t.act.seq.target = target t.view)
  ∧ (∀ (s : State) (bits : List Bool) (f : Frame),
    s.port.awaitLow = false →
    (s.port.clockFrame bits).soundFrame? = some f →
    s.port.status = .lost →
    s.port.lastSeq = some f.seq →
    exec (.frameEnd bits) s =
      .next ({ s with port := { s.port.clockFrame bits with recovery := 0 } }))
  ∧ (∀ (s : State) (bits : List Bool) (f : Frame),
    s.port.awaitLow = false →
    (s.port.clockFrame bits).soundFrame? = some f →
    s.port.status = .lost →
    s.port.lastSeq = none →
    s.port.lastGood = none →
    exec (.frameEnd bits) s =
      .next ({ s with port := { s.port.clockFrame bits with
        lastSeq := some f.seq, lastGood := some f.counts, frameTimer := some s.clock, identical := 1, recovery := 1 } }))
  ∧ (∀ (s : State) (bits : List Bool) (f : Frame) (n : Byte) (g : Sample),
    s.port.awaitLow = false →
    (s.port.clockFrame bits).soundFrame? = some f →
    s.port.status = .lost →
    s.port.lastSeq = some n →
    s.port.lastGood = some g →
    f.seq ≠ n →
    (if 2048 ≤ (if g.x = f.counts.x ∧ g.y = f.counts.y ∧ g.z = f.counts.z then s.port.identical + 1 else 1) then
      0 else if f.seq = n + 1 then s.port.recovery + 1 else 1) = 200 →
    s.act.line.Sound →
    s.act.coord.Sound →
    s.act.StageSound →
    ∃ t, exec (.frameEnd bits) s = .next t ∧
      t.act.seq.target = target t.view ∧ t.act.seq.floor = s.act.seq.floor
      ∧ (s.act.coord.phase ≠ .energizing → s.act.seq.rejoinHold → t.act.seq.stage = s.act.seq.stage)
      ∧ (s.act.seq.rejoinHold = false →
        (s.act.coord.phase ≠ .energizing → t.act.seq.stage = s.act.seq.stage.higher ((target t.view).higher s.act.seq.floor))
        ∧ (s.act.coord.phase = .energizing → 2 ≤ (target t.view).code → t.act.coord.phase = .quietWait)
        ∧ (s.act.seq.stage.code < t.act.seq.stage.code → s.act.coord.phase ≠ .rejoin →
          (s.act.coord.phase ≠ .none ∨ 2 ≤ t.act.seq.stage.code) → t.act.coord.phase = .quietWait))
      ∧ ((t.assessor.detector ≠ s.assessor.detector ∨ t.assessor.grade ≠ s.assessor.grade
          ∨ (s.assessor.event.clipped = false ∧ t.assessor.event.clipped)) → t.act.line.urgentDue))

/-- FRAME_TIMER_EXPIRY declares a silent sensor lost, forms T and leaves the timer stopped. From R10, R13 and R38, and
R42, R96, R100, R102, R153, R154, R165 and R172 for what the loss sets off. LineUnit.Sound, Coordinator.Sound and
StageSound are the model's invariants. That a command ahead of its timer changes nothing is the model's choice (log
2). -/
def Obligations.FrameTimerExpirySilence : Prop :=
  (∀ (s : State) (st : Stamp),
    s.port.frameTimer = some st →
    25 ≤ elapsed s.clock st →
    s.port.status ≠ .lost →
    ∃ t, exec .frameTimerExpiry s = .next t ∧
      t = { s with port := t.port, assessor := t.assessor, act := t.act } ∧ t.assessor.detector = .blind
      ∧ t.act.seq.target = target t.view ∧ t.assessor = s.assessor.lose
      ∧ t.port = { s.port with status := .lost, missing := 0, recovery := 0, frameTimer := none })
  ∧ (∀ (s : State) (st : Stamp),
    s.port.frameTimer = some st →
    25 ≤ elapsed s.clock st →
    s.port.status = .lost →
    exec .frameTimerExpiry s =
      .next ({ s with port := { s.port with recovery := 0, frameTimer := none } }))
  ∧ (∀ (s : State),
    (∀ st, s.port.frameTimer = some st → elapsed s.clock st < 25) →
    exec .frameTimerExpiry s =
      .next s)
  ∧ (∀ (s : State) (st : Stamp),
    s.port.frameTimer = some st →
    25 ≤ elapsed s.clock st →
    s.port.status ≠ .lost →
    s.act.line.Sound →
    s.act.coord.Sound →
    s.act.StageSound →
    ∃ t, exec .frameTimerExpiry s = .next t ∧
      t.act.seq.target = target t.view ∧ t.act.seq.floor = s.act.seq.floor
      ∧ (s.act.coord.phase ≠ .energizing → s.act.seq.rejoinHold → t.act.seq.stage = s.act.seq.stage)
      ∧ (s.act.seq.rejoinHold = false →
        (s.act.coord.phase ≠ .energizing → t.act.seq.stage = s.act.seq.stage.higher ((target t.view).higher s.act.seq.floor))
        ∧ (s.act.coord.phase = .energizing → 2 ≤ (target t.view).code → t.act.coord.phase = .quietWait)
        ∧ (s.act.seq.stage.code < t.act.seq.stage.code → s.act.coord.phase ≠ .rejoin →
          (s.act.coord.phase ≠ .none ∨ 2 ≤ t.act.seq.stage.code) → t.act.coord.phase = .quietWait))
      ∧ ((t.assessor.detector ≠ s.assessor.detector ∨ t.assessor.grade ≠ s.assessor.grade
          ∨ (s.assessor.event.clipped = false ∧ t.assessor.event.clipped)) → t.act.line.urgentDue)
      ∧ (s.assessor.detector = .calm → t.assessor.detector ≠ .calm →
        s.act.coord.phase ∈ [.quietWait, .awaitPermit, .bidding, .contest, .backoff] →
        t.act.coord.phase = .quietWait ∧ t.act.coord.claimOutstanding = false ∧ t.act.coord.claimPending = false
          ∧ t.act.coord.bidWindow = none ∧ t.act.coord.contest = none ∧ t.act.coord.quietStart = none
          ∧ (s.act.coord.claimOutstanding → t.act.line.restartAsked .claim = false
            ∧ (t.act.line.restartAsked .yield ∨ s.act.line.restartAsked .claim))))

/-- One sample's magnitude, and what a sample does in CALM, EVENT, SETTLING and CAPTURE: the runs it extends, breaks or
completes, and the 300 s limit. From R19 to R24, R26 to R34 and R37, on the assessor's handling of one sample. That
entry to EVENT from CALM leaves the settling count as it stands is the model's choice (log 27); that a sample that
opens an event is put to the 300 s test itself is its reading of R32 (log 30); that the capture count stands outside
CAPTURE is its reading (log 10). -/
def Obligations.DetectorStateChanges : Prop :=
  (∀ (a : Assessor) (prof : Profile) (c : Sample) (stamp : Stamp) (onset : Stamp),
    a.detector = .calm →
    a.qualifying = 3 →
    a.runOnset = some onset →
    prof.rOn * a.long ≤ 4 * (a.short + (16 * (magnitude c a.base : Int) - a.short) / 8) →
    elapsed stamp onset < 300000 →
    a.sample prof c stamp = { a with
      detector := .event, qualifying := 0, runOnset := none, runPeak := 0, runClipped := false, releasing := 0
      short := (a.short + (16 * (magnitude c a.base : Int) - a.short) / 8)
      long := max 128 (a.long + (16 * (magnitude c a.base : Int) - a.long) / 512)
      base := ⟨a.base.x + (c.x.toInt * 256 - a.base.x) / 1024, a.base.y + (c.y.toInt * 256 - a.base.y) / 1024,
        a.base.z + (c.z.toInt * 256 - a.base.z) / 1024⟩
      event := ⟨a.event.number + 1, some onset, max a.runPeak (magnitude c a.base),
        gradeOf (max a.runPeak (magnitude c a.base)), a.runClipped || c.clipped⟩ })
  ∧ (∀ (a : Assessor) (prof : Profile) (c : Sample) (stamp : Stamp) (onset : Stamp),
    a.detector = .event →
    a.releasing = 199 →
    a.event.onset = some onset →
    4 * (a.short + (16 * (magnitude c a.base : Int) - a.short) / 8) < prof.rOff * a.long →
    elapsed stamp onset < 300000 →
    a.sample prof c stamp = { a with
      detector := .settling, releasing := 0, settling := 0, qualifying := 0
      short := (a.short + (16 * (magnitude c a.base : Int) - a.short) / 8)
      event := { a.event with
        peak := max a.event.peak (magnitude c a.base), grade := gradeOf (max a.event.peak (magnitude c a.base))
        clipped := a.event.clipped || c.clipped } })
  ∧ (∀ (a : Assessor) (prof : Profile) (c : Sample) (stamp : Stamp) (onset : Stamp),
    a.detector = .settling →
    a.qualifying = 3 →
    a.event.onset = some onset →
    prof.rOn * a.long ≤ 4 * (a.short + (16 * (magnitude c a.base : Int) - a.short) / 8) →
    elapsed stamp onset < 300000 →
    a.sample prof c stamp = { a with
      detector := .event, releasing := 0, settling := 0, qualifying := 0
      short := (a.short + (16 * (magnitude c a.base : Int) - a.short) / 8)
      event := { a.event with
        peak := max a.event.peak (magnitude c a.base), grade := gradeOf (max a.event.peak (magnitude c a.base))
        clipped := a.event.clipped || c.clipped } })
  ∧ (∀ (a : Assessor) (prof : Profile) (c : Sample) (stamp : Stamp),
    a.detector = .settling →
    a.settling = 1999 →
    (4 * (a.short + (16 * (magnitude c a.base : Int) - a.short) / 8) < prof.rOn * a.long ∨ a.qualifying < 3) →
    a.sample prof c stamp = { a with
      detector := .calm, settling := 2000, qualifying := 0
      short := (a.short + (16 * (magnitude c a.base : Int) - a.short) / 8)
      event := { a.event with
        peak := max a.event.peak (magnitude c a.base), grade := gradeOf (max a.event.peak (magnitude c a.base))
        clipped := a.event.clipped || c.clipped } })
  ∧ (∀ (a : Assessor) (prof : Profile) (c : Sample) (stamp : Stamp) (onset : Stamp),
    a.detector = .event →
    a.event.onset = some onset →
    300000 ≤ elapsed stamp onset →
    a.sample prof c stamp = { a with
      detector := .calm, releasing := 0, settling := 0, qualifying := 0
      runOnset := none, runPeak := 0, runClipped := false
      short := (a.short + (16 * (magnitude c a.base : Int) - a.short) / 8)
      long := max 128 (a.short + (16 * (magnitude c a.base : Int) - a.short) / 8)
      base := ⟨c.x.toInt * 256, c.y.toInt * 256, c.z.toInt * 256⟩
      event := { a.event with
        peak := max a.event.peak (magnitude c a.base), grade := gradeOf (max a.event.peak (magnitude c a.base))
        clipped := a.event.clipped || c.clipped } })
  ∧ (∀ (a : Assessor) (prof : Profile) (c : Sample) (stamp : Stamp),
    a.detector = .capture →
    a.awaitingSeed = false →
    a.captureCount = 1023 →
    a.sample prof c stamp = { a with
      detector := .calm, captureCount := 1024, qualifying := 0
      runOnset := none, runPeak := 0, runClipped := false
      short := (a.short + (16 * (magnitude c a.base : Int) - a.short) / 8)
      long := max 128 (a.long + (16 * (magnitude c a.base : Int) - a.long) / 64)
      base := ⟨a.base.x + (c.x.toInt * 256 - a.base.x) / 64, a.base.y + (c.y.toInt * 256 - a.base.y) / 64,
        a.base.z + (c.z.toInt * 256 - a.base.z) / 64⟩ })
  ∧ (∀ (a : Assessor) (prof : Profile) (c : Sample) (stamp : Stamp),
    a.detector = .capture →
    a.awaitingSeed = false →
    a.captureCount < 1023 →
    a.sample prof c stamp = { a with
      captureCount := a.captureCount + 1
      short := (a.short + (16 * (magnitude c a.base : Int) - a.short) / 8)
      long := max 128 (a.long + (16 * (magnitude c a.base : Int) - a.long) / 64)
      base := ⟨a.base.x + (c.x.toInt * 256 - a.base.x) / 64, a.base.y + (c.y.toInt * 256 - a.base.y) / 64,
        a.base.z + (c.z.toInt * 256 - a.base.z) / 64⟩ })
  ∧ (∀ (peak : Nat),
    (gradeOf peak).val = [41, 164, 410, 820, 1639, 3277, 6554].countP (· ≤ peak))
  ∧ (∀ (a : Assessor) (prof : Profile) (c : Sample) (stamp : Stamp) (onset : Stamp),
    a.detector = .settling →
    a.event.onset = some onset →
    300000 ≤ elapsed stamp onset →
    (a.settling < 1999 ∨ (prof.rOn * a.long ≤ 4 * (a.short + (16 * (magnitude c a.base : Int) - a.short) / 8)
      ∧ 3 ≤ a.qualifying)) →
    a.sample prof c stamp = { a with
      detector := .calm, releasing := 0, settling := 0, qualifying := 0
      runOnset := none, runPeak := 0, runClipped := false
      short := (a.short + (16 * (magnitude c a.base : Int) - a.short) / 8)
      long := max 128 (a.short + (16 * (magnitude c a.base : Int) - a.short) / 8)
      base := ⟨c.x.toInt * 256, c.y.toInt * 256, c.z.toInt * 256⟩
      event := { a.event with
        peak := max a.event.peak (magnitude c a.base), grade := gradeOf (max a.event.peak (magnitude c a.base))
        clipped := a.event.clipped || c.clipped } })
  ∧ (∀ (a : Assessor) (prof : Profile) (c : Sample) (stamp : Stamp),
    a.detector = .calm →
    prof.rOn * a.long ≤ 4 * (a.short + (16 * (magnitude c a.base : Int) - a.short) / 8) →
    a.qualifying < 3 →
    a.sample prof c stamp = { a with
      qualifying := a.qualifying + 1
      runOnset := if a.qualifying = 0 then some stamp else a.runOnset
      runPeak := if a.qualifying = 0 then magnitude c a.base else max a.runPeak (magnitude c a.base)
      runClipped := if a.qualifying = 0 then c.clipped else a.runClipped || c.clipped
      short := (a.short + (16 * (magnitude c a.base : Int) - a.short) / 8)
      long := max 128 (a.long + (16 * (magnitude c a.base : Int) - a.long) / 512)
      base := ⟨a.base.x + (c.x.toInt * 256 - a.base.x) / 1024, a.base.y + (c.y.toInt * 256 - a.base.y) / 1024,
        a.base.z + (c.z.toInt * 256 - a.base.z) / 1024⟩ })
  ∧ (∀ (a : Assessor) (prof : Profile) (c : Sample) (stamp : Stamp),
    a.detector = .calm →
    4 * (a.short + (16 * (magnitude c a.base : Int) - a.short) / 8) < prof.rOn * a.long →
    a.sample prof c stamp = { a with
      qualifying := 0, runOnset := none, runPeak := 0, runClipped := false
      short := (a.short + (16 * (magnitude c a.base : Int) - a.short) / 8)
      long := max 128 (a.long + (16 * (magnitude c a.base : Int) - a.long) / 512)
      base := ⟨a.base.x + (c.x.toInt * 256 - a.base.x) / 1024, a.base.y + (c.y.toInt * 256 - a.base.y) / 1024,
        a.base.z + (c.z.toInt * 256 - a.base.z) / 1024⟩ })
  ∧ (∀ (a : Assessor) (prof : Profile) (c : Sample) (stamp : Stamp) (onset : Stamp),
    a.detector = .event →
    a.event.onset = some onset →
    elapsed stamp onset < 300000 →
    (a.releasing < 199 ∨ prof.rOff * a.long ≤ 4 * (a.short + (16 * (magnitude c a.base : Int) - a.short) / 8)) →
    a.sample prof c stamp = { a with
      releasing := if 4 * (a.short + (16 * (magnitude c a.base : Int) - a.short) / 8) < prof.rOff * a.long then
        a.releasing + 1 else 0
      short := (a.short + (16 * (magnitude c a.base : Int) - a.short) / 8)
      event := { a.event with
        peak := max a.event.peak (magnitude c a.base), grade := gradeOf (max a.event.peak (magnitude c a.base))
        clipped := a.event.clipped || c.clipped } })
  ∧ (∀ (a : Assessor) (prof : Profile) (c : Sample) (stamp : Stamp) (onset : Stamp),
    a.detector = .settling →
    a.event.onset = some onset →
    elapsed stamp onset < 300000 →
    a.settling < 1999 →
    (4 * (a.short + (16 * (magnitude c a.base : Int) - a.short) / 8) < prof.rOn * a.long ∨ a.qualifying < 3) →
    a.sample prof c stamp = { a with
      settling := a.settling + 1
      qualifying := if prof.rOn * a.long ≤ 4 * (a.short + (16 * (magnitude c a.base : Int) - a.short) / 8) then
        a.qualifying + 1 else 0
      short := (a.short + (16 * (magnitude c a.base : Int) - a.short) / 8)
      event := { a.event with
        peak := max a.event.peak (magnitude c a.base), grade := gradeOf (max a.event.peak (magnitude c a.base))
        clipped := a.event.clipped || c.clipped } })
  ∧ (∀ (c : Sample) (base : Axes) (p q r : Nat),
    [p, q, r].Perm [(max (-32767) (min 32767 (c.x.toInt - base.x / 256))).natAbs,
      (max (-32767) (min 32767 (c.y.toInt - base.y / 256))).natAbs,
      (max (-32767) (min 32767 (c.z.toInt - base.z / 256))).natAbs] →
    r ≤ q ∧ q ≤ p →
    magnitude c base = p + q / 2 + r / 4)
  ∧ (∀ (a : Assessor) (prof : Profile) (c : Sample) (stamp : Stamp) (onset : Stamp),
    a.detector = .calm →
    a.qualifying = 3 →
    a.runOnset = some onset →
    prof.rOn * a.long ≤ 4 * (a.short + (16 * (magnitude c a.base : Int) - a.short) / 8) →
    300000 ≤ elapsed stamp onset →
    a.sample prof c stamp = { a with
      qualifying := 0, runOnset := none, runPeak := 0, runClipped := false, releasing := 0, settling := 0
      short := (a.short + (16 * (magnitude c a.base : Int) - a.short) / 8)
      long := max 128 (a.short + (16 * (magnitude c a.base : Int) - a.short) / 8)
      base := ⟨c.x.toInt * 256, c.y.toInt * 256, c.z.toInt * 256⟩
      event := ⟨a.event.number + 1, some onset, max a.runPeak (magnitude c a.base),
        gradeOf (max a.runPeak (magnitude c a.base)), a.runClipped || c.clipped⟩ })

/-- A received sample that finds and leaves the detector in CALM changes port and assessor alone, bar the notice of
clipped-seen. From R42, R96 and R99: in CALM the reported grade and T stand at 0, so nothing further is set off.
Clipped-seen can turn only in a sample that opens an event and ends it, which is the model's reading of R32 (log 30).
State.Sound is the model's invariant. -/
def Obligations.CalmSampleStaysInSensing : Prop :=
  ∀ (s : State) (bits : List Bool) (f : Frame) (g : Sample),
    s.Sound →
    s.port.awaitLow = false →
    (s.port.clockFrame bits).soundFrame? = some f →
    s.port.status = .tracking →
    s.port.lastSeq = some (f.seq - 1) →
    s.port.lastGood = some g →
    (if g.x = f.counts.x ∧ g.y = f.counts.y ∧ g.z = f.counts.z then s.port.identical + 1 else 1) < 2048 →
    s.assessor.detector = .calm →
    (s.assessor.sample (profileOf s.straps) f.counts s.clock).detector = .calm →
    s.act.coord.step ≠ .postponed →
    exec (.frameEnd bits) s =
      .next ({ s with
        port := { s.port.clockFrame bits with
          lastSeq := some f.seq, lastGood := some f.counts, missing := 0, frameTimer := some s.clock
          identical := if g.x = f.counts.x ∧ g.y = f.counts.y ∧ g.z = f.counts.z then s.port.identical + 1 else 1 }
        assessor := s.assessor.sample (profileOf s.straps) f.counts s.clock
        act := { s.act with
          line := if s.assessor.event.clipped = false
              ∧ (s.assessor.sample (profileOf s.straps) f.counts s.clock).event.clipped then s.act.line.urgent s.clock
            else s.act.line } })

/-- A telegram of right length is judged by its CRC, its coded fields and its sender, in that order. From R46, R47, R51
and R53: no byte of a telegram is dropped, and the three judgements stand in their order. -/
def Obligations.TelegramIsJudgedAtItsLastByte : Prop :=
  ∀ (kind sender high low : Byte) (payload : List Byte),
    kindLength kind.toNat = some payload.length →
    sender.toNat ≤ 35 →
    receiveBytes .ready []
        (onTheLine (0x5A :: sender :: kind :: BitVec.ofNat 8 payload.length :: (payload ++ [high, low]))) =
      ⟨.skip, [], if [high, low] ≠ crcBytes (sender :: kind :: BitVec.ofNat 8 payload.length :: payload) then
          .discarded .crcFailure
        else match readFields? kind.toNat sender payload with
          | none => .discarded .outOfRange
          | some t => if t.suitsSender then .valid t else .discarded .wrongSender⟩

/-- A STATE payload is read back as it was sent. The payload table of R48 both ways, with the ranges of R53. -/
def Obligations.StatePayloadRoundTrip : Prop :=
  ∀ (p : StatePayload),
    StatePayload.decode? p.encode = some p

/-- Whatever the station sends, a ready receiver takes as a valid telegram with the values of their owners. From R46, R48,
R49, R53 and R69. -/
def Obligations.OwnTelegramIsHeardAsSent : Prop :=
  ∀ (s : State) (e : TxEntry),
    receiveBytes .ready [] (onTheLine (s.telegramOf e)) = ⟨.skip, [], .valid (match e.kind with
        | .state _ => .state (s.straps.stn.zeroExtend 8) s.stateContent
        | .restart k => .restart k (s.straps.stn.zeroExtend 8) s.straps.rgp)⟩
      ∧ s.stateContent.grade = s.assessor.grade ∧ s.stateContent.detector = s.assessor.detector
      ∧ s.stateContent.stage = s.act.seq.stage ∧ s.stateContent.phase = s.act.coord.phase
      ∧ s.stateContent.eventNumber = s.assessor.event.number
      ∧ s.stateContent.onsetAge = (match s.assessor.onset with
        | some onset => BitVec.ofNat 16 (min 65535 (elapsed s.clock onset))
        | none => 0)
      ∧ s.stateContent.fast = s.act.line.fast ∧ s.stateContent.permit = s.act.coord.permit
      ∧ s.stateContent.congested = s.act.line.congested ∧ s.stateContent.clipped = s.assessor.event.clipped
      ∧ s.stateContent.scanFault = s.scanner.fault ∧ s.stateContent.duplicate = s.duplicate
      ∧ s.stateContent.resetSeen = s.startup.resetSeen ∧ s.stateContent.testKey = s.scanner.active 9
      ∧ s.stateContent.utilityAbsent = s.scanner.active 8 ∧ s.stateContent.group = s.straps.rgp
      ∧ s.stateContent.directiveKind = s.directive.kind ∧ s.stateContent.directiveResult = s.directive.result
      ∧ s.stateContent.console = s.directive.console ∧ s.stateContent.errors = BitVec.ofNat 8 s.act.line.errors
      ∧ (∀ k : Fin 6, s.stateContent.auxiliary[k] = s.scanner.active (10 + k))
      ∧ s.stateContent.channelFailed = (s.stateContent.failed ≠ 0)
      ∧ s.stateContent.failed[0] = s.act.drv.advise.failed ∧ s.stateContent.failed[1] = s.act.drv.lift.failed
      ∧ s.stateContent.failed[2] = s.act.drv.freeze.failed ∧ s.stateContent.failed[3] = s.act.drv.haltreq.failed
      ∧ s.stateContent.failed[4] = s.act.drv.tripA.failed ∧ s.stateContent.failed[5] = s.act.drv.tripB.failed
      ∧ s.stateContent.failed[6] = s.act.drv.valve.failed ∧ s.stateContent.failed[7] = s.act.drv.coolstop.failed
      ∧ s.stateContent.failed[8] = s.act.drv.closeA.failed ∧ s.stateContent.failed[9] = s.act.drv.closeB.failed

/-- TELEGRAM_DISCARDED: framing and header errors discard at their byte, and a discard costs one count. From R44, R50, R51
and R54. -/
def Obligations.DiscardedTelegramIsCountedOnce : Prop :=
  (∀ (d : Byte) (rest : List RxByte),
    receiveBytes .ready [] (⟨d, false⟩ :: rest) = ⟨.skip, [], .discarded .framing⟩)
  ∧ (∀ (b : RxByte) (d : Byte) (rest : List RxByte),
    b.data = 0x5A →
    b.stop →
    receiveBytes .ready [] (b :: ⟨d, false⟩ :: rest) = ⟨.skip, [], .discarded .framing⟩)
  ∧ (∀ (d : Byte) (rest : List RxByte),
    d ≠ 0x5A →
    receiveBytes .ready [] (⟨d, true⟩ :: rest) = ⟨.skip, [], .discarded .badSync⟩)
  ∧ (∀ (sender : Byte) (rest : List RxByte),
    35 < sender.toNat →
    receiveBytes .ready [] (onTheLine [0x5A, sender] ++ rest) = ⟨.skip, [], .discarded .badSender⟩)
  ∧ (∀ (sender kind : Byte) (rest : List RxByte),
    sender.toNat ≤ 35 →
    (kind.toNat = 0 ∨ 6 < kind.toNat) →
    receiveBytes .ready [] (onTheLine [0x5A, sender, kind] ++ rest) = ⟨.skip, [], .discarded .unknownKind⟩)
  ∧ (∀ (sender kind length : Byte) (n : Nat) (rest : List RxByte),
    sender.toNat ≤ 35 →
    kindLength kind.toNat = some n →
    length.toNat ≠ n →
    receiveBytes .ready [] (onTheLine [0x5A, sender, kind, length] ++ rest) = ⟨.skip, [], .discarded .badLength⟩)
  ∧ (∀ (s : State) (bytes : List RxByte),
    s.act.line.Hears →
    endsInDiscard bytes →
    exec (.telegramDiscarded bytes) s =
      .next ({ s with act := { s.act with
      line := { s.act.line.heard s.clock bytes with
        errors := min 255 (s.act.line.errors + 1) } } }))

/-- LINE_IDLE and TELEGRAM_TORN: the line turns IDLE, the receiver READY, the line-stuck flag clear, and the access wait
begins. From R44, R50, R52, R54, R61 and R66. The clearing of the line-stuck flag in AWAIT_PERMIT makes the authority
check (R157, R158). The Sound premises are the unit's invariants. That a command ahead of its count changes nothing is
the model's choice (log 2); how a start bit shows itself is its (log 21). -/
def Obligations.LineIdleReadiesTheReceiver : Prop :=
  (∀ (s : State),
    s.act.line.ReceiverSound →
    (s.act.line.stuck = false ∨ s.act.coord.phase ≠ .awaitPermit ∨ s.act.line.mute ≠ none ∨ s.scanner.fault
        ∨ (s.act.coord.permit = false ∧ (s.scanner.active 7 = false ∨ s.act.coord.keyWithheld))) →
    s.act.line.condition = .busy →
    24 ≤ s.act.line.quietBits →
    s.act.line.receiver ≠ .assemble →
    exec .lineIdle s =
      .next ({ s with act := { s.act with
      line := ({ s.act.line with
        condition := .idle, rxBuf := [], stuck := false, inByte := false
        receiver := if s.act.line.sending then .skip else .ready }).rejudge s.clock } }))
  ∧ (∀ (s : State),
    s.act.line.ReceiverSound →
    (s.act.line.stuck = false ∨ s.act.coord.phase ≠ .awaitPermit ∨ s.act.line.mute ≠ none ∨ s.scanner.fault
        ∨ (s.act.coord.permit = false ∧ (s.scanner.active 7 = false ∨ s.act.coord.keyWithheld))) →
    s.act.line.receiver = .assemble →
    s.act.line.inByte = false →
    30 ≤ s.act.line.gapBits →
    exec .telegramTorn s =
      .next ({ s with act := { s.act with
      line := ({ s.act.line with
        condition := .idle, rxBuf := [], stuck := false, inByte := false, receiver := .ready
        errors := min 255 (s.act.line.errors + 1) }).rejudge s.clock } }))
  ∧ (∀ (s : State),
    (s.act.line.condition = .idle ∨ s.act.line.quietBits < 24 ∨ s.act.line.receiver = .assemble) →
    exec .lineIdle s =
      .next s)
  ∧ (∀ (s : State),
    (s.act.line.receiver ≠ .assemble ∨ s.act.line.inByte ∨ s.act.line.gapBits < 30) →
    exec .telegramTorn s =
      .next s)
  ∧ (∀ (s : State),
    s.act.line.Sound →
    s.act.line.condition = .busy →
    24 ≤ s.act.line.quietBits →
    s.act.line.receiver ≠ .assemble →
    s.act.line.stuck →
    s.act.coord.phase = .awaitPermit →
    (s.act.coord.permit ∨ (s.scanner.active 7 ∧ s.act.coord.keyWithheld = false)) →
    s.act.line.mute = none →
    s.scanner.fault = false →
    ∃ t, exec .lineIdle s = .next t ∧
      t = { s with act := { s.act with
        line := t.act.line
        seq := { s.act.seq with standDown := none }
        coord := { s.act.coord with phase := .bidding, quietStart := none, stagger := none } } }
      ∧ t.act.line.condition = .idle ∧ t.act.line.stuck = false ∧ t.act.line.rxBuf = [] ∧ t.act.line.inByte = false
      ∧ t.act.line.fast ∧ t.act.line.urgentDue ∧ t.act.line.restartAsked .bid ∧ t.act.line.errors = s.act.line.errors
      ∧ t.act.line.receiver = (if s.act.line.sending then s.act.line.receiver else .ready))
  ∧ (∀ (s : State),
    s.act.line.Sound →
    s.act.line.ReceiverSound →
    s.act.line.receiver = .assemble →
    s.act.line.inByte = false →
    30 ≤ s.act.line.gapBits →
    s.act.line.stuck →
    s.act.coord.phase = .awaitPermit →
    (s.act.coord.permit ∨ (s.scanner.active 7 ∧ s.act.coord.keyWithheld = false)) →
    s.act.line.mute = none →
    s.scanner.fault = false →
    ∃ t, exec .telegramTorn s = .next t ∧
      t = { s with act := { s.act with
        line := t.act.line
        seq := { s.act.seq with standDown := none }
        coord := { s.act.coord with phase := .bidding, quietStart := none, stagger := none } } }
      ∧ t.act.line.condition = .idle ∧ t.act.line.stuck = false ∧ t.act.line.rxBuf = [] ∧ t.act.line.inByte = false
      ∧ t.act.line.fast ∧ t.act.line.urgentDue ∧ t.act.line.restartAsked .bid
        ∧ t.act.line.errors = min 255 (s.act.line.errors + 1) ∧ t.act.line.receiver = .ready)

/-- LINE_BUSY: a dominant level makes the line BUSY, loses the access count and may start the line-stuck timer. From R44,
R50, R52, R61 and R66. How a start bit shows itself is the model's choice (log 21). -/
def Obligations.LineBusyLosesTheAccessCount : Prop :=
  (∀ (s : State) (start : Bool),
    exec (.lineBusy ⟨[], start⟩) s =
      .next ({ s with act := { s.act with
      line := { s.act.line with
        condition := .busy, quietBits := 0, idleCount := none
        inByte := (start || s.act.line.inByte) && s.act.line.receiver ≠ .skip
        stuckTimer :=
          if s.act.line.sending = false ∧ s.act.line.queue ≠ [] ∧ s.act.line.mute = none then
            some (s.act.line.stuckTimer.getD s.clock)
          else none } } }))
  ∧ (∀ (s : State) (start : Bool),
    s.act.line.Hears →
    exec (.lineBusy ⟨[⟨0x5A, true⟩], start⟩) s =
      .next ({ s with act := { s.act with
      line := ({ s.act.line with
        condition := .busy, receiver := .assemble, rxBuf := [0x5A], gapBits := 0, inByte := start
        quietBits := if start then 0 else 1 }).rejudge s.clock } }))
  ∧ (∀ (s : State) (b : RxByte) (rest : List RxByte) (start : Bool),
    s.act.line.receiver = .skip →
    ∃ t, exec (.lineBusy ⟨b :: rest, start⟩) s = .next t ∧
      t = { s with act := { s.act with line := t.act.line } } ∧ t.act.line.receiver = .skip
        ∧ t.act.line.condition = .busy ∧ t.act.line.idleCount = none
      ∧ t.act.line.inByte = false
      ∧ t.act.line.queue = s.act.line.queue ∧ t.act.line.errors = s.act.line.errors)

/-- TRANSMISSION_START sends the head once the idle count reaches class gap plus backoff; LDE and LTX carry its bytes bit
by bit. From R43, R55, R61 to R63 and R69. LineUnit.Sound is the unit's invariant. That a command ahead of its wait
changes nothing is the model's choice (log 2). -/
def Obligations.TransmissionStartsAtTheAccessWait : Prop :=
  (∀ (s : State) (e : TxEntry) (rest : List TxEntry) (n : Nat),
    s.act.line.Sound →
    s.act.line.queue = e :: rest →
    s.act.line.idleCount = some n →
    32 * ((match e.kind with
          | .state true => 0
          | .restart _ => 1
          | .state false => 2)
        + if e.collisions = 0 then 0 else 1 + (s.straps.stn.toNat + 5 * (e.collisions - 1)) % 40) ≤ n →
    exec .transmissionStart s =
      .next ({ s with act := { s.act with
      line := { s.act.line with
        sending := true, txBytes := s.telegramOf e, txBits := 0, receiver := .skip, rxBuf := [], inByte := false
        condition := .busy, quietBits := 0, idleCount := none, stuckTimer := none } } }))
  ∧ (∀ (s : State) (e : TxEntry) (rest : List TxEntry) (n : Nat),
    s.act.line.queue = e :: rest →
    s.act.line.idleCount = some n →
    n < 32 * ((match e.kind with
          | .state true => 0
          | .restart _ => 1
          | .state false => 2)
        + if e.collisions = 0 then 0 else 1 + (s.straps.stn.toNat + 5 * (e.collisions - 1)) % 40) →
    exec .transmissionStart s =
      .next s)
  ∧ (∀ (s : State),
    s.act.line.idleCount = none →
    exec .transmissionStart s =
      .next s)
  ∧ (∀ (l : LineUnit) (byte : Byte) (k j : Nat),
    l.sending →
    l.txBytes[k]? = some byte →
    j < 10 →
    l.txBits = 10 * k + j →
    (l.lde ↔ (j = 0 ∨ (1 ≤ j ∧ j ≤ 8 ∧ byte.getLsbD (j - 1) = false)))
      ∧ (l.lde → l.ltx = false))
  ∧ (∀ (l : LineUnit),
    (l.sending = false ∨ 10 * l.txBytes.length ≤ l.txBits) →
    l.lde = false)

/-- COLLISION aborts the transmission, counts it on the entry, and turns congestion on at the sixteenth. From R56, R57,
R59, R62, R63 and R65. That congestion's urgent notice meets the entry already back in the queue is the model's choice
(log 26). That a COLLISION reported with no transmission under way, or after its last stop bit, changes nothing is the
model's (log 25). What the line's quiet time is after the mismatch is the model's (log 20). -/
def Obligations.CollisionBacksOff : Prop :=
  (∀ (s : State) (e : TxEntry) (rest : List TxEntry),
    s.act.line.sending →
    s.act.line.txBits < 10 * s.act.line.txBytes.length →
    s.act.line.queue = e :: rest →
    (e.isState ∨ s.act.line.deferred = none) →
    (e.collisions ≠ 15 ∨ s.act.line.congested) →
    exec .collision s =
      .next ({ s with act := { s.act with
      line := ({ s.act.line with
        sending := false, txBytes := [], txBits := 0
        quietBits := if s.act.line.drivesDominant then s.act.line.quietBits else 0
        queue := ⟨e.kind, min 255 (e.collisions + 1), false⟩ :: rest }).rejudge s.clock } }))
  ∧ (∀ (s : State) (e : TxEntry) (rest : List TxEntry),
    s.act.line.sending →
    s.act.line.txBits < 10 * s.act.line.txBytes.length →
    s.act.line.queue = e :: rest →
    e.collisions = 15 →
    s.act.line.congested = false →
    ∃ t, exec .collision s = .next t ∧
      t = { s with act := { s.act with line := t.act.line } } ∧ t.act.line.congested ∧ t.act.line.sending = false
        ∧ t.act.line.urgentDue)
  ∧ (∀ (s : State) (e : TxEntry) (rest : List TxEntry),
    s.act.line.Sound →
    s.act.line.sending →
    s.act.line.txBits < 10 * s.act.line.txBytes.length →
    s.act.line.queue = e :: rest →
    e.kind = .restart .claim →
    s.act.line.deferred = some .yield →
    (e.collisions ≠ 15 ∨ s.act.line.congested) →
    ∃ t, exec .collision s = .next t ∧
      t = { s with act := { s.act with line := t.act.line } } ∧ t.act.line.queue = rest
        ∧ t.act.line.deferred = none ∧ t.act.line.sending = false)
  ∧ (∀ (s : State) (e : TxEntry) (rest : List TxEntry) (h k : RestartKind),
    s.act.line.Sound →
    s.act.line.sending →
    s.act.line.txBits < 10 * s.act.line.txBytes.length →
    s.act.line.queue = e :: rest →
    e.kind = .restart h →
    s.act.line.deferred = some k →
    (h ≠ .claim ∨ k ≠ .yield) →
    (e.collisions ≠ 15 ∨ s.act.line.congested) →
    ∃ t, exec .collision s = .next t ∧
      t = { s with act := { s.act with line := t.act.line } } ∧ t.act.line.queue = ⟨.restart k, 0, false⟩ :: rest
        ∧ t.act.line.deferred = none
      ∧ t.act.line.sending = false ∧ t.act.line.congested = s.act.line.congested)
  ∧ (∀ (s : State),
    (s.act.line.sending = false ∨ 10 * s.act.line.txBytes.length ≤ s.act.line.txBits) →
    exec .collision s =
      .next s)
  ∧ (∀ (i j n : Nat),
    i < 32 →
    j < 32 →
    i ≠ j →
    1 ≤ n →
    1 ≤ backoffSlots i n ∧ backoffSlots i n ≤ 40 ∧ backoffSlots i n ≠ backoffSlots j n)

/-- TRANSMISSION_COMPLETE removes the sent entry, clears congestion, restarts the heartbeat or tells the coordinator. From
R57, R59, R64, R65, R68, R158 and R161. The Sound premises are the model's invariants; that a command ahead of its bit
changes nothing is the model's choice (log 2). -/
def Obligations.CompletionLeavesTheQueue : Prop :=
  (∀ (s : State) (e : TxEntry) (rest : List TxEntry),
    s.act.line.Sound →
    s.act.line.sending →
    s.act.line.queue = e :: rest →
    10 * s.act.line.txBytes.length ≤ s.act.line.txBits →
    e.isState →
    exec .transmissionComplete s =
      .next ({ s with act := { s.act with
      line := ({ s.act.line with
        sending := false, txBytes := [], txBits := 0, congested := false, heartbeat := some s.clock
        queue := if e.resend then ⟨.state true, 0, false⟩ :: rest else rest }).rejudge s.clock } }))
  ∧ (∀ (s : State) (e : TxEntry) (rest : List TxEntry),
    s.act.line.Sound →
    s.act.line.sending →
    s.act.line.queue = e :: rest →
    10 * s.act.line.txBytes.length ≤ s.act.line.txBits →
    e.kind = .restart .bid →
    s.act.line.deferred = none →
    s.act.coord.phase = .bidding →
    s.act.coord.bidWindow = none →
    s.act.coord.claimPending = false →
    exec .transmissionComplete s =
      .next ({ s with act := { s.act with
        line := ({ s.act.line with sending := false, txBytes := [], txBits := 0, congested := false, queue := rest }).rejudge s.clock
        coord := { s.act.coord with bidWindow := some (s.clock + 2000) } } }))
  ∧ (∀ (s : State) (e : TxEntry) (rest : List TxEntry),
    s.Sound →
    s.act.line.sending →
    s.act.line.queue = e :: rest →
    10 * s.act.line.txBytes.length ≤ s.act.line.txBits →
    e.kind = .restart .claim →
    s.act.line.deferred = none →
    s.act.coord.phase = .bidding →
    s.act.coord.claimPending →
    ∃ t, exec .transmissionComplete s = .next t ∧
      t = { s with act := { s.act with
        line := t.act.line
        coord := { s.act.coord with
          phase := .contest, claimPending := false, contest := some (s.clock + 2000) } } }
      ∧ t.act.line.sending = false ∧ t.act.line.congested = false ∧ t.act.line.heartbeat = s.act.line.heartbeat
      ∧ t.act.line.urgentDue ∧ t.act.line.restartAsked .claim = false)
  ∧ (∀ (s : State) (e : TxEntry) (rest : List TxEntry),
    s.act.line.Sound →
    s.act.line.sending →
    s.act.line.queue = e :: rest →
    10 * s.act.line.txBytes.length ≤ s.act.line.txBits →
    (e.kind = .restart .yield ∨ e.kind = .restart .done ∨ (e.isState = false ∧ s.act.coord.phase ≠ .bidding)) →
    s.act.line.deferred = none →
    exec .transmissionComplete s =
      .next ({ s with act := { s.act with
      line := ({ s.act.line with sending := false, txBytes := [], txBits := 0, congested := false, queue := rest }).rejudge s.clock } }))
  ∧ (∀ (s : State) (e : TxEntry) (rest : List TxEntry) (k : RestartKind),
    s.act.line.Sound →
    s.act.line.sending →
    s.act.line.queue = e :: rest →
    10 * s.act.line.txBytes.length ≤ s.act.line.txBits →
    e.isState = false →
    s.act.line.deferred = some k →
    ∃ t, exec .transmissionComplete s = .next t ∧
      t.act.line.deferred = none ∧ t.act.line.sending = false ∧ ⟨.restart k, 0, false⟩ ∈ t.act.line.queue)
  ∧ (∀ (s : State),
    (s.act.line.sending = false ∨ s.act.line.txBits < 10 * s.act.line.txBytes.length) →
    exec .transmissionComplete s =
      .next s)

/-- LINE_STUCK_EXPIRY, HEARTBEAT_EXPIRY and MUTE_EXPIRY. From R57, R61, R66, R68, R70, R157 and R158. LineUnit.Sound is
the unit's invariant; that a command ahead of its timer changes nothing is the model's choice (log 2). -/
def Obligations.LineTimersExpire : Prop :=
  (∀ (s : State) (st : Stamp),
    s.act.line.Sound →
    s.act.line.stuckTimer = some st →
    500 ≤ elapsed s.clock st →
    s.act.line.stuck = false →
    exec .lineStuckExpiry s =
      .next ({ s with act := { s.act with
      line := { s.act.line with stuck := true } } }))
  ∧ (∀ (s : State) (st : Stamp),
    s.act.line.heartbeat = some st →
    (if s.act.line.fast then 100 else 1000) ≤ elapsed s.clock st →
    exec .heartbeatExpiry s =
      .next ({ s with act := { s.act with
      line := ({ s.act.line with
        heartbeat := none
        queue := if s.act.line.queue.any TxEntry.isState then s.act.line.queue
          else s.act.line.queue ++ [(⟨.state false, 0, false⟩ : TxEntry)] }).rejudge s.clock } }))
  ∧ (∀ (s : State) (m : MuteTimer),
    s.act.line.mute = some m →
    m.seconds * 1000 ≤ elapsed s.clock m.start →
    (s.act.coord.phase ≠ .awaitPermit ∨ s.scanner.fault
        ∨ ((s.act.coord.permit = false ∨ s.act.line.stuck) ∧ (s.scanner.active 7 = false
          ∨ s.act.coord.keyWithheld))) →
    exec .muteExpiry s =
      .next ({ s with act := { s.act with
      line := ({ s.act.line with mute := none }).rejudge s.clock } }))
  ∧ (∀ (s : State) (m : MuteTimer),
    s.act.line.Sound →
    s.act.line.mute = some m →
    m.seconds * 1000 ≤ elapsed s.clock m.start →
    s.act.coord.phase = .awaitPermit →
    ((s.act.coord.permit ∧ s.act.line.stuck = false) ∨ (s.scanner.active 7 ∧ s.act.coord.keyWithheld = false)) →
    s.scanner.fault = false →
    ∃ t, exec .muteExpiry s = .next t ∧
      t = { s with act := t.act } ∧ t.act.line.mute = none ∧ t.act.coord.phase = .bidding
        ∧ t.act.line.restartAsked .bid ∧ t.act.line.urgentDue)
  ∧ (∀ (s : State),
    (∀ st, s.act.line.stuckTimer = some st → elapsed s.clock st < 500) →
    exec .lineStuckExpiry s =
      .next s)
  ∧ (∀ (s : State),
    (∀ st, s.act.line.heartbeat = some st → elapsed s.clock st < (if s.act.line.fast then 100 else 1000)) →
    exec .heartbeatExpiry s =
      .next s)
  ∧ (∀ (s : State),
    (∀ m, s.act.line.mute = some m → elapsed s.clock m.start < m.seconds * 1000) →
    exec .muteExpiry s =
      .next s)

/-- Urgent and routine notices keep at most one STATE in the queue, and an urgent one is due after an urgent notice. The
table of R57 with the order of R56. -/
def Obligations.NoticesMarkTheQueue : Prop :=
  ∀ (l : LineUnit) (now : Stamp),
    l.QueueSound →
    (l.sending → l.queue ≠ []) →
    (l.urgent now).urgentDue
      ∧ (l.urgent now).queue =
        (if l.inTransit.any TxEntry.isState then l.inTransit.map TxEntry.mark ++ l.waitingEntries
        else if l.waitingEntries.any (fun e => e.kind = .state true) then l.queue
        else l.inTransit ++ ((l.waitingEntries.filter TxEntry.isRoutine).map (fun e => ⟨.state true, e.collisions, e.resend⟩)
          ++ (if l.waitingEntries.any TxEntry.isState then [] else [⟨.state true, 0, false⟩]))
          ++ l.waitingEntries.filter fun e => !e.isState)
      ∧ l.urgent now = { l with
        queue := (l.urgent now).queue, idleCount := (l.urgent now).idleCount, stuckTimer := (l.urgent now).stuckTimer }
      ∧ (l.routine now).queue = (if l.queue.any TxEntry.isState then l.queue
        else l.queue ++ [⟨.state false, 0, false⟩])
      ∧ l.routine now = { l with
        queue := (l.routine now).queue, idleCount := (l.routine now).idleCount
        stuckTimer := (l.routine now).stuckTimer }

/-- A restart request joins the queue, replaces the waiting one, or is deferred behind one in transmission. From R56, R58
and R59. -/
def Obligations.RequestsKeepOneRestartTelegram : Prop :=
  ∀ (l : LineUnit) (now : Stamp) (k : RestartKind),
    l.QueueSound →
    l.request now k = { l with
        queue := (l.request now k).queue, deferred := (l.request now k).deferred
        idleCount := (l.request now k).idleCount, stuckTimer := (l.request now k).stuckTimer }
      ∧ (l.request now k).deferred = (if l.inTransit.any (fun e => !e.isState) then
          if l.deferred = some .claim ∧ k = .yield then none else some k
        else l.deferred)
      ∧ (l.request now k).queue =
        if l.inTransit.any (fun e => !e.isState) then l.queue
        else if l.waitingEntries.all TxEntry.isState then
          l.inTransit ++ (l.waitingEntries.filter (fun e => e.kind = .state true) ++ [⟨.restart k, 0, false⟩]
            ++ l.waitingEntries.filter TxEntry.isRoutine)
        else if k = .yield ∧ l.waitingEntries.any (fun e => e.restart? = some .claim) then
          l.inTransit ++ l.waitingEntries.filter TxEntry.isState
        else l.inTransit ++ l.waitingEntries.map fun e => if e.isState then e else ⟨.restart k, 0, false⟩

/-- STATE_TELEGRAM brings the peer's record to life and replaces its report, event, bid and claim parts. From R73, R75 to
R77, R86 and R96. -/
def Obligations.StateTelegramWritesTheRecord : Prop :=
  (∀ (s : State) (sender : Byte) (payload : Vector Byte 12) (p : StatePayload),
    s.act.line.Hears →
    stationSender sender →
    sender ≠ s.sender →
    StatePayload.decode? payload.toList = some p →
    ∃ t, exec (.stateTelegram sender payload) s = .next t ∧
      t = { s with peers := t.peers, act := t.act } ∧ t.act.seq.target = target t.view
      ∧ t.peers = s.peers.set sender.toNat
        { liveness := .live, lastHeard := some s.clock, group := some p.group
          report := some ⟨p.detector, p.grade, p.stage, p.phase⟩
          event :=
            if p.detector ≠ .event ∧ p.detector ≠ .settling then none
            else if (recordOf s.peers sender.toNat).kept
              ∧ (recordOf s.peers sender.toNat).event.any (·.number = p.eventNumber) then
              (recordOf s.peers sender.toNat).event
            else if p.onsetAge = 65535 then none
            else some ⟨p.eventNumber, s.clock - p.onsetAge.zeroExtend 32⟩
          bid := if (recordOf s.peers sender.toNat).kept ∧ p.phase = .bidding then
            (recordOf s.peers sender.toNat).bid else none
          claim :=
            if p.phase ≠ .contest ∧ p.phase ≠ .energizing then none
            else if (recordOf s.peers sender.toNat).kept ∧ (recordOf s.peers sender.toNat).claim.isSome then
              (recordOf s.peers sender.toNat).claim
            else if (recordOf s.peers sender.toNat).kept ∧ (recordOf s.peers sender.toNat).spent then none
            else some s.clock
          spent := (recordOf s.peers sender.toNat).kept && (recordOf s.peers sender.toNat).spent
            && (p.phase = .contest || p.phase = .energizing) })
  ∧ (∀ (s : State) (sender : Byte) (payload : Vector Byte 12) (p : StatePayload),
    s.Sound →
    s.act.line.Hears →
    stationSender sender →
    sender ≠ s.sender →
    StatePayload.decode? payload.toList = some p →
    s.assessor.detector = .calm →
    s.act.coord.phase ≠ .backoff →
    s.act.coord.step ≠ .postponed →
    ∃ t, exec (.stateTelegram sender payload) s = .next t ∧
      t = { s with
        peers := t.peers
        act := { s.act with line := s.act.line.heard s.clock (onTheLine (frameBytes 1 sender payload.toList)) } })

/-- BID, CLAIM, YIELD and DONE telegrams set and remove the peer's bid and claim parts. From R73, R78 to R80, R86 and R96. -/
def Obligations.RestartTelegramsWriteTheRecord : Prop :=
  (∀ (s : State) (sender group : Byte),
    s.act.line.Hears →
    stationSender sender →
    sender ≠ s.sender →
    groupByte group →
    ∃ t, exec (.bidTelegram sender group) s = .next t ∧
      t = { s with peers := t.peers, act := t.act } ∧ t.act.seq.target = target t.view
      ∧ t.peers = s.peers.set sender.toNat
        { (if (recordOf s.peers sender.toNat).kept then (recordOf s.peers sender.toNat)
          else ⟨.never, none, none, none, none, none, none, false⟩) with
          liveness := .live, lastHeard := some s.clock, group := some (BitVec.ofNat 2 group.toNat)
          bid := some s.clock, claim := none, spent := false })
  ∧ (∀ (s : State) (sender group : Byte),
    s.act.line.Hears →
    stationSender sender →
    sender ≠ s.sender →
    groupByte group →
    ∃ t, exec (.claimTelegram sender group) s = .next t ∧
      t = { s with peers := t.peers, act := t.act } ∧ t.act.seq.target = target t.view
      ∧ t.peers = s.peers.set sender.toNat
        { (if (recordOf s.peers sender.toNat).kept then (recordOf s.peers sender.toNat)
          else ⟨.never, none, none, none, none, none, none, false⟩) with
          liveness := .live, lastHeard := some s.clock, group := some (BitVec.ofNat 2 group.toNat)
          bid := none, claim := some s.clock, spent := false })
  ∧ (∀ (s : State) (sender group : Byte),
    s.act.line.Hears →
    stationSender sender →
    sender ≠ s.sender →
    groupByte group →
    ∃ t, exec (.yieldTelegram sender group) s = .next t ∧
      t = { s with peers := t.peers, act := t.act } ∧ t.act.seq.target = target t.view
      ∧ t.peers = s.peers.set sender.toNat
        { (if (recordOf s.peers sender.toNat).kept then (recordOf s.peers sender.toNat)
          else ⟨.never, none, none, none, none, none, none, false⟩) with
          liveness := .live, lastHeard := some s.clock, group := some (BitVec.ofNat 2 group.toNat)
          bid := none, claim := none })
  ∧ (∀ (s : State) (sender group : Byte),
    s.act.line.Hears →
    stationSender sender →
    sender ≠ s.sender →
    groupByte group →
    ∃ t, exec (.doneTelegram sender group) s = .next t ∧
      t = { s with peers := t.peers, act := t.act } ∧ t.act.seq.target = target t.view
      ∧ t.peers = s.peers.set sender.toNat
        { (if (recordOf s.peers sender.toNat).kept then (recordOf s.peers sender.toNat)
          else ⟨.never, none, none, none, none, none, none, false⟩) with
          liveness := .live, lastHeard := some s.clock, group := some (BitVec.ofNat 2 group.toNat)
          bid := none, claim := none, spent := false })

/-- CLAIM_TELEGRAM: in CONTEST, or BIDDING with a claim pending, a lower key takes the turn back when contenders reach the
limit. From R152, R159 and R162. State.Sound is the model's invariant; in CALM the table's notice raises nothing
first. -/
def Obligations.LowerKeyClaimTakesTheTurnBack : Prop :=
  (∀ (s : State) (sender group : Byte),
    s.Sound →
    s.act.line.Hears →
    stationSender sender →
    sender ≠ s.sender →
    groupByte group →
    (s.act.coord.phase = .contest ∨ (s.act.coord.phase = .bidding ∧ s.act.coord.claimPending)) →
    s.assessor.detector = .calm →
    restartKey (BitVec.ofNat 2 group.toNat) sender.toNat < s.view.key →
    ∃ t, exec (.claimTelegram sender group) s = .next t ∧
      (s.view.limit ≤ contenders t.peers s.view.key →
        t.act.coord.phase = .backoff ∧ t.act.coord.claimOutstanding = false ∧ t.act.coord.contest = none
          ∧ t.act.coord.claimPending = false ∧ t.act.coord.bidWindow = none
          ∧ t.act.line.restartAsked .claim = false
          ∧ (t.act.line.restartAsked .yield ∨ s.act.line.restartAsked .claim))
      ∧ (contenders t.peers s.view.key < s.view.limit → t.act.coord = s.act.coord)
      ∧ t = { s with peers := t.peers, act := { t.act with drv := s.act.drv } })
  ∧ (∀ (s : State) (sender group : Byte),
    s.Sound →
    s.act.line.Hears →
    stationSender sender →
    sender ≠ s.sender →
    groupByte group →
    (s.act.coord.phase = .contest ∨ s.act.coord.phase = .bidding) →
    s.assessor.detector = .calm →
    (s.view.key ≤ restartKey (BitVec.ofNat 2 group.toNat) sender.toNat ∨ (s.act.coord.phase = .bidding
      ∧ s.act.coord.claimPending = false)) →
    ∃ t, exec (.claimTelegram sender group) s = .next t ∧
      t = { s with peers := t.peers, act := { s.act with line := t.act.line } })

/-- A valid telegram bearing the station's own number sets the duplicate flag and is discarded uncounted. From R74.
LineUnit.Sound is the unit's invariant. -/
def Obligations.OwnNumberSetsTheDuplicateFlag : Prop :=
  (∀ (s : State) (k : RestartKind) (group : Byte),
    s.act.line.Sound →
    s.act.line.Hears →
    groupByte group →
    ∃ t, exec (restartCommand k s.sender group) s = .next t ∧
      t = { s with duplicate := true, act := { s.act with line := t.act.line } }
      ∧ t.act.line.errors = s.act.line.errors
      ∧ (s.duplicate = false → t.act.line.urgentDue)
      ∧ (s.duplicate → t.act.line.queue = s.act.line.queue ∧ t.act.line.receiver = .skip))
  ∧ (∀ (s : State) (payload : Vector Byte 12),
    s.act.line.Sound →
    s.act.line.Hears →
    payloadInRange payload →
    ∃ t, exec (.stateTelegram s.sender payload) s = .next t ∧
      t = { s with duplicate := true, act := { s.act with line := t.act.line } }
      ∧ t.act.line.errors = s.act.line.errors
      ∧ (s.duplicate = false → t.act.line.urgentDue)
      ∧ (s.duplicate → t.act.line.queue = s.act.line.queue ∧ t.act.line.receiver = .skip))

/-- PEER_QUIET_EXPIRY, PEER_LOST_EXPIRY, BID_PART_EXPIRY and CLAIM_PART_EXPIRY. From R81 to R84, R86 and R96. State.Sound
is the model's invariant; that a command ahead of its timer changes nothing is the model's choice (log 2). -/
def Obligations.PeerTimersExpire : Prop :=
  (∀ (s : State) (peer : BitVec 5) (st : Stamp),
    peer ≠ s.straps.stn →
    s.peers.length = 32 →
    (recordOf s.peers peer.toNat).liveness = .live →
    (recordOf s.peers peer.toNat).lastHeard = some st →
    3500 < elapsed s.clock st →
    ∃ t, exec (.peerQuietExpiry peer) s = .next t ∧
      t = { s with peers := t.peers, act := t.act } ∧ t.act.seq.target = target t.view
      ∧ t.peers = s.peers.set peer.toNat { recordOf s.peers peer.toNat with liveness := .quiet, bid := none })
  ∧ (∀ (s : State) (peer : BitVec 5) (st : Stamp),
    peer ≠ s.straps.stn →
    s.peers.length = 32 →
    (recordOf s.peers peer.toNat).liveness = .quiet →
    (recordOf s.peers peer.toNat).lastHeard = some st →
    10000 < elapsed s.clock st →
    ∃ t, exec (.peerLostExpiry peer) s = .next t ∧
      t = { s with peers := t.peers, act := t.act } ∧ t.act.seq.target = target t.view
      ∧ t.peers = s.peers.set peer.toNat { recordOf s.peers peer.toNat with 
          liveness := .lost, report := none, event := none, bid := none, claim := none, spent := false })
  ∧ (∀ (s : State) (peer : BitVec 5) (st : Stamp),
    peer ≠ s.straps.stn →
    s.peers.length = 32 →
    (recordOf s.peers peer.toNat).bid = some st →
    4000 < elapsed s.clock st →
    ∃ t, exec (.bidPartExpiry peer) s = .next t ∧
      t = { s with peers := t.peers, act := t.act } ∧ t.act.seq.target = target t.view
      ∧ t.peers = s.peers.set peer.toNat { recordOf s.peers peer.toNat with bid := none })
  ∧ (∀ (s : State) (peer : BitVec 5) (st : Stamp),
    peer ≠ s.straps.stn →
    s.peers.length = 32 →
    (recordOf s.peers peer.toNat).claim = some st →
    300000 ≤ elapsed s.clock st →
    ∃ t, exec (.claimPartExpiry peer) s = .next t ∧
      t = { s with peers := t.peers, act := t.act } ∧ t.act.seq.target = target t.view
      ∧ t.peers = s.peers.set peer.toNat { recordOf s.peers peer.toNat with claim := none, spent := true })
  ∧ (∀ (s : State) (peer : BitVec 5) (c : Instr),
    s.Sound →
    c ∈ [.peerQuietExpiry peer, .peerLostExpiry peer, .bidPartExpiry peer, .claimPartExpiry peer] →
    s.assessor.detector = .calm →
    s.act.coord.phase ≠ .backoff →
    s.act.coord.step ≠ .postponed →
    ∃ t, exec c s = .next t ∧
      t = { s with peers := t.peers })
  ∧ (∀ (s : State) (peer : BitVec 5),
    (peer = s.straps.stn ∨ (recordOf s.peers peer.toNat).liveness ≠ .live
      ∨ (recordOf s.peers peer.toNat).lastHeard.all fun st => elapsed s.clock st ≤ 3500) →
    exec (.peerQuietExpiry peer) s =
      .next s)
  ∧ (∀ (s : State) (peer : BitVec 5),
    (peer = s.straps.stn ∨ (recordOf s.peers peer.toNat).liveness ≠ .quiet
      ∨ (recordOf s.peers peer.toNat).lastHeard.all fun st => elapsed s.clock st ≤ 10000) →
    exec (.peerLostExpiry peer) s =
      .next s)
  ∧ (∀ (s : State) (peer : BitVec 5),
    (peer = s.straps.stn ∨ (recordOf s.peers peer.toNat).bid.all fun st => elapsed s.clock st ≤ 4000) →
    exec (.bidPartExpiry peer) s =
      .next s)
  ∧ (∀ (s : State) (peer : BitVec 5),
    (peer = s.straps.stn ∨ (recordOf s.peers peer.toNat).claim.all fun st => elapsed s.clock st < 300000) →
    exec (.claimPartExpiry peer) s =
      .next s)

/-- The need, and T with able peers, without them, in CALM and by blind following. R88, with the able count of R87, the
concurrence count of R89, the able peers at a stage of R90, and T from them by R97, R98 and R99. -/
def Obligations.NeedIsHeldWithinOneAndFour : Prop :=
  (∀ (able q n : Nat),
    1 ≤ able →
    able * q ≤ 8 * n →
    8 * n < able * q + 8 →
    needOf able q = (if 4 < n then 4 else if n < 1 then 1 else n))
  ∧ (∀ (straps : Straps),
    (profileOf straps).q = 2 ∨ (profileOf straps).q = 3 ∨ (profileOf straps).q = 4)
  ∧ (∀ (v : View) (r : PeerRecord),
    v.able = v.peers.countP PeerRecord.able
      ∧ r.able = (r.liveness = .live && (r.report.any fun p => p.detector ∈ [.calm, .event, .settling])))
  ∧ (∀ (v : View) (g : Grade) (onset : Stamp),
    1 ≤ v.able →
    (v.assessor.detector = .event ∨ v.assessor.detector = .settling) →
    v.assessor.event.grade = g →
    v.assessor.event.onset = some onset →
    target v =
        if needOf v.able v.profile.q ≤ v.peers.countP (fun r => r.able
            && (r.report.any fun p => (p.detector = .event || p.detector = .settling)
              && p.grade.any fun h => 2 ≤ h.val)
            && (r.event.any fun e => min (e.estimate - onset).toNat (onset - e.estimate).toNat ≤ v.profile.window)) then
          justified g
        else if 3 ≤ g.val then .alert else .watch)
  ∧ (∀ (v : View) (g : Grade),
    v.able = 0 →
    (v.assessor.detector = .event ∨ v.assessor.detector = .settling) →
    v.assessor.grade = some g →
    target v = targetSolo v g)
  ∧ (∀ (v : View),
    v.assessor.detector = .calm →
    target v = .watch)
  ∧ (∀ (v : View),
    (v.assessor.detector = .capture ∨ v.assessor.detector = .blind) →
    (v.able = 0 → target v = .watch)
      ∧ (1 ≤ v.able → ∀ stage : Stage, stage ≠ .watch → (stage.code ≤ (target v).code ↔
        needOf v.able v.profile.q ≤ v.peers.countP fun r => r.able
          && r.report.any fun p => stage.code ≤ p.stage.code)))
  ∧ (∀ (v : View) (window : Nat),
    v.assessor.detector ≠ .event →
    v.assessor.detector ≠ .settling →
    concurrence v.peers v.assessor.onset window = 0)
  ∧ (∀ (v : View) (g : Grade) (onset : Stamp),
    v.able = 0 →
    (v.assessor.detector = .event ∨ v.assessor.detector = .settling) →
    v.assessor.event.grade = g →
    v.assessor.event.onset = some onset →
    target v =
        if v.profile.soloGrade ≤ g.val ∧ 1500 ≤ elapsed v.now onset then justified g
        else if (justified g).code ≤ 1 then justified g else .alert)

/-- The justified stage of each grade. The table of R95; G is the assessor's reported grade (0 in CALM, unknown in CAPTURE
and BLIND). -/
def Obligations.JustifiedStageTable : Prop :=
  (∀ (g h : Grade),
    g ≤ h →
    [justified 0, justified 1, justified 2, justified 3, justified 4, justified 5, justified 6, justified 7]
        = [.watch, .watch, .alert, .quiesce, .quiesce, .isolate, .safe, .safe]
      ∧ (justified g).code ≤ (justified h).code)
  ∧ (∀ (a : Assessor),
    a.detector.inEvent = false →
    a.grade = (if a.detector = .calm then some 0 else none))

/-- The stage falls only by an energizing step, by the stand-down of ALERT, or by a reset. From R112: no other command,
directive, telegram or sample lowers the stage. State.Sound is the model's invariant. Several steps that complete at
once lower it by several levels in one event. -/
def Obligations.StageFallsOnlyByEnergizingOrStandDown : Prop :=
  ∀ (c : Instr) (s t : State),
    s.Sound →
    exec c s = .next t →
    t.act.seq.stage.code < s.act.seq.stage.code →
    (∃ straps high, c = .reset straps high)
      ∨ (c = .standDownExpiry ∧ s.act.seq.stage = .alert ∧ t.act.seq.stage = .watch)
      ∨ s.act.coord.phase = .energizing
      ∨ (c = .contestIntervalExpiry ∧ s.act.coord.phase = .contest)

/-- GRACE_EXPIRY ends the grace and requests TRIP-A, then TRIP-B. From R104, R128, R129 and R131. That a command ahead of
its timer changes nothing is the model's choice (log 2). -/
def Obligations.GraceExpiryRequestsTheTrips : Prop :=
  (∀ (s : State) (expiry : Stamp),
    s.act.seq.grace = .running expiry →
    reached s.clock expiry →
    ∃ t, exec .graceExpiry s = .next t ∧
      t = { s with act := t.act } ∧ t.act.seq.grace = .ended)
  ∧ (∀ (s : State) (expiry : Stamp),
    s.act.seq.grace = .running expiry →
    reached s.clock expiry →
    s.act.drv.tripA.state = .ready →
    s.act.drv.tripB.state = .ready →
    s.act.drv.closeA.state = .ready →
    (s.act.drv.closeB.state = .ready ∨ s.act.drv.closeB.state = .spent) →
    s.act.drv.pulseQueue = [] →
    s.act.drv.gapServed s.clock →
    s.scanner.active 0 →
    s.scanner.active 1 →
    exec .graceExpiry s =
      .next ({ s with act := { s.act with
        seq := { s.act.seq with grace := .ended }
        drv := { s.act.drv with
          tripA := ⟨.firing, some .first, some s.clock, none, false, s.act.drv.tripA.failed⟩
          tripB := ⟨.queued, some .first, none, none, false, s.act.drv.tripB.failed⟩
          pulseQueue := [.trip .b] } } }))
  ∧ (∀ (s : State) (expiry : Stamp),
    s.act.seq.grace = .running expiry →
    reached s.clock expiry →
    s.act.drv.tripA.state = .ready →
    s.act.drv.tripB.state = .ready →
    s.act.drv.closeA.state = .ready →
    (s.act.drv.closeB.state = .ready ∨ s.act.drv.closeB.state = .spent) →
    s.act.seq.safeWait = false →
    s.scanner.active 0 = false →
    s.scanner.active 1 = false →
    exec .graceExpiry s =
      .next ({ s with act := { s.act with
        seq := { s.act.seq with grace := .ended }
        drv := { s.act.drv with
          tripA := ⟨.spent, none, none, none, s.scanner.fault || s.scanner.value 0 = .unknown, s.act.drv.tripA.failed⟩
          tripB := ⟨.spent, none, none, none, s.scanner.fault || s.scanner.value 1 = .unknown,
            s.act.drv.tripB.failed⟩ } } }))
  ∧ (∀ (s : State),
    (∀ expiry, s.act.seq.grace = .running expiry → reached s.clock expiry = false) →
    exec .graceExpiry s =
      .next s)

/-- SOLO_DELAY_EXPIRY forms T: the stage rises to the greater of T and the trip floor, with its requests; in ENERGIZING T
aborts the turn or lets step D run. From R96, R98, R100, R101, R103 to R107, R113, R117, R127, R135, R152, and R171 to
R173. The Sound premises are the model's invariants; that a command ahead of its timer changes nothing is the model's
choice (log 2). -/
def Obligations.SoloDelayExpiryFormsTheTarget : Prop :=
  (∀ (s : State) (e : Stamp),
    s.act.seq.solo = some e →
    reached s.clock e →
    s.act.seq.rejoinHold →
    exec .soloDelayExpiry s =
      .next ({ s with act := { s.act with seq := { s.act.seq with target := target s.view } } }))
  ∧ (∀ (s : State) (e : Stamp),
    s.act.coord.Sound →
    s.act.seq.solo = some e →
    reached s.clock e →
    s.act.seq.rejoinHold = false →
    s.act.coord.phase ≠ .energizing →
    ∃ t, exec .soloDelayExpiry s = .next t ∧
      t = { s with act := t.act } ∧ t.act.seq.target = target s.view ∧ t.act.seq.floor = s.act.seq.floor
      ∧ t.act.seq.stage = s.act.seq.stage.higher ((target s.view).higher s.act.seq.floor))
  ∧ (∀ (s : State) (e : Stamp),
    s.act.seq.solo = some e →
    reached s.clock e →
    s.act.seq.rejoinHold = false →
    s.act.coord.phase ≠ .energizing →
    (target s.view).code ≤ s.act.seq.stage.code →
    s.act.seq.floor.code ≤ s.act.seq.stage.code →
    s.assessor.grade ≠ some 7 →
    exec .soloDelayExpiry s =
      .next ({ s with act := { s.act with seq := { s.act.seq with target := target s.view } } }))
  ∧ (∀ (s : State),
    (∀ e, s.act.seq.solo = some e → reached s.clock e = false) →
    exec .soloDelayExpiry s =
      .next s)
  ∧ (∀ (s : State) (e : Stamp),
    s.act.coord.Sound →
    s.act.drv.PulseSound →
    s.act.seq.solo = some e →
    reached s.clock e →
    s.act.seq.rejoinHold = false →
    s.act.coord.phase ≠ .energizing →
    s.act.seq.stage.code < (target s.view).code →
    ∃ t, exec .soloDelayExpiry s = .next t ∧
      (∀ id ∈ [LevelId.advise, .lift], (t.act.drv.level id).state = .asserted)
      ∧ (2 ≤ t.act.seq.stage.code → ∀ id ∈ levelIds, (t.act.drv.level id).state = .asserted)
      ∧ (3 ≤ t.act.seq.stage.code → s.act.seq.grace = .none →
        if s.scanner.active 5 ∨ ((s.assessor.detector = .event ∨ s.assessor.detector = .settling)
          ∧ s.assessor.event.grade = 7 ∧ 3 ≤ (target s.view).code) then
          t.act.seq.grace = .ended ∧ t.act.drv.tripA.state ≠ .ready ∧ t.act.drv.tripB.state ≠ .ready
        else t.act.seq.grace = .running (s.clock + BitVec.ofNat 32 (profileOf s.straps).grace)
          ∧ (∀ p ∈ [Pdu.a, .b], (s.act.drv.pulse (.trip p)).state ≠ .queued →
            t.act.drv.pulse (.trip p) = s.act.drv.pulse (.trip p))
          ∧ (t.act.seq.stage = .safe → s.act.drv.tripA.state = .ready ∨ s.act.drv.tripB.state = .ready →
            s.act.drv.valve.asserted = false ∨ s.act.drv.coolstop.asserted = false → t.act.seq.safeWait))
      ∧ (3 ≤ t.act.seq.stage.code → s.act.seq.grace ≠ .none →
        if s.act.seq.grace = .ended ∨ ((s.assessor.detector = .event ∨ s.assessor.detector = .settling)
          ∧ s.assessor.event.grade = 7 ∧ 3 ≤ (target s.view).code) then
          t.act.seq.grace = .ended ∧ t.act.drv.tripA.state ≠ .ready ∧ t.act.drv.tripB.state ≠ .ready
        else t.act.seq.grace = s.act.seq.grace)
      ∧ (t.act.seq.stage = .safe →
        t.act.seq.safeWait ∨ (t.act.drv.valve.asserted ∧ t.act.drv.coolstop.asserted)))
  ∧ (∀ (s : State) (e expiry : Stamp),
    s.act.coord.Sound →
    s.act.drv.PulseSound →
    s.act.seq.solo = some e →
    reached s.clock e →
    s.act.seq.rejoinHold = false →
    s.act.coord.phase ≠ .energizing →
    s.act.seq.grace = .running expiry →
    ∃ t, exec .soloDelayExpiry s = .next t ∧
      if ((s.assessor.detector = .event ∨ s.assessor.detector = .settling) ∧ s.assessor.event.grade = 7
        ∧ 3 ≤ (target s.view).code) then
        t.act.seq.grace = .ended ∧ t.act.drv.tripA.state ≠ .ready ∧ t.act.drv.tripB.state ≠ .ready
      else t.act.seq.grace = .running expiry)
  ∧ (∀ (s : State) (e : Stamp),
    s.act.line.Sound →
    s.act.coord.Sound →
    s.act.drv.PulseSound →
    s.act.seq.solo = some e →
    reached s.clock e →
    s.act.seq.rejoinHold = false →
    s.act.coord.phase = .energizing →
    2 ≤ (target s.view).code →
    ∃ t, exec .soloDelayExpiry s = .next t ∧
      t = { s with act := t.act } ∧ t.act.seq.target = target s.view ∧ t.act.seq.floor = s.act.seq.floor
      ∧ t.act.seq.stage = s.act.seq.stage.higher ((target s.view).higher s.act.seq.floor)
      ∧ t.act.coord = { s.act.coord with
        phase := .quietWait, step := .none, holdPending := false, claimOutstanding := false, stagger := none
        quietStart := if s.assessor.detector = .calm then some s.clock else none }
      ∧ t.act.line.restartAsked .claim = false ∧ (t.act.line.restartAsked .yield ∨ s.act.line.restartAsked .claim)
      ∧ t.act.line.urgentDue
      ∧ t.act.drv.firing (.close .a) = false ∧ t.act.drv.firing (.close .b) = false
      ∧ (∀ id ∈ [LevelId.advise, .lift], (t.act.drv.level id).state = .asserted)
      ∧ (2 ≤ t.act.seq.stage.code → ∀ id ∈ levelIds, (t.act.drv.level id).state = .asserted)
      ∧ (3 ≤ t.act.seq.stage.code → s.act.seq.grace = .none →
        if s.scanner.active 5 ∨ ((s.assessor.detector = .event ∨ s.assessor.detector = .settling)
          ∧ s.assessor.event.grade = 7 ∧ 3 ≤ (target s.view).code) then
          t.act.seq.grace = .ended ∧ t.act.drv.tripA.state ≠ .ready ∧ t.act.drv.tripB.state ≠ .ready
        else t.act.seq.grace = .running (s.clock + BitVec.ofNat 32 (profileOf s.straps).grace)
          ∧ (∀ p ∈ [Pdu.a, .b], (s.act.drv.pulse (.trip p)).state ≠ .queued →
            t.act.drv.pulse (.trip p) = s.act.drv.pulse (.trip p))
          ∧ (t.act.seq.stage = .safe → s.act.drv.tripA.state = .ready ∨ s.act.drv.tripB.state = .ready →
            s.act.drv.valve.asserted = false ∨ s.act.drv.coolstop.asserted = false → t.act.seq.safeWait))
      ∧ (3 ≤ t.act.seq.stage.code → s.act.seq.grace ≠ .none →
        if s.act.seq.grace = .ended ∨ ((s.assessor.detector = .event ∨ s.assessor.detector = .settling)
          ∧ s.assessor.event.grade = 7 ∧ 3 ≤ (target s.view).code) then
          t.act.seq.grace = .ended ∧ t.act.drv.tripA.state ≠ .ready ∧ t.act.drv.tripB.state ≠ .ready
        else t.act.seq.grace = s.act.seq.grace)
      ∧ (t.act.seq.stage = .safe →
        t.act.seq.safeWait ∨ (t.act.drv.valve.asserted ∧ t.act.drv.coolstop.asserted)))
  ∧ (∀ (s : State) (e : Stamp),
    s.act.seq.solo = some e →
    reached s.clock e →
    s.act.seq.rejoinHold = false →
    s.act.coord.phase = .energizing →
    (target s.view = .alert ∨ (target s.view = .watch ∧ s.act.coord.step ≠ .postponed)) →
    (target s.view).code ≤ s.act.seq.stage.code →
    s.act.seq.floor.code ≤ s.act.seq.stage.code →
    exec .soloDelayExpiry s =
      .next ({ s with act := { s.act with seq := { s.act.seq with target := target s.view } } }))
  ∧ (∀ (s : State) (e : Stamp),
    s.Sound →
    s.act.seq.solo = some e →
    reached s.clock e →
    s.act.coord.step = .postponed →
    target s.view = .watch →
    s.act.seq.floor = .watch →
    s.act.drv.assertedAbove .alert = false →
    s.act.drv.pulseQueue = [] →
    ∃ t, exec .soloDelayExpiry s = .next t ∧
      t = { s with act := t.act } ∧ t.act.seq = { s.act.seq with stage := .watch, target := .watch }
        ∧ t.act.line.urgentDue
      ∧ t.act.coord = { s.act.coord with
        phase := .none, step := .none, permit := false, claimOutstanding := false, holdPending := false
        keyWithheld := s.act.coord.keyWithheld || s.scanner.active 7 }
      ∧ t.act.line.restartAsked .done
      ∧ t.act.drv.advise = ⟨.normal, none, s.act.drv.advise.failed⟩
      ∧ t.act.drv.lift = ⟨.normal, none, s.act.drv.lift.failed⟩)
  ∧ (∀ (s : State) (e : Stamp),
    s.Sound →
    s.act.seq.solo = some e →
    reached s.clock e →
    s.act.coord.step = .postponed →
    target s.view = .watch →
    s.act.seq.floor.code ≤ 1 →
    s.act.drv.assertedAbove .alert →
    ∃ t, exec .soloDelayExpiry s = .next t ∧
      t = { s with act := t.act } ∧ t.act.seq = { s.act.seq with target := .watch } ∧ t.act.line.urgentDue
      ∧ t.act.coord = { s.act.coord with
        phase := .awaitPermit, step := .none, permit := false, claimOutstanding := false, holdPending := false
        keyWithheld := s.act.coord.keyWithheld || s.scanner.active 7 }
      ∧ (∀ id ∈ levelIds, t.act.drv.level id = s.act.drv.level id))

/-- STAND_DOWN_EXPIRY sets WATCH, releases ADVISE and LIFT, and clears a trip floor of 1. From R115, R121 and R127.
LineUnit.Sound is the unit's invariant; that a command ahead of its timer changes nothing is the model's choice (log
2). -/
def Obligations.StandDownReturnsAlertToWatch : Prop :=
  (∀ (s : State) (st : Stamp),
    s.act.line.Sound →
    s.act.seq.standDown = some st →
    60000 ≤ elapsed s.clock st →
    s.act.seq.stage = .alert →
    s.act.drv.assertedAbove .alert = false →
    ∃ t, exec .standDownExpiry s = .next t ∧
      t = { s with act := { s.act with
        line := t.act.line
        seq := { s.act.seq with
          stage := .watch, standDown := none, floor := if s.act.seq.floor = .alert then .watch else s.act.seq.floor }
        drv := { s.act.drv with
          advise := ⟨.normal, none, s.act.drv.advise.failed⟩, lift := ⟨.normal, none, s.act.drv.lift.failed⟩ } } }
      ∧ t.act.line.urgentDue)
  ∧ (∀ (s : State),
    (∀ st, s.act.seq.standDown = some st → elapsed s.clock st < 60000) →
    exec .standDownExpiry s =
      .next s)

/-- TEST_TIMER_EXPIRY, PULL_IN_EXPIRY and HOLD_WINDOW_EXPIRY. From R122 to R125, R138, R168 and R173. LineUnit.Sound is
the unit's invariant; that a command ahead of its timer changes nothing is the model's choice (log 2). -/
def Obligations.LevelAndHoldTimersExpire : Prop :=
  (∀ (s : State) (ch : LevelId) (st : Stamp),
    (s.act.drv.level ch).state = .testing →
    (s.act.drv.level ch).testTimer = some st →
    2000 ≤ elapsed s.clock st →
    ∃ t, exec (.testTimerExpiry ch) s = .next t ∧
      t = { s with act := { s.act with
        drv := s.act.drv.setLevel ch ⟨.normal, none, (s.act.drv.level ch).failed⟩ } }
      ∧ (t.act.drv.level ch).energized = false)
  ∧ (∀ (s : State) (ch : HoldId) (st : Stamp),
    (s.act.drv.hold ch).state = .pullIn →
    (s.act.drv.hold ch).pullInTimer = some st →
    300 ≤ elapsed s.clock st →
    ∃ t, exec (.pullInExpiry ch) s = .next t ∧
      t = { s with act := { s.act with
        drv := s.act.drv.setHold ch { (s.act.drv.hold ch) with state := .holding, pullInTimer := none } } }
      ∧ (t.act.drv.hold ch).energized)
  ∧ (∀ (s : State) (ch : HoldId) (st : Stamp),
    s.act.line.Sound →
    ((s.act.drv.hold ch).state = .pullIn ∨ (s.act.drv.hold ch).state = .holding) →
    (s.act.drv.hold ch).window = some st →
    (if ch = .valve then 60000 else 10000) ≤ elapsed s.clock st →
    ∃ t, exec (.holdWindowExpiry ch) s = .next t ∧
      t = { s with act := { s.act with
        line := t.act.line
        drv := s.act.drv.setHold ch ⟨.failed true, none, none, (s.act.drv.hold ch).unconfirmed, true⟩ } }
      ∧ (t.act.drv.hold ch).energized
      ∧ ((s.act.drv.hold ch).failed = false → t.act.line.urgentDue)
        ∧ ((s.act.drv.hold ch).failed → t.act.line = s.act.line))
  ∧ (∀ (s : State) (ch : HoldId) (st : Stamp),
    s.act.line.Sound →
    (s.act.drv.hold ch).state = .releasing →
    (s.act.drv.hold ch).window = some st →
    (if ch = .valve then 60000 else 10000) ≤ elapsed s.clock st →
    s.act.coord.step = .none →
    ∃ t, exec (.holdWindowExpiry ch) s = .next t ∧
      t = { s with act := { s.act with
        line := t.act.line
        drv := s.act.drv.setHold ch { (s.act.drv.hold ch) with state := .failed false, window := none, failed := true } } }
      ∧ (t.act.drv.hold ch).energized = false
      ∧ ((s.act.drv.hold ch).failed = false → t.act.line.urgentDue)
        ∧ ((s.act.drv.hold ch).failed → t.act.line = s.act.line))
  ∧ (∀ (s : State) (ch : HoldId) (st : Stamp) (valve coolstop : Bool),
    (s.act.drv.hold ch).state = .releasing →
    (s.act.drv.hold ch).window = some st →
    (if ch = .valve then 60000 else 10000) ≤ elapsed s.clock st →
    s.act.seq.safeWait = false →
    s.act.coord.phase = .energizing →
    s.act.coord.step = .a valve coolstop →
    (if ch = .valve then valve else coolstop) →
    ∃ t, exec (.holdWindowExpiry ch) s = .next t ∧
      t = { s with act := t.act } ∧ (t.act.drv.hold ch).state = .failed false ∧ (t.act.drv.hold ch).failed
      ∧ t.act.coord.phase = .awaitPermit ∧ t.act.coord.permit = false ∧ t.act.coord.claimOutstanding = false
      ∧ t.act.coord.step = .none ∧ t.act.coord.keyWithheld = (s.act.coord.keyWithheld || s.scanner.active 7)
      ∧ t.act.seq.stage = s.act.seq.stage)
  ∧ (∀ (s : State) (ch : LevelId),
    ((s.act.drv.level ch).state ≠ .testing ∨ (s.act.drv.level ch).testTimer.all fun st => elapsed s.clock st < 2000) →
    exec (.testTimerExpiry ch) s =
      .next s)
  ∧ (∀ (s : State) (ch : HoldId),
    ((s.act.drv.hold ch).state ≠ .pullIn ∨ (s.act.drv.hold ch).pullInTimer.all fun st => elapsed s.clock st < 300) →
    exec (.pullInExpiry ch) s =
      .next s)
  ∧ (∀ (s : State) (ch : HoldId),
    ((s.act.drv.hold ch).window.all fun st => elapsed s.clock st < (if ch = .valve then 60000 else 10000)) →
    exec (.holdWindowExpiry ch) s =
      .next s)

/-- PULSE_GAP_EXPIRY: the gap is served and the head of the pulse queue fires, or is settled without a pulse. From R131
and R129. That a command ahead of its timer changes nothing is the model's choice (log 2). -/
def Obligations.PulseGapExpiryServesTheHead : Prop :=
  (∀ (s : State) (st : Stamp),
    s.act.drv.gap = some st →
    250 ≤ elapsed s.clock st →
    (s.act.drv.pulseQueue = [] ∨ s.act.drv.anyFiring) →
    exec .pulseGapExpiry s =
      .next ({ s with act := { s.act with drv := { s.act.drv with gap := none } } }))
  ∧ (∀ (s : State) (st : Stamp) (id : PulseId) (rest : List PulseId),
    s.act.drv.gap = some st →
    250 ≤ elapsed s.clock st →
    (∀ id ∈ pulseIds, (s.act.drv.pulse id).state ≠ .firing) →
    s.act.drv.pulseQueue = id :: rest →
    awaitedHolds s.scanner id = false →
    (∀ p, id = .close p → s.act.coord.phase = .energizing) →
    exec .pulseGapExpiry s =
      .next ({ s with act := { s.act with
      drv := { s.act.drv.setPulse id { s.act.drv.pulse id with
        state := .firing, pulseTimer := some s.clock } with gap := none, pulseQueue := rest } } }))
  ∧ (∀ (s : State) (st : Stamp) (p : Pdu),
    s.act.drv.gap = some st →
    250 ≤ elapsed s.clock st →
    (∀ id ∈ pulseIds, (s.act.drv.pulse id).state ≠ .firing) →
    s.act.drv.pulseQueue = [.trip p] →
    pduOpen s.scanner p →
    s.act.seq.safeWait = false →
    exec .pulseGapExpiry s =
      .next ({ s with act := { s.act with
      drv := { s.act.drv.setPulse (.trip p) { s.act.drv.pulse (.trip p) with
        state := .spent, attempt := none, pulseTimer := none, window := none
        unconfirmed := s.scanner.fault || s.scanner.value (pduContact p) = .unknown } with
          gap := none, pulseQueue := [] } } }))
  ∧ (∀ (s : State) (st : Stamp) (p : Pdu),
    s.act.drv.gap = some st →
    250 ≤ elapsed s.clock st →
    (∀ id ∈ pulseIds, (s.act.drv.pulse id).state ≠ .firing) →
    s.act.drv.pulseQueue = [.close p] →
    s.act.coord.phase ≠ .energizing →
    exec .pulseGapExpiry s =
      .next ({ s with act := { s.act with
      drv := { s.act.drv.setPulse (.close p) { s.act.drv.pulse (.close p) with
        state := .ready, attempt := none, pulseTimer := none, window := none } with
          gap := none, pulseQueue := [] } } }))
  ∧ (∀ (s : State),
    (s.act.drv.gap.all fun st => elapsed s.clock st < 250) →
    exec .pulseGapExpiry s =
      .next s)

/-- PULSE_TIMER_EXPIRY turns the coil off, begins the gap and checks the breaker. From R107, R108, R131, R133, R136 and
R169. That a command ahead of its timer changes nothing is the model's choice (log 2). -/
def Obligations.PulseTimerExpiryChecksTheBreaker : Prop :=
  (∀ (s : State) (id : PulseId) (st : Stamp),
    (s.act.drv.pulse id).state = .firing →
    (s.act.drv.pulse id).pulseTimer = some st →
    200 ≤ elapsed s.clock st →
    s.scanner.fault = false →
    awaitedHolds s.scanner id = false →
    exec (.pulseTimerExpiry id) s =
      .next ({ s with act := { s.act with
      drv := { s.act.drv.setPulse id { s.act.drv.pulse id with
        state := .checking, pulseTimer := none, window := some s.clock } with gap := some s.clock } } }))
  ∧ (∀ (s : State) (p : Pdu) (st : Stamp),
    (s.act.drv.pulse (.trip p)).state = .firing →
    (s.act.drv.pulse (.trip p)).pulseTimer = some st →
    200 ≤ elapsed s.clock st →
    s.scanner.fault = false →
    pduOpen s.scanner p →
    s.act.seq.safeWait = false →
    exec (.pulseTimerExpiry (.trip p)) s =
      .next ({ s with act := { s.act with
      drv := { s.act.drv.setPulse (.trip p) { s.act.drv.pulse (.trip p) with
        state := .spent, attempt := none, pulseTimer := none, window := none, unconfirmed := false } with gap := some s.clock } } }))
  ∧ (∀ (s : State) (p : Pdu) (st : Stamp),
    (s.act.drv.pulse (.trip p)).state = .firing →
    (s.act.drv.pulse (.trip p)).pulseTimer = some st →
    200 ≤ elapsed s.clock st →
    s.scanner.fault →
    s.act.seq.safeWait = false →
    exec (.pulseTimerExpiry (.trip p)) s =
      .next ({ s with act := { s.act with
      drv := { s.act.drv.setPulse (.trip p) { s.act.drv.pulse (.trip p) with
        state := .spent, attempt := none, pulseTimer := none, window := none, unconfirmed := true } with gap := some s.clock } } }))
  ∧ (∀ (s : State) (p : Pdu) (st : Stamp) (closeA closeB : Bool),
    (s.act.drv.pulse (.close p)).state = .firing →
    (s.act.drv.pulse (.close p)).pulseTimer = some st →
    200 ≤ elapsed s.clock st →
    s.scanner.fault = false →
    pduOpen s.scanner p = false →
    s.act.coord.phase = .energizing →
    s.act.coord.step = .b closeA closeB →
    (if p = .a then closeA else closeB) →
    ((s.act.drv.pulse (.trip p)).state = .spent ∨ (s.act.drv.pulse (.trip p)).state = .failed) →
    exec (.pulseTimerExpiry (.close p)) s =
      .next ({ s with act := { s.act with
      drv := { (s.act.drv.setPulse (.close p) { s.act.drv.pulse (.close p) with
        state := .spent, attempt := none, pulseTimer := none, window := none, unconfirmed := false }).setPulse (.trip p)
          ⟨.ready, none, none, none, false, (s.act.drv.pulse (.trip p)).failed⟩ with gap := some s.clock }
      coord := { s.act.coord with
        step := if (if p = .a then closeB else closeA) then .b (p = .b) (p = .a)
          else .settle (s.clock + 10000) } } }))
  ∧ (∀ (s : State) (p : Pdu) (st : Stamp),
    (s.act.drv.pulse (.trip p)).state = .firing →
    (s.act.drv.pulse (.trip p)).pulseTimer = some st →
    200 ≤ elapsed s.clock st →
    (s.scanner.fault ∨ pduOpen s.scanner p) →
    s.act.seq.safeWait →
    (∀ q, q ≠ p → (s.act.drv.pulse (.trip q)).state = .spent ∨ (s.act.drv.pulse (.trip q)).state = .failed) →
    ∃ t, exec (.pulseTimerExpiry (.trip p)) s = .next t ∧
      t = { s with act := t.act } ∧ (t.act.drv.pulse (.trip p)).state = .spent
        ∧ t.act.seq = { s.act.seq with safeWait := false }
      ∧ t.act.drv.valve.asserted ∧ t.act.drv.coolstop.asserted ∧ t.act.coord = s.act.coord)
  ∧ (∀ (s : State) (id : PulseId),
    ((s.act.drv.pulse id).state ≠ .firing ∨ (s.act.drv.pulse id).pulseTimer.all fun st => elapsed s.clock st < 200) →
    exec (.pulseTimerExpiry id) s =
      .next s)

/-- PULSE_WINDOW_EXPIRY queues one retry, and the second miss is FAILED. From R131, R134, R138, R169 and R173.
LineUnit.Sound and Driver.PulseSound are the model's invariants; that a command ahead of its timer changes nothing is
the model's choice (log 2). -/
def Obligations.PulseWindowExpiryRetriesOnce : Prop :=
  (∀ (s : State) (id : PulseId) (st : Stamp),
    (s.act.drv.pulse id).state = .checking →
    (s.act.drv.pulse id).window = some st →
    pulseWindow id ≤ elapsed s.clock st →
    (s.act.drv.pulse id).attempt = some .first →
    (s.act.drv.anyFiring ∨ s.act.drv.gapServed s.clock = false) →
    exec (.pulseWindowExpiry id) s =
      .next ({ s with act := { s.act with
      drv := { s.act.drv.setPulse id
        ⟨.queued, some .second, none, none, false, (s.act.drv.pulse id).failed⟩ with
          pulseQueue := s.act.drv.pulseQueue ++ [id] } } }))
  ∧ (∀ (s : State) (id : PulseId) (st : Stamp),
    (s.act.drv.pulse id).state = .checking →
    (s.act.drv.pulse id).window = some st →
    pulseWindow id ≤ elapsed s.clock st →
    (s.act.drv.pulse id).attempt = some .first →
    (∀ id ∈ pulseIds, (s.act.drv.pulse id).state ≠ .firing) →
    s.act.drv.gapServed s.clock →
    s.act.drv.pulseQueue = [] →
    awaitedHolds s.scanner id = false →
    (∀ p, id = .close p → s.act.coord.phase = .energizing) →
    exec (.pulseWindowExpiry id) s =
      .next ({ s with act := { s.act with
      drv := s.act.drv.setPulse id
        ⟨.firing, some .second, some s.clock, none, false, (s.act.drv.pulse id).failed⟩ } }))
  ∧ (∀ (s : State) (id : PulseId) (st : Stamp),
    s.act.line.Sound →
    (s.act.drv.pulse id).state = .checking →
    (s.act.drv.pulse id).window = some st →
    pulseWindow id ≤ elapsed s.clock st →
    (s.act.drv.pulse id).attempt = some .second →
    s.act.seq.safeWait = false →
    s.act.coord.step = .none →
    ∃ t, exec (.pulseWindowExpiry id) s = .next t ∧
      t = { s with act := { s.act with
        line := t.act.line
        drv := s.act.drv.setPulse id
          { s.act.drv.pulse id with state := .failed, attempt := none, window := none, failed := true } } }
      ∧ ((s.act.drv.pulse id).failed = false → t.act.line.urgentDue)
      ∧ ((s.act.drv.pulse id).failed → t.act.line = s.act.line))
  ∧ (∀ (s : State) (p : Pdu) (st : Stamp) (closeA closeB : Bool),
    s.act.drv.PulseSound →
    (s.act.drv.pulse (.close p)).state = .checking →
    (s.act.drv.pulse (.close p)).window = some st →
    2000 ≤ elapsed s.clock st →
    (s.act.drv.pulse (.close p)).attempt = some .second →
    s.act.coord.phase = .energizing →
    s.act.coord.step = .b closeA closeB →
    (if p = .a then closeA else closeB) →
    ∃ t, exec (.pulseWindowExpiry (.close p)) s = .next t ∧
      t = { s with act := t.act } ∧ (t.act.drv.pulse (.close p)).state = .failed ∧ (t.act.drv.pulse (.close p)).failed
      ∧ t.act.coord.phase = .awaitPermit ∧ t.act.coord.permit = false ∧ t.act.coord.claimOutstanding = false
      ∧ t.act.coord.step = .none ∧ t.act.coord.keyWithheld = (s.act.coord.keyWithheld || s.scanner.active 7)
      ∧ t.act.seq.stage = s.act.seq.stage)
  ∧ (∀ (s : State) (id : PulseId),
    ((s.act.drv.pulse id).state ≠ .checking
      ∨ (s.act.drv.pulse id).window.all fun st => elapsed s.clock st < pulseWindow id) →
    exec (.pulseWindowExpiry id) s =
      .next s)

/-- A trip request takes the close of its PDU out of the queue, out of its pulse or out of its check. R132. -/
def Obligations.TripRequestDealsWithTheClose : Prop :=
  ∀ (d : Driver) (sc : Scanner) (now : Stamp) (p : Pdu),
    d.PulseSound →
    ((d.pulse (.close p)).state = .queued ∨ (d.pulse (.close p)).state = .firing
          ∨ (d.pulse (.close p)).state = .checking →
        (d.requestTrip sc now p).1.pulse (.close p) = { d.pulse (.close p) with
          state := .ready, attempt := none, pulseTimer := none, window := none }
        ∧ .closeCut p ∈ (d.requestTrip sc now p).2 ∧ .close p ∉ (d.requestTrip sc now p).1.pulseQueue)
      ∧ ((d.pulse (.close p)).state = .ready ∨ (d.pulse (.close p)).state = .spent
          ∨ (d.pulse (.close p)).state = .failed →
        (d.requestTrip sc now p).1.pulse (.close p) = d.pulse (.close p)
        ∧ .closeCut p ∉ (d.requestTrip sc now p).2)
      ∧ (d.requestTrip sc now p).1.gap = (if (d.pulse (.close p)).state = .firing then some now else d.gap)
      ∧ (∀ q, q ≠ p → (d.requestTrip sc now p).1.pulse (.close q) = d.pulse (.close q)
        ∧ (.close q ∈ (d.requestTrip sc now p).1.pulseQueue ↔ .close q ∈ d.pulseQueue))

/-- CO0 to CO9 and HDR as functions of the channel states. From R119 and R131. Driver.PulseSound is the driver's
invariant. -/
def Obligations.OutputsFollowTheChannels : Prop :=
  ∀ (d : Driver),
    d.PulseSound →
    (d.outputs[0] ↔ d.advise.state ≠ .normal) ∧ (d.outputs[1] ↔ d.lift.state ≠ .normal)
      ∧ (d.outputs[2] ↔ d.freeze.state ≠ .normal) ∧ (d.outputs[3] ↔ d.haltreq.state ≠ .normal)
      ∧ (d.outputs[4] ↔ d.tripA.state = .firing) ∧ (d.outputs[5] ↔ d.tripB.state = .firing)
      ∧ (d.outputs[6] ↔ d.valve.state ∈ [.pullIn, .holding, .failed true])
      ∧ (d.outputs[7] ↔ d.coolstop.state ∈ [.pullIn, .holding, .failed true])
      ∧ (d.outputs[8] ↔ d.closeA.state = .firing) ∧ (d.outputs[9] ↔ d.closeB.state = .firing)
      ∧ (d.hdr ↔ (d.outputs[6] ∨ d.outputs[7]) ∧ d.valve.state ≠ .pullIn ∧ d.coolstop.state ≠ .pullIn)
      ∧ [d.outputs[4], d.outputs[5], d.outputs[8], d.outputs[9]].countP (· = true) ≤ 1

/-- SCAN_TIMER_EXPIRY begins a scan; SCAN_COMPLETION with a bad end pattern drops every candidate and counts, and the
third sets the fault. From R136, R140, R141, R144, R145, R148, R166 and R173. That CSK falls after the last bit, at
the end of a scan's levels, is the model's choice (log 24). The Sound premises are the model's invariants; that a
command ahead of its timer changes nothing is the model's choice (log 2). -/
def Obligations.BadScansRaiseTheFault : Prop :=
  (∀ (s : State),
    10 ≤ elapsed s.clock s.scanner.timer →
    ∃ t, exec .scanTimerExpiry s = .next t ∧
      t = { s with scanner := { s.scanner with timer := s.scanner.timer + 10, scanning := true } }
      ∧ t.scanner.csl = false ∧ t.scanner.csk = false ∧ t.scanner.chainLevels = scanLevels
      ∧ (scanLevels.zip scanLevels.tail).countP (fun p => !p.1.csk && p.2.csk) = 23
      ∧ scanLevels.head? = some ⟨false, false⟩ ∧ (∀ pins ∈ scanLevels.tail, pins.csl)
      ∧ scanLevels.getLast? = some ⟨true, false⟩)
  ∧ (∀ (s : State),
    elapsed s.clock s.scanner.timer < 10 →
    exec .scanTimerExpiry s =
      .next s)
  ∧ (∀ (s : State) (frame : BitVec 24),
    s.scanner.scanning = false →
    exec (.scanCompletion frame) s =
      .next s)
  ∧ (∀ (s : State) (frame : BitVec 24),
    s.scanner.Sound →
    s.scanner.scanning →
    frame.extractLsb' 16 8 ≠ 0x2D →
    s.scanner.fault = false →
    s.scanner.badScans < 2 →
    exec (.scanCompletion frame) s =
      .next ({ s with scanner := { s.scanner with
        scanning := false, badScans := s.scanner.badScans + 1
        inputs := s.scanner.inputs.map fun c => { c with candidate := none, agreement := 0 } } }))
  ∧ (∀ (s : State) (frame : BitVec 24),
    s.act.line.Sound →
    s.scanner.scanning →
    frame.extractLsb' 16 8 ≠ 0x2D →
    s.scanner.fault = false →
    s.scanner.badScans = 2 →
    ∃ t, exec (.scanCompletion frame) s = .next t ∧
      t = { s with scanner := t.scanner, startup := t.startup, act := t.act } ∧ t.act.line.urgentDue
      ∧ t.scanner = { s.scanner with
        scanning := false, badScans := 3, fault := true, recovery := 0, known := true
        inputs := s.scanner.inputs.map fun c => { c with candidate := none, agreement := 0 } }
      ∧ (s.startup.state = .running → s.act.coord.phase ∈ [.bidding, .contest, .backoff] →
        t.act.coord.phase = .awaitPermit)
      ∧ (s.startup.state = .running → s.act.coord.phase = .energizing →
        t.act.coord.phase = .awaitPermit ∧ t.act.coord.permit = false ∧ t.act.coord.step = .none
          ∧ t.act.coord.claimOutstanding = false ∧ t.act.seq.stage = s.act.seq.stage))
  ∧ (∀ (s : State) (frame : BitVec 24),
    s.act.drv.PulseSound →
    s.scanner.scanning →
    frame.extractLsb' 16 8 ≠ 0x2D →
    s.scanner.fault = false →
    s.scanner.badScans = 2 →
    s.startup.state ≠ .awaitingInputs →
    ∃ t, exec (.scanCompletion frame) s = .next t ∧
      (∀ id ∈ pulseIds, (s.act.drv.pulse id).state = .checking →
        t.act.drv.pulse id = ⟨.spent, none, none, none, true, (s.act.drv.pulse id).failed⟩)
      ∧ (∀ id ∈ holdIds, (s.act.drv.hold id).state = .pullIn ∨ (s.act.drv.hold id).state = .holding →
        t.act.drv.hold id = { s.act.drv.hold id with
          window := none
          unconfirmed := (s.act.drv.hold id).unconfirmed || (s.act.drv.hold id).window.isSome })
      ∧ (s.act.seq.safeWait = false → ∀ id ∈ holdIds, (s.act.drv.hold id).state = .releasing →
        t.act.drv.hold id = { s.act.drv.hold id with state := .off, window := none, unconfirmed := true })
      ∧ (∀ id ∈ levelIds, t.act.drv.level id = s.act.drv.level id))
  ∧ (∀ (s : State) (frame : BitVec 24),
    s.scanner.Sound →
    s.scanner.scanning →
    frame.extractLsb' 16 8 ≠ 0x2D →
    s.scanner.fault →
    exec (.scanCompletion frame) s =
      .next ({ s with scanner := { s.scanner with
        scanning := false, recovery := 0
        inputs := s.scanner.inputs.map fun c => { c with candidate := none, agreement := 0 } } }))

/-- SCAN_COMPLETION with the end pattern compares every input, changes a value at the third agreement, and hands the
change on. From R104, R105, R109, R124, R125, R133, R135, R137, R141, R143, R145, R146, R147, R149, R156 to R158, R167
to R169. The clauses that name AWAITING_INPUTS leave out a scan that makes the inputs known there: adoption follows
it. That the key's turning off clears the key withheld mark in REJOIN too is the model's reading (log 15). The
adoption itself is stated with the rejoin window's expiry. The Sound premises are the model's invariants. -/
def Obligations.GoodScansDebounceTheInputs : Prop :=
  (∀ (s : State) (frame : BitVec 24) (i : Nat) (c : ContactInput),
    s.scanner.Sound →
    s.scanner.scanning →
    frame.extractLsb' 16 8 = 0x2D →
    s.scanner.fault = false →
    s.scanner.inputs[i]? = some c →
    ∃ t, exec (.scanCompletion frame) s = .next t ∧
      t = { s with scanner := t.scanner, startup := t.startup, act := t.act }
      ∧ t.scanner.fault = false ∧ t.scanner.badScans = 0 ∧ t.scanner.scanning = false
        ∧ t.scanner.timer = s.scanner.timer
      ∧ t.scanner.inputs.length = 16
      ∧ t.scanner.inputs[i]? = some
        (if c.value = (if frame.getLsbD i then InputValue.active else .inactive) then ⟨c.value, none, 0⟩
          else if c.candidate = some (frame.getLsbD i) then
            if c.agreement = 2 then ⟨(if frame.getLsbD i then InputValue.active else .inactive), none, 0⟩
            else ⟨c.value, c.candidate, c.agreement + 1⟩
          else ⟨c.value, some (frame.getLsbD i), 1⟩))
  ∧ (∀ (s : State) (frame : BitVec 24) (i : Nat) (c : ContactInput),
    s.scanner.Sound →
    s.scanner.scanning →
    frame.extractLsb' 16 8 = 0x2D →
    s.scanner.fault →
    s.scanner.recovery < 2 →
    s.scanner.inputs[i]? = some c →
    ∃ t, exec (.scanCompletion frame) s = .next t ∧
      t = { s with scanner := t.scanner }
      ∧ t.scanner.fault ∧ t.scanner.badScans = 3 ∧ t.scanner.recovery = s.scanner.recovery + 1
      ∧ t.scanner.scanning = false ∧ t.scanner.timer = s.scanner.timer ∧ t.scanner.inputs.length = 16
      ∧ t.scanner.inputs[i]? = some
        (if c.value = (if frame.getLsbD i then InputValue.active else .inactive) then ⟨c.value, none, 0⟩
          else if c.candidate = some (frame.getLsbD i) then ⟨c.value, c.candidate, c.agreement + 1⟩
          else ⟨c.value, some (frame.getLsbD i), 1⟩))
  ∧ (∀ (s : State) (frame : BitVec 24) (i : Nat) (c : ContactInput),
    s.scanner.Sound →
    s.scanner.scanning →
    frame.extractLsb' 16 8 = 0x2D →
    s.scanner.fault →
    s.scanner.recovery = 2 →
    s.scanner.inputs[i]? = some c →
    ∃ t, exec (.scanCompletion frame) s = .next t ∧
      t = { s with scanner := t.scanner, startup := t.startup, act := t.act }
      ∧ t.scanner.fault = false ∧ t.scanner.badScans = 0 ∧ t.scanner.recovery = 0 ∧ t.scanner.scanning = false
      ∧ t.scanner.inputs.length = 16
      ∧ t.scanner.inputs[i]? = some
        (if c.value = (if frame.getLsbD i then InputValue.active else .inactive) then ⟨c.value, none, 0⟩
          else if c.candidate = some (frame.getLsbD i) then
            if c.agreement = 2 then ⟨(if frame.getLsbD i then InputValue.active else .inactive), none, 0⟩
            else ⟨c.value, c.candidate, c.agreement + 1⟩
          else ⟨c.value, some (frame.getLsbD i), 1⟩))
  ∧ (∀ (s : State) (frame : BitVec 24) (c : ContactInput),
    s.scanner.Sound →
    s.scanner.scanning →
    frame.extractLsb' 16 8 = 0x2D →
    s.scanner.fault = false →
    s.scanner.inputs[6]? = some c →
    c.value ≠ .active →
    c.candidate = some true →
    c.agreement = 2 →
    frame.getLsbD 6 →
    ∃ t, exec (.scanCompletion frame) s = .next t ∧
      t.scanner.active 6 ∧ 3 ≤ t.act.seq.floor.code)
  ∧ (∀ (s : State) (frame : BitVec 24) (c : ContactInput),
    s.scanner.Sound →
    s.scanner.scanning →
    frame.extractLsb' 16 8 = 0x2D →
    s.scanner.fault = false →
    s.scanner.inputs[7]? = some c →
    c.value = .active →
    c.candidate = some false →
    c.agreement = 2 →
    frame.getLsbD 7 = false →
    ∃ t, exec (.scanCompletion frame) s = .next t ∧
      t.scanner.value 7 = .inactive ∧ t.act.coord.keyWithheld = false)
  ∧ (∀ (s : State) (frame : BitVec 24),
    s.scanner.Sound →
    s.scanner.scanning →
    frame.extractLsb' 16 8 = 0x2D →
    s.act.drv.PulseSound →
    s.scanner.fault →
    s.scanner.recovery = 2 →
    s.act.coord.phase ≠ .energizing →
    ∃ t, exec (.scanCompletion frame) s = .next t ∧
      (∀ id ∈ pulseIds, (t.act.drv.pulse id).failed = ((s.act.drv.pulse id).failed
        || ((s.act.drv.pulse id).state = .spent && (s.act.drv.pulse id).unconfirmed && !awaitedHolds t.scanner id)))
      ∧ (∀ id ∈ holdIds, (t.act.drv.hold id).unconfirmed = false
        ∧ (t.act.drv.hold id).failed = ((s.act.drv.hold id).failed || ((s.act.drv.hold id).unconfirmed
          && (((s.act.drv.hold id).state = .off && t.scanner.active (limitContact id))
            || (((s.act.drv.hold id).state = .pullIn || (s.act.drv.hold id).state = .holding)
              && !t.scanner.active (limitContact id))))))
      ∧ (∀ p ∈ [Pdu.a, .b], (s.act.drv.pulse (.close p)).state = .spent → (s.act.drv.pulse (.close p)).unconfirmed →
        (t.act.drv.pulse (.close p)).state = .spent ∧ (t.act.drv.pulse (.close p)).unconfirmed = false
        ∧ (t.scanner.active (pduContact p) → (s.act.drv.pulse (.trip p)).state ∈ [.ready, .spent, .failed] →
          (t.act.drv.pulse (.trip p)).state ∈ [.queued, .firing]))
      ∧ (∀ p ∈ [Pdu.a, .b], (s.act.drv.pulse (.trip p)).state = .spent → (s.act.drv.pulse (.trip p)).unconfirmed →
        (s.act.drv.pulse (.close p)).state = .ready →
        (t.act.drv.pulse (.trip p)).state = .spent ∧ (t.act.drv.pulse (.trip p)).unconfirmed = false))
  ∧ (∀ (s : State) (frame : BitVec 24) (c : ContactInput) (expiry : Stamp),
    s.scanner.Sound →
    s.scanner.scanning →
    frame.extractLsb' 16 8 = 0x2D →
    s.act.drv.PulseSound →
    s.act.coord.Sound →
    s.scanner.fault = false →
    s.startup.state ≠ .awaitingInputs →
    s.act.coord.phase ≠ .energizing →
    s.act.seq.grace = .running expiry →
    s.scanner.inputs[5]? = some c →
    c.value ≠ .active →
    c.candidate = some true →
    c.agreement = 2 →
    frame.getLsbD 5 →
    ∃ t, exec (.scanCompletion frame) s = .next t ∧
      t.act.seq.grace = .ended ∧ t.act.drv.tripA.state ≠ .ready ∧ t.act.drv.tripB.state ≠ .ready)
  ∧ (∀ (s : State) (frame : BitVec 24) (id : HoldId) (c : ContactInput),
    s.scanner.Sound →
    s.scanner.scanning →
    frame.extractLsb' 16 8 = 0x2D →
    s.scanner.fault = false →
    s.startup.state ≠ .awaitingInputs →
    ((s.act.drv.hold id).state = .pullIn ∨ (s.act.drv.hold id).state = .holding) →
    s.scanner.inputs[limitContact id]? = some c →
    c.value ≠ .active →
    c.candidate = some true →
    c.agreement = 2 →
    frame.getLsbD (limitContact id) →
    ∃ t, exec (.scanCompletion frame) s = .next t ∧
      t.act.drv.hold id = { s.act.drv.hold id with window := none })
  ∧ (∀ (s : State) (frame : BitVec 24) (id : HoldId) (c : ContactInput),
    s.scanner.Sound →
    s.scanner.scanning →
    frame.extractLsb' 16 8 = 0x2D →
    s.act.StageSound →
    s.act.coord.Sound →
    s.scanner.fault = false →
    s.startup.state ≠ .awaitingInputs →
    s.act.coord.phase ≠ .energizing →
    s.act.seq.safeWait = false →
    (s.act.drv.hold id).state = .releasing →
    s.scanner.inputs[limitContact id]? = some c →
    c.value ≠ .inactive →
    c.candidate = some false →
    c.agreement = 2 →
    frame.getLsbD (limitContact id) = false →
    ∃ t, exec (.scanCompletion frame) s = .next t ∧
      t.act.drv.hold id = { s.act.drv.hold id with state := .off, window := none })
  ∧ (∀ (s : State) (frame : BitVec 24) (p : Pdu) (c : ContactInput),
    s.scanner.Sound →
    s.scanner.scanning →
    frame.extractLsb' 16 8 = 0x2D →
    s.scanner.fault = false →
    (s.act.drv.pulse (.trip p)).state = .checking →
    s.scanner.inputs[pduContact p]? = some c →
    c.value ≠ .inactive →
    c.candidate = some false →
    c.agreement = 2 →
    frame.getLsbD (pduContact p) = false →
    ∃ t, exec (.scanCompletion frame) s = .next t ∧
      t.act.drv.pulse (.trip p) = ⟨.spent, none, none, none, false, (s.act.drv.pulse (.trip p)).failed⟩)
  ∧ (∀ (s : State) (frame : BitVec 24) (p : Pdu) (c : ContactInput),
    s.scanner.Sound →
    s.scanner.scanning →
    frame.extractLsb' 16 8 = 0x2D →
    s.act.drv.PulseSound →
    s.act.coord.Sound →
    s.scanner.fault = false →
    s.act.coord.phase ≠ .energizing →
    (s.act.drv.pulse (.close p)).state = .checking →
    s.scanner.inputs[pduContact p]? = some c →
    c.value ≠ .active →
    c.candidate = some true →
    c.agreement = 2 →
    frame.getLsbD (pduContact p) →
    ∃ t, exec (.scanCompletion frame) s = .next t ∧
      t.act.drv.pulse (.close p) = ⟨.spent, none, none, none, false, (s.act.drv.pulse (.close p)).failed⟩
      ∧ ((s.act.drv.pulse (.trip p)).state ∈ [.ready, .spent, .failed] →
        (t.act.drv.pulse (.trip p)).state ∈ [.queued, .firing]))
  ∧ (∀ (s : State) (frame : BitVec 24) (id : HoldId) (c : ContactInput),
    s.scanner.Sound →
    s.scanner.scanning →
    frame.extractLsb' 16 8 = 0x2D →
    s.scanner.fault = false →
    s.startup.state ≠ .awaitingInputs →
    s.act.coord.phase = .energizing →
    s.act.coord.step = .a true true →
    (s.act.drv.hold id).state = .releasing →
    s.scanner.inputs[limitContact id]? = some c →
    c.value ≠ .inactive →
    c.candidate = some false →
    c.agreement = 2 →
    frame.getLsbD (limitContact id) = false →
    (∀ j ∈ List.range 16, j ≠ limitContact id → s.scanner.value j = (if frame.getLsbD j then .active
      else .inactive)) →
    ∃ t, exec (.scanCompletion frame) s = .next t ∧
      t = { s with
        scanner := t.scanner
        act := { s.act with
          drv := s.act.drv.setHold id { s.act.drv.hold id with state := .off, window := none }
          coord := { s.act.coord with step := .a (id = .coolstop) (id = .valve) } } })
  ∧ (∀ (s : State) (frame : BitVec 24) (id : HoldId) (c : ContactInput),
    s.Sound →
    s.scanner.scanning →
    frame.extractLsb' 16 8 = 0x2D →
    s.scanner.fault = false →
    s.startup.state ≠ .awaitingInputs →
    s.act.coord.step = .a (id = .valve) (id = .coolstop) →
    s.act.coord.holdPending = false →
    (s.act.drv.hold id).state = .releasing →
    s.act.seq.demand.code ≤ 3 →
    s.act.drv.tripA.state = .spent →
    s.act.drv.tripB.state = .spent →
    s.act.drv.closeA.state = .ready →
    s.act.drv.closeB.state = .ready →
    s.scanner.active 0 = false →
    s.scanner.active 1 = false →
    s.scanner.inputs[limitContact id]? = some c →
    c.value ≠ .inactive →
    c.candidate = some false →
    c.agreement = 2 →
    frame.getLsbD (limitContact id) = false →
    (∀ j ∈ List.range 16, j ≠ limitContact id → s.scanner.value j = (if frame.getLsbD j then .active
      else .inactive)) →
    ∃ t, exec (.scanCompletion frame) s = .next t ∧
      t = { s with scanner := t.scanner, act := t.act } ∧ t.act.line.urgentDue
      ∧ t.act.seq = { s.act.seq with stage := .isolate, safeWait := false }
      ∧ t.act.coord = { s.act.coord with step := .b true true }
      ∧ t.act.drv.hold id = { s.act.drv.hold id with state := .off, window := none }
      ∧ t.act.drv.closeA.state ∈ [.queued, .firing] ∧ t.act.drv.closeB.state ∈ [.queued, .firing])
  ∧ (∀ (s : State) (frame : BitVec 24) (p : Pdu) (c : ContactInput) (closeA closeB : Bool),
    s.scanner.Sound →
    s.scanner.scanning →
    frame.extractLsb' 16 8 = 0x2D →
    s.scanner.fault = false →
    s.startup.state ≠ .awaitingInputs →
    s.act.coord.phase = .energizing →
    s.act.coord.step = .b closeA closeB →
    (if p = .a then closeA else closeB) →
    (s.act.drv.pulse (.close p)).state = .checking →
    ((s.act.drv.pulse (.trip p)).state = .spent ∨ (s.act.drv.pulse (.trip p)).state = .failed) →
    s.scanner.inputs[pduContact p]? = some c →
    c.value ≠ .active →
    c.candidate = some true →
    c.agreement = 2 →
    frame.getLsbD (pduContact p) →
    (∀ j ∈ List.range 16, j ≠ pduContact p → s.scanner.value j = (if frame.getLsbD j then .active else .inactive)) →
    ∃ t, exec (.scanCompletion frame) s = .next t ∧
      t = { s with
        scanner := t.scanner
        act := { s.act with
          drv := (s.act.drv.setPulse (.close p)
            ⟨.spent, none, none, none, false, (s.act.drv.pulse (.close p)).failed⟩).setPulse (.trip p)
              ⟨.ready, none, none, none, false, (s.act.drv.pulse (.trip p)).failed⟩
          coord := { s.act.coord with
            step := if (if p = .a then closeB else closeA) then .b (p = .b) (p = .a)
              else .settle (s.clock + 10000) } } })
  ∧ (∀ (s : State) (frame : BitVec 24) (c : ContactInput),
    s.scanner.Sound →
    s.scanner.scanning →
    frame.extractLsb' 16 8 = 0x2D →
    s.act.line.Sound →
    s.scanner.fault = false →
    s.startup.state ≠ .awaitingInputs →
    s.act.coord.phase = .awaitPermit →
    (s.act.coord.keyWithheld = false ∨ (s.act.coord.permit ∧ s.act.line.stuck = false)) →
    s.act.line.mute = none →
    s.scanner.inputs[7]? = some c →
    c.value ≠ .active →
    c.candidate = some true →
    c.agreement = 2 →
    frame.getLsbD (7) →
    (∀ j ∈ List.range 16, j ≠ 7 → s.scanner.value j = (if frame.getLsbD j then .active else .inactive)) →
    ∃ t, exec (.scanCompletion frame) s = .next t ∧
      t = { s with
        scanner := t.scanner
        act := { s.act with
          line := t.act.line
          seq := { s.act.seq with standDown := none }
          coord := { s.act.coord with phase := .bidding, quietStart := none, stagger := none } } }
      ∧ t.scanner.active 7 ∧ t.act.line.urgentDue ∧ t.act.line.restartAsked .bid)
  ∧ (∀ (s : State) (frame : BitVec 24) (c : ContactInput),
    s.scanner.Sound →
    s.scanner.scanning →
    frame.extractLsb' 16 8 = 0x2D →
    s.scanner.fault = false →
    s.startup.state ≠ .awaitingInputs →
    (s.act.coord.phase ≠ .awaitPermit ∨ s.act.line.mute ≠ none ∨ (s.act.coord.keyWithheld
      ∧ (s.act.coord.permit = false ∨ s.act.line.stuck))) →
    s.scanner.inputs[7]? = some c →
    c.value ≠ .active →
    c.candidate = some true →
    c.agreement = 2 →
    frame.getLsbD (7) →
    (∀ j ∈ List.range 16, j ≠ 7 → s.scanner.value j = (if frame.getLsbD j then .active else .inactive)) →
    ∃ t, exec (.scanCompletion frame) s = .next t ∧
      t = { s with scanner := t.scanner } ∧ t.scanner.active 7)
  ∧ (∀ (s : State) (frame : BitVec 24),
    s.scanner.Sound →
    s.scanner.scanning →
    frame.extractLsb' 16 8 = 0x2D →
    s.act.line.Sound →
    s.act.coord.Sound →
    s.scanner.fault →
    s.scanner.recovery = 2 →
    s.act.coord.phase = .awaitPermit →
    (∀ j ∈ List.range 16, s.scanner.value j = (if frame.getLsbD j then .active else .inactive)) →
    ∃ t, exec (.scanCompletion frame) s = .next t ∧
      t.act.coord = { s.act.coord with
        phase := if ((s.act.coord.permit ∧ s.act.line.stuck = false) ∨ (s.scanner.active 7
          ∧ s.act.coord.keyWithheld = false)) ∧ s.act.line.mute = none then .bidding else .awaitPermit }
      ∧ (t.act.coord.phase = .bidding → t.act.line.restartAsked .bid ∧ t.act.line.urgentDue))

/-- QUIET_WAIT_EXPIRY, STAGGER_EXPIRY: BIDDING with a BID asked where authority holds, else AWAIT_PERMIT; the comparisons
of BACKOFF start and stop the stagger. From R86, R147, R152, R154, R156 to R160 and R164. The Sound premises are the
model's invariants; that a command ahead of its timer changes nothing is the model's choice (log 2). -/
def Obligations.CalmAndStaggerLeadToLeave : Prop :=
  (∀ (s : State) (st : Stamp),
    s.Sound →
    s.act.coord.phase = .quietWait →
    s.act.coord.quietStart = some st →
    (profileOf s.straps).quiet ≤ elapsed s.clock st →
    ∃ t, exec .quietWaitExpiry s = .next t ∧
      t = { s with act := { s.act with
        line := t.act.line
        coord := { s.act.coord with
          quietStart := none, stagger := none
          phase :=
            if ((s.act.coord.permit ∧ s.act.line.stuck = false) ∨ (s.scanner.active 7
              ∧ s.act.coord.keyWithheld = false))
              ∧ s.act.line.mute = none ∧ s.scanner.fault = false then .bidding else .awaitPermit } } }
      ∧ t.act.line.urgentDue ∧ t.act.coord.claimPending = false ∧ t.act.coord.bidWindow = none
      ∧ (t.act.coord.phase = .bidding → t.act.line.restartAsked .bid))
  ∧ (∀ (s : State) (st : Stamp),
    s.Sound →
    s.act.coord.phase = .backoff →
    s.act.coord.stagger = some st →
    reached s.clock st →
    ∃ t, exec .staggerExpiry s = .next t ∧
      t = { s with act := { s.act with
        line := t.act.line
        coord := { s.act.coord with
          quietStart := none, stagger := none
          phase :=
            if ((s.act.coord.permit ∧ s.act.line.stuck = false) ∨ (s.scanner.active 7
              ∧ s.act.coord.keyWithheld = false))
              ∧ s.act.line.mute = none ∧ s.scanner.fault = false then .bidding else .awaitPermit } } }
      ∧ t.act.line.urgentDue ∧ t.act.coord.claimPending = false ∧ t.act.coord.bidWindow = none
      ∧ (t.act.coord.phase = .bidding → t.act.line.restartAsked .bid))
  ∧ (∀ (s : State),
    (s.act.coord.phase ≠ .quietWait
      ∨ s.act.coord.quietStart.all fun st => elapsed s.clock st < (profileOf s.straps).quiet) →
    exec .quietWaitExpiry s =
      .next s)
  ∧ (∀ (s : State),
    (s.act.coord.phase ≠ .backoff ∨ s.act.coord.stagger.all fun e => !reached s.clock e) →
    exec .staggerExpiry s =
      .next s)
  ∧ (∀ (s : State) (k : RestartKind) (sender group : Byte),
    s.Sound →
    s.act.coord.phase = .backoff →
    s.assessor.detector = .calm →
    s.act.line.Hears →
    stationSender sender →
    sender ≠ s.sender →
    groupByte group →
    ∃ t, exec (restartCommand k sender group) s = .next t ∧
      (t = { s with
          peers := t.peers, scanner := t.scanner
          act := { s.act with line := t.act.line, coord := t.act.coord } }
        ∧ ((if s.scanner.active 8 ∨ s.straps.kmx = 0 then 1
          else 2) ≤ claimers t.peers → t.act.coord = { s.act.coord with stagger := none })
        ∧ (claimers t.peers < (if s.scanner.active 8 ∨ s.straps.kmx = 0 then 1
          else 2) → s.act.coord.stagger.isSome → t.act.coord = s.act.coord)
        ∧ (claimers t.peers < (if s.scanner.active 8 ∨ s.straps.kmx = 0 then 1
          else 2) → s.act.coord.stagger = none → (s.straps.rgp.toNat * 32 + s.straps.stn.toNat) % 8 ≠ 0 →
          t.act.coord = { s.act.coord with
            stagger := some (s.clock + BitVec.ofNat 32 ((s.straps.rgp.toNat * 32 + s.straps.stn.toNat) % 8 * 250)) })
        ∧ (claimers t.peers < (if s.scanner.active 8 ∨ s.straps.kmx = 0 then 1
          else 2) → s.act.coord.stagger = none → (s.straps.rgp.toNat * 32 + s.straps.stn.toNat) % 8 = 0 →
          t.act.coord = { s.act.coord with
            phase := if ((s.act.coord.permit ∧ s.act.line.stuck = false) ∨ (s.scanner.active 7
              ∧ s.act.coord.keyWithheld = false)) ∧ s.act.line.mute = none ∧ s.scanner.fault = false then
                .bidding else .awaitPermit }
          ∧ t.act.line.urgentDue ∧ (t.act.coord.phase = .bidding → t.act.line.restartAsked .bid))))
  ∧ (∀ (s : State) (sender : Byte) (payload : Vector Byte 12),
    s.Sound →
    s.act.coord.phase = .backoff →
    s.assessor.detector = .calm →
    s.act.line.Hears →
    stationSender sender →
    sender ≠ s.sender →
    payloadInRange payload →
    ∃ t, exec (.stateTelegram sender payload) s = .next t ∧
      (t = { s with
          peers := t.peers, scanner := t.scanner
          act := { s.act with line := t.act.line, coord := t.act.coord } }
        ∧ ((if s.scanner.active 8 ∨ s.straps.kmx = 0 then 1
          else 2) ≤ claimers t.peers → t.act.coord = { s.act.coord with stagger := none })
        ∧ (claimers t.peers < (if s.scanner.active 8 ∨ s.straps.kmx = 0 then 1
          else 2) → s.act.coord.stagger.isSome → t.act.coord = s.act.coord)
        ∧ (claimers t.peers < (if s.scanner.active 8 ∨ s.straps.kmx = 0 then 1
          else 2) → s.act.coord.stagger = none → (s.straps.rgp.toNat * 32 + s.straps.stn.toNat) % 8 ≠ 0 →
          t.act.coord = { s.act.coord with
            stagger := some (s.clock + BitVec.ofNat 32 ((s.straps.rgp.toNat * 32 + s.straps.stn.toNat) % 8 * 250)) })
        ∧ (claimers t.peers < (if s.scanner.active 8 ∨ s.straps.kmx = 0 then 1
          else 2) → s.act.coord.stagger = none → (s.straps.rgp.toNat * 32 + s.straps.stn.toNat) % 8 = 0 →
          t.act.coord = { s.act.coord with
            phase := if ((s.act.coord.permit ∧ s.act.line.stuck = false) ∨ (s.scanner.active 7
              ∧ s.act.coord.keyWithheld = false)) ∧ s.act.line.mute = none ∧ s.scanner.fault = false then
                .bidding else .awaitPermit }
          ∧ t.act.line.urgentDue ∧ (t.act.coord.phase = .bidding → t.act.line.restartAsked .bid))))
  ∧ (∀ (s : State) (peer : BitVec 5) (c : Instr),
    s.Sound →
    s.act.coord.phase = .backoff →
    s.assessor.detector = .calm →
    c ∈ [.peerQuietExpiry peer, .peerLostExpiry peer, .bidPartExpiry peer, .claimPartExpiry peer] →
    ∃ t, exec c s = .next t ∧
      (t.peers = s.peers → t = s)
      ∧ (t.peers ≠ s.peers →
      (t = { s with
          peers := t.peers, scanner := t.scanner
          act := { s.act with line := t.act.line, coord := t.act.coord } }
        ∧ ((if s.scanner.active 8 ∨ s.straps.kmx = 0 then 1
          else 2) ≤ claimers t.peers → t.act.coord = { s.act.coord with stagger := none })
        ∧ (claimers t.peers < (if s.scanner.active 8 ∨ s.straps.kmx = 0 then 1
          else 2) → s.act.coord.stagger.isSome → t.act.coord = s.act.coord)
        ∧ (claimers t.peers < (if s.scanner.active 8 ∨ s.straps.kmx = 0 then 1
          else 2) → s.act.coord.stagger = none → (s.straps.rgp.toNat * 32 + s.straps.stn.toNat) % 8 ≠ 0 →
          t.act.coord = { s.act.coord with
            stagger := some (s.clock + BitVec.ofNat 32 ((s.straps.rgp.toNat * 32 + s.straps.stn.toNat) % 8 * 250)) })
        ∧ (claimers t.peers < (if s.scanner.active 8 ∨ s.straps.kmx = 0 then 1
          else 2) → s.act.coord.stagger = none → (s.straps.rgp.toNat * 32 + s.straps.stn.toNat) % 8 = 0 →
          t.act.coord = { s.act.coord with
            phase := if ((s.act.coord.permit ∧ s.act.line.stuck = false) ∨ (s.scanner.active 7
              ∧ s.act.coord.keyWithheld = false)) ∧ s.act.line.mute = none ∧ s.scanner.fault = false then
                .bidding else .awaitPermit }
          ∧ t.act.line.urgentDue ∧ (t.act.coord.phase = .bidding → t.act.line.restartAsked .bid)))))
  ∧ (∀ (s : State) (frame : BitVec 24) (c : ContactInput),
    s.Sound →
    s.act.coord.phase = .backoff →
    s.assessor.detector = .calm →
    s.scanner.scanning →
    frame.extractLsb' 16 8 = 0x2D →
    s.scanner.fault = false →
    s.scanner.inputs[8]? = some c →
    c.candidate = some (frame.getLsbD 8) →
    c.agreement = 2 →
    (∀ j ∈ List.range 16, j ≠ 8 → s.scanner.value j = (if frame.getLsbD j then .active else .inactive)) →
    ∃ t, exec (.scanCompletion frame) s = .next t ∧
      t.scanner.active 8 = frame.getLsbD 8 ∧ (t = { s with
          peers := t.peers, scanner := t.scanner
          act := { s.act with line := t.act.line, coord := t.act.coord } }
        ∧ ((if t.scanner.active 8 ∨ s.straps.kmx = 0 then 1
          else 2) ≤ claimers t.peers → t.act.coord = { s.act.coord with stagger := none })
        ∧ (claimers t.peers < (if t.scanner.active 8 ∨ s.straps.kmx = 0 then 1
          else 2) → s.act.coord.stagger.isSome → t.act.coord = s.act.coord)
        ∧ (claimers t.peers < (if t.scanner.active 8 ∨ s.straps.kmx = 0 then 1
          else 2) → s.act.coord.stagger = none → (s.straps.rgp.toNat * 32 + s.straps.stn.toNat) % 8 ≠ 0 →
          t.act.coord = { s.act.coord with
            stagger := some (s.clock + BitVec.ofNat 32 ((s.straps.rgp.toNat * 32 + s.straps.stn.toNat) % 8 * 250)) })
        ∧ (claimers t.peers < (if t.scanner.active 8 ∨ s.straps.kmx = 0 then 1
          else 2) → s.act.coord.stagger = none → (s.straps.rgp.toNat * 32 + s.straps.stn.toNat) % 8 = 0 →
          t.act.coord = { s.act.coord with
            phase := if ((s.act.coord.permit ∧ s.act.line.stuck = false) ∨ (s.scanner.active 7
              ∧ s.act.coord.keyWithheld = false)) ∧ s.act.line.mute = none ∧ s.scanner.fault = false then
                .bidding else .awaitPermit }
          ∧ t.act.line.urgentDue ∧ (t.act.coord.phase = .bidding → t.act.line.restartAsked .bid))))

/-- BID_WINDOW_EXPIRY: a CLAIM where fewer than K are ahead, else BACKOFF. From R152, R159, R160 and R164. The Sound
premises are the model's invariants; that a command ahead of its timer changes nothing is the model's choice (log 2). -/
def Obligations.BidWindowEndsInClaimOrBackoff : Prop :=
  (∀ (s : State) (e : Stamp),
    s.act.line.Sound →
    s.act.coord.Sound →
    s.act.coord.phase = .bidding →
    s.act.coord.bidWindow = some e →
    reached s.clock e →
    (claimers s.peers + biddersBelow s.peers (s.straps.rgp.toNat * 32 + s.straps.stn.toNat) < (if s.scanner.active 8 ∨ s.straps.kmx = 0 then 1 else 2)) →
    exec .bidWindowExpiry s =
      .next ({ s with act := { s.act with
        line := s.act.line.request s.clock .claim
        coord := { s.act.coord with bidWindow := none, claimOutstanding := true, claimPending := true } } }))
  ∧ (∀ (s : State) (e : Stamp),
    s.act.line.Sound →
    s.act.coord.Sound →
    s.act.coord.phase = .bidding →
    s.act.coord.bidWindow = some e →
    reached s.clock e →
    ((if s.scanner.active 8 ∨ s.straps.kmx = 0 then 1 else 2) ≤ claimers s.peers) →
    ∃ t, exec .bidWindowExpiry s = .next t ∧
      t = { s with act := t.act } ∧ t.act.drv = s.act.drv ∧ t.act.seq.stage = s.act.seq.stage ∧ t.act.line.urgentDue
      ∧ t.act.coord = { s.act.coord with
        phase := .backoff, stagger := none, quietStart := none, bidWindow := none, contest := none
        claimOutstanding := false, claimPending := false })
  ∧ (∀ (s : State) (e : Stamp),
    s.act.line.Sound →
    s.act.coord.Sound →
    s.act.coord.phase = .bidding →
    s.act.coord.bidWindow = some e →
    reached s.clock e →
    (claimers s.peers < (if s.scanner.active 8 ∨ s.straps.kmx = 0 then 1 else 2)) →
    ((if s.scanner.active 8 ∨ s.straps.kmx = 0 then 1
      else 2) ≤ claimers s.peers + biddersBelow s.peers (s.straps.rgp.toNat * 32 + s.straps.stn.toNat)) →
    ∃ t, exec .bidWindowExpiry s = .next t ∧
      t = { s with act := t.act } ∧ t.act.drv = s.act.drv ∧ t.act.seq.stage = s.act.seq.stage ∧ t.act.line.urgentDue
      ∧ t.act.coord.bidWindow = none ∧ t.act.coord.claimOutstanding = false ∧ t.act.coord.claimPending = false
      ∧ ((s.straps.rgp.toNat * 32 + s.straps.stn.toNat) % 8 ≠ 0 → t.act.coord.phase = .backoff
        ∧ t.act.coord.stagger = some (s.clock + BitVec.ofNat 32 ((s.straps.rgp.toNat * 32 + s.straps.stn.toNat) % 8 * 250)))
      ∧ ((s.straps.rgp.toNat * 32 + s.straps.stn.toNat) % 8 = 0 →
        t.act.coord.phase = if s.act.authorityHolds s.view then .bidding else .awaitPermit))
  ∧ (∀ (s : State),
    (s.act.coord.phase ≠ .bidding ∨ s.act.coord.bidWindow.all fun e => !reached s.clock e) →
    exec .bidWindowExpiry s =
      .next s)

/-- CONTEST_INTERVAL_EXPIRY enters ENERGIZING, clears the trip floor and begins the step of the stage. From R111, R125,
R130, R131, R152, R163, R167 to R171. State.Sound is the model's invariant; that a command ahead of its timer changes
nothing is the model's choice (log 2). -/
def Obligations.ContestEndsInEnergizing : Prop :=
  (∀ (s : State) (e : Stamp),
    s.Sound →
    s.act.coord.phase = .contest →
    s.act.coord.contest = some e →
    reached s.clock e →
    ∃ t, exec .contestIntervalExpiry s = .next t ∧
      t = { s with act := t.act } ∧ t.act.seq.floor = .watch ∧ t.act.coord.contest = none ∧ t.act.line.urgentDue)
  ∧ (∀ (s : State) (e : Stamp),
    s.Sound →
    s.act.coord.phase = .contest →
    s.act.coord.contest = some e →
    reached s.clock e →
    s.act.seq.stage = .safe →
    s.act.drv.valve.state = .holding →
    s.act.drv.coolstop.state = .holding →
    s.scanner.active 2 →
    s.scanner.active 3 →
    s.scanner.fault = false →
    ∃ t, exec .contestIntervalExpiry s = .next t ∧
      t = { s with act := {
        line := t.act.line
        seq := { s.act.seq with floor := .watch }
        drv := { s.act.drv with
          valve := ⟨.releasing, none, some s.clock, false, s.act.drv.valve.failed⟩
          coolstop := ⟨.releasing, none, some s.clock, false, s.act.drv.coolstop.failed⟩ }
        coord := { s.act.coord with phase := .energizing, contest := none, step := .a true true } } })
  ∧ (∀ (s : State) (e : Stamp),
    s.Sound →
    s.act.coord.phase = .contest →
    s.act.coord.contest = some e →
    reached s.clock e →
    s.act.seq.stage = .isolate →
    s.act.drv.tripA.state = .spent →
    s.act.drv.tripB.state = .spent →
    s.act.drv.closeA.state = .ready →
    s.act.drv.closeB.state = .ready →
    s.act.drv.pulseQueue = [] →
    s.act.drv.gapServed s.clock →
    s.scanner.active 0 = false →
    s.scanner.active 1 = false →
    ∃ t, exec .contestIntervalExpiry s = .next t ∧
      t = { s with act := {
        line := t.act.line
        seq := { s.act.seq with floor := .watch }
        drv := { s.act.drv with
          closeA := ⟨.firing, some .first, some s.clock, none, false, s.act.drv.closeA.failed⟩
          closeB := ⟨.queued, some .first, none, none, false, s.act.drv.closeB.failed⟩
          pulseQueue := [.close .b] }
        coord := { s.act.coord with phase := .energizing, contest := none, step := .b true true } } })
  ∧ (∀ (s : State) (e : Stamp),
    s.Sound →
    s.act.coord.phase = .contest →
    s.act.coord.contest = some e →
    reached s.clock e →
    s.act.seq.stage = .quiesce →
    s.act.drv.assertedAbove .quiesce = false →
    ∃ t, exec .contestIntervalExpiry s = .next t ∧
      t = { s with act := {
        line := t.act.line
        seq := { s.act.seq with floor := .watch }
        drv := { s.act.drv with
          freeze := ⟨.normal, none, s.act.drv.freeze.failed⟩, haltreq := ⟨.normal, none, s.act.drv.haltreq.failed⟩ }
        coord := { s.act.coord with
          phase := .energizing, contest := none, step := .releaseWait (s.clock + 5000) } } })
  ∧ (∀ (s : State) (e : Stamp),
    s.Sound →
    s.act.coord.phase = .contest →
    s.act.coord.contest = some e →
    reached s.clock e →
    s.act.seq.stage = .alert →
    s.act.seq.target = .alert →
    ∃ t, exec .contestIntervalExpiry s = .next t ∧
      t = { s with act := { s.act with
        line := t.act.line
        seq := { s.act.seq with floor := .watch }
        coord := { s.act.coord with phase := .energizing, contest := none, step := .postponed } } })
  ∧ (∀ (s : State) (e : Stamp),
    s.Sound →
    s.act.coord.phase = .contest →
    s.act.coord.contest = some e →
    reached s.clock e →
    s.act.seq.stage = .alert →
    s.act.seq.target = .watch →
    s.act.drv.assertedAbove .alert = false →
    s.act.drv.pulseQueue = [] →
    ∃ t, exec .contestIntervalExpiry s = .next t ∧
      t = { s with act := t.act } ∧ t.act.seq = { s.act.seq with stage := .watch, floor := .watch }
        ∧ t.act.line.urgentDue
      ∧ t.act.coord = { s.act.coord with
        phase := .none, contest := none, permit := false, claimOutstanding := false
        keyWithheld := s.act.coord.keyWithheld || s.scanner.active 7 }
      ∧ t.act.line.restartAsked .done
      ∧ t.act.drv = { s.act.drv with
        advise := ⟨.normal, none, s.act.drv.advise.failed⟩, lift := ⟨.normal, none, s.act.drv.lift.failed⟩ })
  ∧ (∀ (s : State),
    (s.act.coord.phase ≠ .contest ∨ s.act.coord.contest.all fun e => !reached s.clock e) →
    exec .contestIntervalExpiry s =
      .next s)

/-- POWER_SETTLE_EXPIRY and RELEASE_WAIT_EXPIRY complete steps B and C; step D ends the turn. From R112, R127, R152, R169
to R171 and R174. State.Sound is the model's invariant; that a command ahead of its timer changes nothing is the
model's choice (log 2). -/
def Obligations.EnergizingWaitsLowerTheStage : Prop :=
  (∀ (s : State) (e : Stamp),
    s.Sound →
    s.act.coord.phase = .energizing →
    s.act.coord.step = .settle e →
    reached s.clock e →
    s.act.seq.target.code ≤ 2 →
    s.act.seq.floor.code ≤ 2 →
    s.act.coord.holdPending →
    ∃ t, exec .powerSettleExpiry s = .next t ∧
      t = { s with act := t.act } ∧ t.act.seq = { s.act.seq with stage := .quiesce, grace := .none }
        ∧ t.act.line.urgentDue
      ∧ t.act.coord = { s.act.coord with
        phase := if ((s.act.coord.permit ∧ s.act.line.stuck = false) ∨ (s.scanner.active 7
          ∧ s.act.coord.keyWithheld = false))
          ∧ s.act.line.mute = none ∧ s.scanner.fault = false then .bidding else .awaitPermit
        step := .none, holdPending := false, claimOutstanding := false }
      ∧ (t.act.coord.phase = .bidding → t.act.line.restartAsked .bid))
  ∧ (∀ (s : State) (e : Stamp),
    s.Sound →
    s.act.coord.phase = .energizing →
    s.act.coord.step = .settle e →
    reached s.clock e →
    s.act.seq.target.code ≤ 2 →
    s.act.seq.floor.code ≤ 2 →
    s.act.coord.holdPending = false →
    s.act.drv.assertedAbove .quiesce = false →
    ∃ t, exec .powerSettleExpiry s = .next t ∧
      t = { s with act := {
        line := t.act.line
        seq := { s.act.seq with stage := .quiesce, grace := .none }
        drv := { s.act.drv with
          freeze := ⟨.normal, none, s.act.drv.freeze.failed⟩, haltreq := ⟨.normal, none, s.act.drv.haltreq.failed⟩ }
        coord := { s.act.coord with step := .releaseWait (s.clock + 5000) } } }
      ∧ t.act.line.urgentDue)
  ∧ (∀ (s : State) (e : Stamp),
    s.Sound →
    s.act.coord.phase = .energizing →
    s.act.coord.step = .releaseWait e →
    reached s.clock e →
    s.act.seq.target = .alert →
    s.act.seq.floor.code ≤ 1 →
    s.act.coord.holdPending = false →
    ∃ t, exec .releaseWaitExpiry s = .next t ∧
      t = { s with act := { s.act with
        line := t.act.line
        seq := { s.act.seq with stage := .alert }
        coord := { s.act.coord with step := .postponed } } }
      ∧ t.act.line.urgentDue)
  ∧ (∀ (s : State) (e : Stamp),
    s.Sound →
    s.act.coord.phase = .energizing →
    s.act.coord.step = .releaseWait e →
    reached s.clock e →
    s.act.seq.target = .watch →
    s.act.seq.floor = .watch →
    s.act.coord.holdPending = false →
    s.act.drv.assertedAbove .alert = false →
    ∃ t, exec .releaseWaitExpiry s = .next t ∧
      t = { s with act := t.act } ∧ t.act.seq = { s.act.seq with stage := .watch } ∧ t.act.line.urgentDue
      ∧ t.act.coord = { s.act.coord with
        phase := .none, step := .none, permit := false, claimOutstanding := false
        keyWithheld := s.act.coord.keyWithheld || s.scanner.active 7 }
      ∧ t.act.line.restartAsked .done
      ∧ t.act.drv.advise = ⟨.normal, none, s.act.drv.advise.failed⟩
      ∧ t.act.drv.lift = ⟨.normal, none, s.act.drv.lift.failed⟩)
  ∧ (∀ (s : State),
    (∀ e, s.act.coord.step = .settle e → reached s.clock e = false) →
    exec .powerSettleExpiry s =
      .next s)
  ∧ (∀ (s : State),
    (∀ e, s.act.coord.step = .releaseWait e → reached s.clock e = false) →
    exec .releaseWaitExpiry s =
      .next s)
  ∧ (∀ (s : State) (e : Stamp),
    s.Sound →
    s.act.coord.phase = .energizing →
    s.act.coord.step = .releaseWait e →
    reached s.clock e →
    s.act.seq.target.code ≤ 1 →
    s.act.seq.floor.code ≤ 1 →
    s.act.coord.holdPending →
    ∃ t, exec .releaseWaitExpiry s = .next t ∧
      t = { s with act := t.act } ∧ t.act.seq = { s.act.seq with stage := .alert } ∧ t.act.line.urgentDue
      ∧ t.act.coord = { s.act.coord with
        phase := if ((s.act.coord.permit ∧ s.act.line.stuck = false) ∨ (s.scanner.active 7
          ∧ s.act.coord.keyWithheld = false))
          ∧ s.act.line.mute = none ∧ s.scanner.fault = false then .bidding else .awaitPermit
        step := .none, holdPending := false, claimOutstanding := false }
      ∧ (t.act.coord.phase = .bidding → t.act.line.restartAsked .bid))

/-- REJOIN_WINDOW_EXPIRY adopts the higher of feedback and peer stage, or awaits the inputs; awaited, the scan that makes
them known adopts. From R118, R139, R148 and R180 to R184. State.Sound is the model's invariant; that a command ahead
of its timer changes nothing is the model's choice (log 2). -/
def Obligations.RejoinWindowEndsInAdoption : Prop :=
  (∀ (s : State) (e : Stamp),
    s.startup.state = .listening →
    s.startup.window = some e →
    reached s.clock e →
    s.scanner.known = false →
    exec .rejoinWindowExpiry s =
      .next ({ s with startup := { s.startup with state := .awaitingInputs, window := none } }))
  ∧ (∀ (s : State) (e : Stamp),
    s.Sound →
    s.startup.state = .listening →
    s.startup.window = some e →
    reached s.clock e →
    s.scanner.known →
    s.act.seq.target.code ≤ (adoptedStage s.view).code →
    s.act.seq.floor.code ≤ (adoptedStage s.view).code →
    ∃ t, exec .rejoinWindowExpiry s = .next t ∧
      t = { s with startup := { s.startup with state := .running, window := none }, act := t.act }
      ∧ t.act.seq.rejoinHold = false ∧ t.act.seq.stage = (adoptedStage s.view)
      ∧ t.act.seq.grace = (if 3 ≤ (adoptedStage s.view).code then .ended else .none) ∧ t.act.seq.safeWait = false
      ∧ t.act.coord.phase = (if 2 ≤ (adoptedStage s.view).code then .quietWait else .none)
      ∧ t.act.coord.permit = s.act.coord.permit ∧ t.act.coord.keyWithheld = s.act.coord.keyWithheld
      ∧ (2 ≤ (adoptedStage s.view).code → ∀ id ∈ levelIds, (t.act.drv.level id).state = .asserted)
      ∧ (∀ id ∈ pulseIds, t.act.drv.firing id = false) ∧ t.act.drv.pulseQueue = []
      ∧ ((adoptedStage s.view) ≠ .watch → t.act.line.urgentDue))
  ∧ (∀ (s : State),
    (s.startup.state ≠ .listening ∨ s.startup.window.all fun e => !reached s.clock e) →
    exec .rejoinWindowExpiry s =
      .next s)
  ∧ (∀ (s : State) (frame : BitVec 24),
    s.Sound →
    s.startup.state = .awaitingInputs →
    s.scanner.scanning →
    ∃ t, exec (.scanCompletion frame) s = .next t ∧
      (t.scanner.known = false →
        t.startup = s.startup ∧ t.act.seq.rejoinHold ∧ t.act.seq.stage = .watch ∧ t.act.coord.phase = .rejoin)
      ∧ (t.scanner.known →
        t.startup = { s.startup with state := .running, window := none } ∧ t.act.seq.rejoinHold = false
        ∧ (s.act.seq.target.code ≤ (adoptedStage t.view).code → t.act.seq.floor.code ≤ (adoptedStage t.view).code →
          t.act.seq.stage = (adoptedStage t.view)
          ∧ t.act.seq.grace = (if 3 ≤ (adoptedStage t.view).code then .ended else .none) ∧ t.act.seq.safeWait = false
          ∧ t.act.coord.phase = (if 2 ≤ (adoptedStage t.view).code then .quietWait else .none)
          ∧ t.act.coord.permit = s.act.coord.permit
          ∧ (2 ≤ (adoptedStage t.view).code → ∀ id ∈ levelIds, (t.act.drv.level id).state = .asserted)
          ∧ (∀ id ∈ pulseIds, t.act.drv.firing id = false) ∧ t.act.drv.pulseQueue = []
          ∧ ((adoptedStage t.view) ≠ .watch → t.act.line.urgentDue))))

/-- Every taken directive is judged, recorded and answered by an urgent STATE; one for another target is disregarded. From
R185 and the tests of R186. LineUnit.Sound is the unit's invariant. -/
def Obligations.TakenDirectiveIsRecorded : Prop :=
  (∀ (s : State) (kind : DirectiveKind) (sender target argument : Byte),
    s.act.line.Sound →
    s.Takes sender target →
    ∃ t, exec (directiveCommand kind sender target argument) s = .next t ∧
      t.directive = ⟨some kind, some (
          if (kind = .trip → 1 ≤ argument.toNat ∧ argument.toNat ≤ 4) ∧ (kind = .mute → argument ≠ 0 ∧ target ≠ 63)
              ∧ (kind = .test → argument.toNat ≤ 3) ∧ (kind ∉ [.trip, .mute, .test] → argument = 0) then
            if (kind = .unmute → s.act.line.mute ≠ none)
                ∧ (kind = .reseed ∨ kind = .test → s.act.seq.stage = .watch ∧ s.assessor.detector = .calm) then
              if kind = .test ∧ s.scanner.active 9 = false then .keyAbsent else .accepted
            else .wrongState
          else .badArgument), BitVec.ofNat 2 (sender.toNat - 32)⟩
      ∧ t.act.line.urgentDue
      ∧ (t.directive.result ≠ some .accepted →
        t = { s with directive := t.directive, act := { s.act with line := t.act.line } }))
  ∧ (∀ (s : State) (kind : DirectiveKind) (sender target argument : Byte),
    s.act.line.Hears →
    consoleSender sender →
    targetByte target →
    target ≠ s.sender →
    target ≠ 63 →
    exec (directiveCommand kind sender target argument) s =
      .next ({ s with act := { s.act with
      line := s.act.line.heard s.clock
        (onTheLine (frameBytes 6 sender [target, BitVec.ofNat 8 kind.code, argument])) } }))

/-- RESUME sets the permit and HOLD clears it; in the phases between they give or take back leave. From R155 to R158,
R166, R174 and R187. R174 lets a HOLD end ENERGIZING at once with step D postponed; that it does so too where no step
has begun is the model's choice (log 14). LineUnit.Sound is the unit's invariant. -/
def Obligations.ResumeAndHoldMoveThePermit : Prop :=
  (∀ (s : State) (sender target : Byte),
    s.act.line.Sound →
    s.Takes sender target →
    s.act.coord.phase = .awaitPermit →
    (s.act.line.stuck = false ∨ (s.scanner.active 7 ∧ s.act.coord.keyWithheld = false)) →
    s.act.line.mute = none →
    s.scanner.fault = false →
    ∃ t, exec (.resume sender target 0) s = .next t ∧
      t.act.coord.permit ∧ t.act.coord.phase = .bidding ∧ t.act.line.restartAsked .bid
        ∧ t.act.coord.claimPending = s.act.coord.claimPending
      ∧ t = { s with directive := t.directive, act := { s.act with line := t.act.line, seq := t.act.seq, coord := t.act.coord } }
      ∧ t.act.seq.stage = s.act.seq.stage ∧ t.act.seq.floor = s.act.seq.floor)
  ∧ (∀ (s : State) (sender target : Byte),
    s.Takes sender target →
    s.act.coord.phase = .awaitPermit →
    (s.act.line.mute ≠ none ∨ s.scanner.fault ∨ (s.act.line.stuck ∧ (s.scanner.active 7 = false
      ∨ s.act.coord.keyWithheld))) →
    ∃ t, exec (.resume sender target 0) s = .next t ∧
      t = { s with
        directive := t.directive
        act := { s.act with line := t.act.line, coord := { s.act.coord with permit := true, holdPending := false } } })
  ∧ (∀ (s : State) (sender target : Byte),
    s.Takes sender target →
    s.act.coord.phase ≠ .awaitPermit →
    ∃ t, exec (.resume sender target 0) s = .next t ∧
      t = { s with
        directive := t.directive
        act := { s.act with line := t.act.line, coord := { s.act.coord with permit := true, holdPending := false } } })
  ∧ (∀ (s : State) (sender target : Byte),
    s.Takes sender target →
    (s.act.coord.phase ∈ [.bidding, .contest, .backoff] ∨ (s.act.coord.phase = .energizing
      ∧ s.act.coord.step.underWay = false)) →
    ∃ t, exec (.hold sender target 0) s = .next t ∧
      t.act.coord.permit = false ∧ t.act.coord.keyWithheld = (s.act.coord.keyWithheld || s.scanner.active 7)
      ∧ t.act.coord.phase = .awaitPermit ∧ (s.act.coord.phase ≠ .backoff → t.act.coord.claimOutstanding = false)
      ∧ t.act.seq.stage = s.act.seq.stage ∧ t.act.seq.floor = s.act.seq.floor
      ∧ (s.act.coord.phase ≠ .energizing → t.act.drv = s.act.drv)
      ∧ t = { s with directive := t.directive, act := t.act })
  ∧ (∀ (s : State) (sender target : Byte),
    s.Takes sender target →
    s.act.coord.phase = .energizing →
    s.act.coord.step.underWay →
    ∃ t, exec (.hold sender target 0) s = .next t ∧
      t = { s with
        directive := t.directive
        act := { s.act with
          line := t.act.line
          coord := { s.act.coord with
            permit := false, holdPending := true, keyWithheld := s.act.coord.keyWithheld || s.scanner.active 7 } } })
  ∧ (∀ (s : State) (sender target : Byte),
    s.Takes sender target →
    s.act.coord.phase ∈ [.none, .quietWait, .awaitPermit, .rejoin] →
    ∃ t, exec (.hold sender target 0) s = .next t ∧
      t = { s with
        directive := t.directive
        act := { s.act with
          line := t.act.line
          coord := { s.act.coord with
            permit := false, keyWithheld := s.act.coord.keyWithheld || s.scanner.active 7 } } })

/-- TRIP raises the trip floor and the stage, asks for what the stages up to it need, breaks off a restart, and at 4 cuts
the grace. From R100, R101, R103 to R107, R110, R117, R154, R165, R172 and R188. The Sound premises are the model's
invariants. -/
def Obligations.TripRaisesFloorAndStage : Prop :=
  (∀ (s : State) (sender target argument : Byte) (stage : Stage),
    s.act.coord.Sound →
    s.Takes sender target →
    stage ≠ .watch →
    argument.toNat = stage.code →
    s.act.seq.rejoinHold = false →
    ∃ t, exec (.trip sender target argument) s = .next t ∧
      t = { s with directive := t.directive, act := t.act }
      ∧ t.act.seq.floor = s.act.seq.floor.higher stage
      ∧ t.act.seq.stage = s.act.seq.stage.higher (s.act.seq.target.higher (s.act.seq.floor.higher stage))
      ∧ (s.act.coord.phase ∈ [.quietWait, .awaitPermit, .bidding, .contest, .energizing, .backoff] →
        t.act.coord.phase = .quietWait)
      ∧ (stage = .safe → t.act.seq.grace = .ended ∨ t.act.seq.grace = .none)
      ∧ t.act.coord.permit = s.act.coord.permit ∧ t.act.coord.keyWithheld = s.act.coord.keyWithheld)
  ∧ (∀ (s : State) (sender target argument : Byte) (stage : Stage),
    s.Takes sender target →
    stage ≠ .watch →
    argument.toNat = stage.code →
    s.act.seq.rejoinHold →
    s.act.coord.phase = .rejoin →
    s.act.seq.grace = .none →
    ∃ t, exec (.trip sender target argument) s = .next t ∧
      t = { s with
        directive := t.directive
        act := { s.act with
          line := t.act.line, seq := { s.act.seq with floor := s.act.seq.floor.higher stage } } })
  ∧ (∀ (s : State) (sender target argument : Byte) (stage : Stage),
    s.act.coord.Sound →
    s.act.drv.PulseSound →
    s.Takes sender target →
    stage ≠ .watch →
    argument.toNat = stage.code →
    s.act.seq.rejoinHold = false →
    s.act.seq.stage.code < stage.code →
    ∃ t, exec (.trip sender target argument) s = .next t ∧
      (∀ id ∈ [LevelId.advise, .lift], (t.act.drv.level id).state = .asserted)
      ∧ (2 ≤ t.act.seq.stage.code → ∀ id ∈ levelIds, (t.act.drv.level id).state = .asserted)
      ∧ (3 ≤ t.act.seq.stage.code → s.act.seq.grace = .none →
        if s.scanner.active 5 ∨ stage = .safe
          ∨ ((s.assessor.detector = .event ∨ s.assessor.detector = .settling) ∧ s.assessor.event.grade = 7
            ∧ 3 ≤ s.act.seq.target.code) then
          t.act.seq.grace = .ended ∧ t.act.drv.tripA.state ≠ .ready ∧ t.act.drv.tripB.state ≠ .ready
        else t.act.seq.grace = .running (s.clock + BitVec.ofNat 32 (profileOf s.straps).grace)
          ∧ (∀ p ∈ [Pdu.a, .b], (s.act.drv.pulse (.trip p)).state ≠ .queued →
            t.act.drv.pulse (.trip p) = s.act.drv.pulse (.trip p))
          ∧ (t.act.seq.stage = .safe → s.act.drv.tripA.state = .ready ∨ s.act.drv.tripB.state = .ready →
            s.act.drv.valve.asserted = false ∨ s.act.drv.coolstop.asserted = false → t.act.seq.safeWait))
      ∧ (3 ≤ t.act.seq.stage.code → s.act.seq.grace ≠ .none →
        if s.act.seq.grace = .ended ∨ stage = .safe then
          t.act.seq.grace = .ended ∧ t.act.drv.tripA.state ≠ .ready ∧ t.act.drv.tripB.state ≠ .ready
        else t.act.seq.grace = s.act.seq.grace)
      ∧ (t.act.seq.stage = .safe →
        t.act.seq.safeWait ∨ (t.act.drv.valve.asserted ∧ t.act.drv.coolstop.asserted)))

/-- MUTE, UNMUTE, RESEED, TEST, ACK_RESET and CLEAR_COUNTS, when accepted. From R40, R54, R70, R122, R157, R158, R166,
R179, R186 and R189 to R191. That a MUTE under a standing mute is not told to the coordinator again, a BACKOFF under
it included, is the model's reading (log 18). -/
def Obligations.OtherDirectivesAct : Prop :=
  (∀ (s : State) (sender argument : Byte),
    s.Takes sender s.sender →
    argument ≠ 0 →
    ∃ t, exec (.mute sender s.sender argument) s = .next t ∧
      t = { s with directive := t.directive, act := { s.act with line := t.act.line, seq := t.act.seq, coord := t.act.coord } }
      ∧ t.act.line.mute = some ⟨s.clock, argument.toNat⟩ ∧ t.act.line.idleCount = none ∧ t.act.line.stuckTimer = none
      ∧ t.act.seq.stage = s.act.seq.stage ∧ t.act.line.sending = s.act.line.sending
      ∧ (s.act.line.mute = none → s.act.coord.phase = .bidding ∨ s.act.coord.phase = .backoff →
        t.act.coord.phase = .awaitPermit)
      ∧ (s.act.line.mute ≠ none ∨ (s.act.coord.phase ≠ .bidding ∧ s.act.coord.phase ≠ .backoff) →
        t.act.coord = s.act.coord ∧ t.act.seq = s.act.seq))
  ∧ (∀ (s : State) (sender target : Byte) (m : MuteTimer),
    s.Takes sender target →
    s.act.line.mute = some m →
    (s.act.coord.phase ≠ .awaitPermit ∨ s.scanner.fault
        ∨ ((s.act.coord.permit = false ∨ s.act.line.stuck) ∧ (s.scanner.active 7 = false
          ∨ s.act.coord.keyWithheld))) →
    ∃ t, exec (.unmute sender target 0) s = .next t ∧
      t = { s with directive := t.directive, act := { s.act with line := t.act.line } } ∧ t.act.line.mute = none)
  ∧ (∀ (s : State) (sender target : Byte),
    s.Takes sender target →
    s.assessor.detector = .calm →
    s.act.seq.stage = .watch →
    ∃ t, exec (.reseed sender target 0) s = .next t ∧
      t = { s with directive := t.directive, assessor := t.assessor, act := t.act }
      ∧ t.assessor = { s.assessor with
        detector := .capture, captureCount := 0, awaitingSeed := true, qualifying := 0, releasing := 0, settling := 0
        runOnset := none, runPeak := 0, runClipped := false }
      ∧ t.assessor.grade = none ∧ t.act.seq.target = Machine.target t.view)
  ∧ (∀ (s : State) (sender target argument : Byte) (ch : LevelId),
    s.Takes sender target →
    testChannel? argument = some ch →
    s.assessor.detector = .calm →
    s.act.seq.stage = .watch →
    s.scanner.active 9 →
    ∃ t, exec (.test sender target argument) s = .next t ∧
      t = { s with
        directive := t.directive
        act := { s.act with
          line := t.act.line
          drv := if (s.act.drv.level ch).state = .asserted then s.act.drv
            else s.act.drv.setLevel ch ⟨.testing, some s.clock, (s.act.drv.level ch).failed⟩ } })
  ∧ (∀ (s : State) (sender target : Byte),
    s.Takes sender target →
    ∃ t, exec (.ackReset sender target 0) s = .next t ∧
      t = { s with
        directive := t.directive
        startup := { s.startup with resetSeen := false }
        act := { s.act with line := t.act.line } }
      ∧ t.act.line.errors = s.act.line.errors)
  ∧ (∀ (s : State) (sender target : Byte),
    s.Takes sender target →
    ∃ t, exec (.clearCounts sender target 0) s = .next t ∧
      t = { s with directive := t.directive, act := { s.act with line := t.act.line } } ∧ t.act.line.errors = 0)
  ∧ (∀ (s : State) (sender target : Byte) (m : MuteTimer),
    s.act.line.Sound →
    s.Takes sender target →
    s.act.line.mute = some m →
    s.act.coord.phase = .awaitPermit →
    ((s.act.coord.permit ∧ s.act.line.stuck = false) ∨ (s.scanner.active 7 ∧ s.act.coord.keyWithheld = false)) →
    s.scanner.fault = false →
    ∃ t, exec (.unmute sender target 0) s = .next t ∧
      t = { s with
        directive := t.directive
        act := { s.act with
          line := t.act.line
          seq := { s.act.seq with standDown := none }
          coord := { s.act.coord with phase := .bidding, quietStart := none, stagger := none } } }
      ∧ t.act.line.mute = none ∧ t.act.line.restartAsked .bid ∧ t.act.line.urgentDue)

/-- The profile of each PRF value, and its use from reset to reset. R178: R_on and R_off in quarters, W, q, solo grade,
grace and quiet time in ms. -/
def Obligations.ProfileTable : Prop :=
  (∀ (stn : BitVec 5) (rgp : BitVec 2) (kmx : BitVec 1),
    (List.range 8).map (fun prf => profileOf ⟨stn, BitVec.ofNat 3 prf, rgp, kmx⟩) =
      [⟨16, 8, 3000, 3, 6, 60000, 600000⟩, ⟨12, 8, 3000, 3, 6, 60000, 600000⟩, ⟨24, 10, 3000, 3, 6, 60000, 600000⟩,
        ⟨16, 8, 5000, 2, 5, 30000, 300000⟩, ⟨16, 8, 2000, 4, 6, 120000, 1200000⟩, ⟨12, 8, 5000, 2, 5, 30000, 300000⟩,
        ⟨24, 10, 2000, 4, 7, 120000, 1200000⟩, ⟨16, 8, 3000, 4, 7, 60000, 1200000⟩])
  ∧ (∀ (c : Instr) (s t : State),
    exec c s = .next t →
    (∀ straps high, c ≠ .reset straps high) →
    profileOf t.straps = profileOf s.straps)

/-- The feedback stage read from inputs 0 to 3, unknown counting as inactive; the peer stage and the adopted stage. R181,
with the peer stage of R182 (counted as in R90) and the adopted stage of R183. -/
def Obligations.FeedbackStageOfTheContacts : Prop :=
  (∀ (sc : Scanner),
    feedbackStage sc =
        (if sc.value 2 = .active ∨ sc.value 3 = .active then .safe
        else if sc.value 0 = .active ∧ sc.value 1 = .active then .watch else .isolate)
      ∧ feedbackStage sc ≠ .alert ∧ feedbackStage sc ≠ .quiesce)
  ∧ (∀ (v : View),
    peerStage v = (if 1 ≤ v.able ∧ needOf v.able v.profile.q ≤ v.peers.countP (fun r =>
          r.able && r.report.any fun p => 2 ≤ p.stage.code && p.phase ≠ .none) then .quiesce else .watch)
      ∧ (adoptedStage v).code = max (feedbackStage v.scanner).code (peerStage v).code)

/-- The state after reset is sound, whatever the straps. State.Sound holds where every run begins. -/
def Obligations.ResetStateIsSound : Prop :=
  ∀ (straps : Straps) (high : Bool) (pending : List Instr),
    State.reset.Sound ∧ (State.afterReset straps high pending).Sound

/-- Every step keeps the Sample Port and the Motion Assessor in their ranges. The ranges of sections 1.2 and 2.1 (R12 to
R16, R19 to R23, R26 to R34). -/
def Obligations.StepKeepsPortAndAssessor : Prop :=
  ∀ (s t : State),
    s.port.Sound ∧ s.assessor.Sound →
    step s = .next t →
    t.port.Sound ∧ t.assessor.Sound

/-- Every step keeps the Line Unit's queue, waits and receiver sound. The bounds and relations of section 3.2 (R44, R50,
R54 to R57, R59, R61, R63, R66). -/
def Obligations.StepKeepsTheLineUnit : Prop :=
  ∀ (s t : State),
    s.act.line.Sound ∧ s.act.line.ReceiverSound →
    step s = .next t →
    t.act.line.Sound ∧ t.act.line.ReceiverSound

/-- Every step keeps the Peer Table and the Contact Scanner sound. Section 4.1 with R71, R81, R82 and R92; section 7.2
with R143 to R148. -/
def Obligations.StepKeepsPeersAndInputs : Prop :=
  ∀ (s t : State),
    s.PeersSound ∧ s.scanner.Sound →
    step s = .next t →
    t.PeersSound ∧ t.scanner.Sound

/-- Every step keeps the channel records sound and at most one coil energized. From section 6.2 with R120 to R125, R128,
R131 and R135. State.Sound is the model's invariant. -/
def Obligations.StepKeepsTheChannels : Prop :=
  ∀ (s t : State),
    s.Sound →
    step s = .next t →
    t.act.drv.PulseSound ∧ t.act.drv.RecordsSound ∧ t.act.CloseSound ∧ t.act.RestSound

/-- Every step keeps the whole state sound. The headline: the invariant State.Sound, which other statements take as a
premise. -/
def Obligations.StepKeepsTheStateSound : Prop :=
  ∀ (s t : State),
    s.Sound →
    step s = .next t →
    t.Sound
end

