-- ==== Sys2Proof/Laws/Driver.lean ====
section
/-! SUPPORT. The Channel Driver's records read after they are replaced, and what one request or one turn of the arbiter leaves
alone. -/

namespace Sys2Proof.Machine

/-! ### A record replaced, and the others -/

@[simp] theorem Driver.pulse_setPulse_self (d : Driver) (id : PulseId) (c : PulseChannel) : (d.setPulse id c).pulse id = c := by
  rcases id with (_ | _) | (_ | _) <;> rfl

theorem Driver.pulse_setPulse_of_ne (d : Driver) {id other : PulseId} (c : PulseChannel) (h : other ≠ id) :
    (d.setPulse id c).pulse other = d.pulse other := by
  rcases id with (_ | _) | (_ | _) <;> rcases other with (_ | _) | (_ | _) <;> first | rfl | exact absurd rfl h

/-- Any PULSE record after one is replaced. -/
theorem Driver.pulse_setPulse (d : Driver) (id other : PulseId) (c : PulseChannel) :
    (d.setPulse id c).pulse other = if other = id then c else d.pulse other := by
  split
  · next h => rw [h, Driver.pulse_setPulse_self]
  · next h => exact d.pulse_setPulse_of_ne c h

@[simp] theorem Driver.level_setPulse (d : Driver) (id : PulseId) (c : PulseChannel) (ch : LevelId) :
    (d.setPulse id c).level ch = d.level ch := by
  rcases id with (_ | _) | (_ | _) <;> cases ch <;> rfl

@[simp] theorem Driver.hold_setPulse (d : Driver) (id : PulseId) (c : PulseChannel) (ch : HoldId) :
    (d.setPulse id c).hold ch = d.hold ch := by
  rcases id with (_ | _) | (_ | _) <;> cases ch <;> rfl

@[simp] theorem Driver.pulseQueue_setPulse (d : Driver) (id : PulseId) (c : PulseChannel) :
    (d.setPulse id c).pulseQueue = d.pulseQueue := by
  rcases id with (_ | _) | (_ | _) <;> rfl

@[simp] theorem Driver.gap_setPulse (d : Driver) (id : PulseId) (c : PulseChannel) : (d.setPulse id c).gap = d.gap := by
  rcases id with (_ | _) | (_ | _) <;> rfl

@[simp] theorem Driver.level_setLevel_self (d : Driver) (id : LevelId) (c : LevelChannel) : (d.setLevel id c).level id = c := by
  cases id <;> rfl

theorem Driver.level_setLevel_of_ne (d : Driver) {id other : LevelId} (c : LevelChannel) (h : other ≠ id) :
    (d.setLevel id c).level other = d.level other := by
  cases id <;> cases other <;> first | rfl | exact absurd rfl h

@[simp] theorem Driver.pulse_setLevel (d : Driver) (id : LevelId) (c : LevelChannel) (ch : PulseId) :
    (d.setLevel id c).pulse ch = d.pulse ch := by
  rcases ch with (_ | _) | (_ | _) <;> cases id <;> rfl

@[simp] theorem Driver.hold_setLevel (d : Driver) (id : LevelId) (c : LevelChannel) (ch : HoldId) :
    (d.setLevel id c).hold ch = d.hold ch := by
  cases id <;> cases ch <;> rfl

@[simp] theorem Driver.pulseQueue_setLevel (d : Driver) (id : LevelId) (c : LevelChannel) :
    (d.setLevel id c).pulseQueue = d.pulseQueue := by
  cases id <;> rfl

@[simp] theorem Driver.gap_setLevel (d : Driver) (id : LevelId) (c : LevelChannel) : (d.setLevel id c).gap = d.gap := by
  cases id <;> rfl

@[simp] theorem Driver.hold_setHold_self (d : Driver) (id : HoldId) (c : HoldChannel) : (d.setHold id c).hold id = c := by
  cases id <;> rfl

theorem Driver.hold_setHold_of_ne (d : Driver) {id other : HoldId} (c : HoldChannel) (h : other ≠ id) :
    (d.setHold id c).hold other = d.hold other := by
  cases id <;> cases other <;> first | rfl | exact absurd rfl h

@[simp] theorem Driver.pulse_setHold (d : Driver) (id : HoldId) (c : HoldChannel) (ch : PulseId) :
    (d.setHold id c).pulse ch = d.pulse ch := by
  rcases ch with (_ | _) | (_ | _) <;> cases id <;> rfl

@[simp] theorem Driver.level_setHold (d : Driver) (id : HoldId) (c : HoldChannel) (ch : LevelId) :
    (d.setHold id c).level ch = d.level ch := by
  cases id <;> cases ch <;> rfl

@[simp] theorem Driver.pulseQueue_setHold (d : Driver) (id : HoldId) (c : HoldChannel) :
    (d.setHold id c).pulseQueue = d.pulseQueue := by
  cases id <;> rfl

@[simp] theorem Driver.gap_setHold (d : Driver) (id : HoldId) (c : HoldChannel) : (d.setHold id c).gap = d.gap := by
  cases id <;> rfl

/-! ### Operations one after another -/

/-- What holds of the driver after each of two operations holds after both. -/
theorem Driven.next_fst (r : Driven) (f : Driver → Driven) : (r.next f).1 = (f r.1).1 := rfl

theorem Driven.next_snd (r : Driven) (f : Driver → Driven) : (r.next f).2 = r.2 ++ (f r.1).2 := rfl

/-! ### What the PULSE operations leave alone -/

/-- The LEVEL and HOLD records are the same. -/
def Driver.SameBut (d e : Driver) : Prop := (∀ ch, e.level ch = d.level ch) ∧ ∀ ch, e.hold ch = d.hold ch

theorem Driver.SameBut.refl (d : Driver) : d.SameBut d := ⟨fun _ => rfl, fun _ => rfl⟩

theorem Driver.SameBut.trans {d e f : Driver} (h : d.SameBut e) (k : e.SameBut f) : d.SameBut f :=
  ⟨fun ch => (k.1 ch).trans (h.1 ch), fun ch => (k.2 ch).trans (h.2 ch)⟩

theorem Driver.sameBut_setPulse (d : Driver) (id : PulseId) (c : PulseChannel) : d.SameBut (d.setPulse id c) :=
  ⟨d.level_setPulse id c, d.hold_setPulse id c⟩

theorem Driver.sameBut_setPulse_queue (d : Driver) (id : PulseId) (c : PulseChannel) (q : List PulseId) :
    d.SameBut { d.setPulse id c with pulseQueue := q } :=
  ⟨d.level_setPulse id c, d.hold_setPulse id c⟩

theorem Driver.sameBut_setPulse_gap (d : Driver) (id : PulseId) (c : PulseChannel) (g : Option Stamp) :
    d.SameBut { d.setPulse id c with gap := g } :=
  ⟨d.level_setPulse id c, d.hold_setPulse id c⟩

/-- A close channel taken back touches no LEVEL or HOLD channel (R132, R135). -/
theorem Driver.sameBut_stopClose (d : Driver) (now : Stamp) (p : Pdu) : d.SameBut (d.stopClose now p) := by
  unfold Driver.stopClose
  split
  · exact d.sameBut_setPulse_queue ..
  · exact d.sameBut_setPulse_gap ..
  all_goals exact .refl d

/-- A cut close touches no LEVEL or HOLD channel (R132). -/
theorem Driver.sameBut_cutClose (d : Driver) (now : Stamp) (p : Pdu) : d.SameBut (d.cutClose now p).1 := by
  unfold Driver.cutClose
  split
  · exact d.sameBut_stopClose now p
  · exact d.sameBut_stopClose now p
  · exact d.sameBut_setPulse ..
  all_goals exact .refl d

/-- A trip request touches no LEVEL or HOLD channel (R129). -/
theorem Driver.sameBut_requestTrip (d : Driver) (sc : Scanner) (now : Stamp) (p : Pdu) :
    d.SameBut (d.requestTrip sc now p).1 := by
  refine (d.sameBut_cutClose now p).trans ?_
  rw [Driver.requestTrip, Driven.next_fst]
  generalize (d.cutClose now p).1 = e
  split
  · split
    · exact e.sameBut_setPulse ..
    · exact e.sameBut_setPulse_queue ..
  all_goals exact .refl e

/-- Re-arming touches no LEVEL or HOLD channel (R133). -/
theorem Driver.sameBut_rearm (d : Driver) (p : Pdu) : d.SameBut (d.rearm p) := by
  unfold Driver.rearm
  split
  · exact d.sameBut_setPulse ..
  · exact d.sameBut_setPulse ..
  all_goals exact .refl d

/-- The re-arming of a completed close, with the new trip it may ask for, touches no LEVEL or HOLD channel (R133, R135). -/
theorem Driver.sameBut_rearmAfterClose (d : Driver) (sc : Scanner) (now : Stamp) (energizing : Bool) (p : Pdu) :
    d.SameBut (d.rearmAfterClose sc now energizing p).1 := by
  unfold Driver.rearmAfterClose
  split
  · exact d.sameBut_rearm p
  · exact (d.sameBut_rearm p).trans ((d.rearm p).sameBut_requestTrip sc now p)

/-- A close found closed touches no LEVEL or HOLD channel (R130, R131, R136). -/
theorem Driver.sameBut_finishClose (d : Driver) (sc : Scanner) (now : Stamp) (energizing : Bool) (p : Pdu) :
    d.SameBut (d.finishClose sc now energizing p).1 := by
  unfold Driver.finishClose
  split
  · exact d.sameBut_setPulse ..
  · exact (d.sameBut_setPulse ..).trans (Driver.sameBut_rearmAfterClose ..)

/-- A close request touches no LEVEL or HOLD channel (R130). -/
theorem Driver.sameBut_requestClose (d : Driver) (sc : Scanner) (now : Stamp) (energizing : Bool) (p : Pdu) :
    d.SameBut (d.requestClose sc now energizing p).1 := by
  unfold Driver.requestClose
  split <;> first | exact .refl d | skip
  all_goals
    split <;> first | exact .refl d | skip
    all_goals
      split
      · exact d.sameBut_setPulse_queue ..
      · exact d.sameBut_finishClose ..

/-- The head judged by the arbiter touches no LEVEL or HOLD channel (R131). -/
theorem Driver.sameBut_judgeHead (d : Driver) (sc : Scanner) (now : Stamp) (energizing : Bool) (id : PulseId) :
    d.SameBut (d.judgeHead sc now energizing id).1 := by
  unfold Driver.judgeHead Driver.fire
  split
  · split <;> exact d.sameBut_setPulse ..
  · split
    · exact d.sameBut_setPulse ..
    · split
      · exact d.sameBut_setPulse ..
      · exact d.sameBut_finishClose ..

/-- The arbiter touches no LEVEL or HOLD channel (R131). -/
theorem Driver.sameBut_serve (sc : Scanner) (now : Stamp) (energizing : Bool) (n : Nat) (d : Driver) :
    d.SameBut (Driver.serve sc now energizing n d).1 := by
  induction n generalizing d with
  | zero => exact .refl d
  | succ n ih =>
    unfold Driver.serve
    split
    · exact .refl d
    · split
      · exact .refl d
      · next rest _ =>
        exact Driver.SameBut.trans (e := { d with pulseQueue := rest }) ⟨fun ch => by cases ch <;> rfl, fun ch => by cases ch <;> rfl⟩
          ((Driver.sameBut_judgeHead ..).trans (ih _))

/-- An arbiter with nothing queued does nothing (R131). -/
theorem Driver.serve_of_empty (sc : Scanner) (now : Stamp) (energizing : Bool) (n : Nat) (d : Driver) (h : d.pulseQueue = []) :
    Driver.serve sc now energizing n d = (d, []) := by
  cases n with
  | zero => rfl
  | succ n =>
    unfold Driver.serve
    rw [h]
    split <;> rfl

/-- An arbiter held back by an energized coil or an unserved gap does nothing (R131). -/
theorem Driver.serve_of_held (sc : Scanner) (now : Stamp) (energizing : Bool) (n : Nat) (d : Driver)
    (h : (d.anyFiring || !d.gapServed now) = true) : Driver.serve sc now energizing n d = (d, []) := by
  cases n with
  | zero => rfl
  | succ n => rw [Driver.serve, if_pos h]

end Sys2Proof.Machine
end

