-- ==== Sys2Proof/Laws/Line.lean ====
section
/-! SUPPORT. What the Line Unit's services to the other blocks change: the queue, the deferred request and the two waits. -/

namespace Sys2Proof.Machine

/-- Nothing differs but the queue, the deferred request, the idle count and the line-stuck timer. -/
def LineUnit.QueueOnly (l m : LineUnit) : Prop :=
  m = { l with queue := m.queue, deferred := m.deferred, idleCount := m.idleCount, stuckTimer := m.stuckTimer }

theorem LineUnit.QueueOnly.refl (l : LineUnit) : l.QueueOnly l := rfl

theorem LineUnit.QueueOnly.trans {l m n : LineUnit} (h : l.QueueOnly m) (k : m.QueueOnly n) : l.QueueOnly n := by
  unfold LineUnit.QueueOnly at h k ⊢
  rw [k, h]

/-- Judging the waits afresh changes the two waits alone (R61, R66). -/
theorem LineUnit.queueOnly_rejudge (l : LineUnit) (now : Stamp) : l.QueueOnly (l.rejudge now) := rfl

theorem LineUnit.queueOnly_rejudge_of (l m : LineUnit) (now : Stamp) (h : l.QueueOnly m) : l.QueueOnly (m.rejudge now) :=
  h.trans (m.queueOnly_rejudge now)

/-- A second judging at the same moment changes nothing. -/
theorem LineUnit.rejudge_rejudge (l : LineUnit) (now : Stamp) : (l.rejudge now).rejudge now = l.rejudge now := by
  have same : ∀ {α : Type} (b : Bool) (o : Option α) (x : α),
      (if b then some ((if b then some (o.getD x) else none).getD x) else none) = if b then some (o.getD x) else none := by
    intro _ b o x
    cases b <;> rfl
  unfold LineUnit.rejudge
  rw [LineUnit.mk.injEq]
  exact ⟨rfl, rfl, rfl, rfl, rfl, rfl, rfl, rfl, rfl, rfl, rfl, same _ _ _, rfl, rfl, same _ _ _, rfl, rfl, rfl, rfl⟩

/-- An urgent notice (R57). -/
theorem LineUnit.queueOnly_urgent (l : LineUnit) (now : Stamp) : l.QueueOnly (l.urgent now) := by
  unfold LineUnit.urgent
  split <;> rfl

/-- A routine notice (R57). -/
theorem LineUnit.queueOnly_routine (l : LineUnit) (now : Stamp) : l.QueueOnly (l.routine now) := by
  unfold LineUnit.routine
  split <;> rfl

/-- A request for a restart telegram (R58, R59). -/
theorem LineUnit.queueOnly_request (l : LineUnit) (now : Stamp) (k : RestartKind) : l.QueueOnly (l.request now k) := by
  unfold LineUnit.request
  split <;> rfl

/-- The deferred request applied (R59). -/
theorem LineUnit.queueOnly_applyDeferred (l : LineUnit) (now : Stamp) : l.QueueOnly (l.applyDeferred now) := by
  unfold LineUnit.applyDeferred
  split
  · exact LineUnit.QueueOnly.trans (m := { l with deferred := none }) rfl (LineUnit.queueOnly_request ..)
  · exact .refl l

/-- Congestion turning on changes its flag besides (R65). -/
theorem LineUnit.congest_eq (l : LineUnit) (now : Stamp) (n : Nat) :
    l.congest now n = l ∨ LineUnit.QueueOnly { l with congested := true } (l.congest now n) := by
  unfold LineUnit.congest
  split
  · exact .inr (LineUnit.queueOnly_urgent ..)
  · exact .inl rfl

/-- The cadence judged afresh changes the cadence, the heartbeat and the queue with its waits (R68). -/
theorem LineUnit.setCadence_eq (l : LineUnit) (now : Stamp) (fast : Bool) :
    LineUnit.QueueOnly { l with fast := fast, heartbeat := (l.setCadence now fast).heartbeat } (l.setCadence now fast) := by
  have turned : ∀ (h : Option Stamp) (m : LineUnit), LineUnit.QueueOnly { l with fast := true, heartbeat := h } m →
      LineUnit.QueueOnly { l with fast := true, heartbeat := m.heartbeat } m := by
    intro h m hm
    have hb : m.heartbeat = h := by rw [hm]
    rw [hb]
    exact hm
  unfold LineUnit.setCadence
  split
  · next h =>
    have hf : fast = true := by
      cases fast
      · cases h
      · rfl
    subst hf
    dsimp only
    by_cases hb : ranFor now l.heartbeat fastPeriod = true
    · rw [if_pos hb]
      exact turned none _ ((LineUnit.queueOnly_routine { l with fast := true, heartbeat := none } now).trans
        (LineUnit.queueOnly_urgent ..))
    · rw [if_neg hb]
      exact turned l.heartbeat _ (LineUnit.queueOnly_urgent { l with fast := true } now)
  · rfl

/-- The cadence after it is judged afresh. -/
theorem LineUnit.setCadence_fast (l : LineUnit) (now : Stamp) (fast : Bool) : (l.setCadence now fast).fast = fast := by
  rw [l.setCadence_eq now fast]

/-- What the services never touch, read after any of them. -/
theorem LineUnit.QueueOnly.keeps {l m : LineUnit} (h : l.QueueOnly m) :
    m.condition = l.condition ∧ m.receiver = l.receiver ∧ m.sending = l.sending ∧ m.mute = l.mute ∧ m.errors = l.errors
      ∧ m.stuck = l.stuck ∧ m.fast = l.fast := by
  rw [h]
  exact ⟨rfl, rfl, rfl, rfl, rfl, rfl, rfl⟩

end Sys2Proof.Machine
end

