-- ==== Sys2Proof/Laws/State.lean ====
section
/-! SUPPORT. One lemma per field per update of the state and of its blocks, each true by rfl and tagged simp, so that no proof
unfolds an update. -/

namespace Sys2Proof.Machine

/-! ### The station -/

@[simp] theorem State.withAct_pending (s : State) (a : Actors) : (s.withAct a).pending = s.pending := rfl
@[simp] theorem State.withAct_clock (s : State) (a : Actors) : (s.withAct a).clock = s.clock := rfl
@[simp] theorem State.withAct_bitPhase (s : State) (a : Actors) : (s.withAct a).bitPhase = s.bitPhase := rfl
@[simp] theorem State.withAct_straps (s : State) (a : Actors) : (s.withAct a).straps = s.straps := rfl
@[simp] theorem State.withAct_port (s : State) (a : Actors) : (s.withAct a).port = s.port := rfl
@[simp] theorem State.withAct_assessor (s : State) (a : Actors) : (s.withAct a).assessor = s.assessor := rfl
@[simp] theorem State.withAct_peers (s : State) (a : Actors) : (s.withAct a).peers = s.peers := rfl
@[simp] theorem State.withAct_duplicate (s : State) (a : Actors) : (s.withAct a).duplicate = s.duplicate := rfl
@[simp] theorem State.withAct_scanner (s : State) (a : Actors) : (s.withAct a).scanner = s.scanner := rfl
@[simp] theorem State.withAct_directive (s : State) (a : Actors) : (s.withAct a).directive = s.directive := rfl
@[simp] theorem State.withAct_startup (s : State) (a : Actors) : (s.withAct a).startup = s.startup := rfl
@[simp] theorem State.withAct_act (s : State) (a : Actors) : (s.withAct a).act = a := rfl

@[simp] theorem State.acting_pending (s : State) (f : View → Actors → Actors) :
    (s.acting f).pending = s.pending := rfl
@[simp] theorem State.acting_clock (s : State) (f : View → Actors → Actors) : (s.acting f).clock = s.clock := rfl
@[simp] theorem State.acting_bitPhase (s : State) (f : View → Actors → Actors) :
    (s.acting f).bitPhase = s.bitPhase := rfl
@[simp] theorem State.acting_straps (s : State) (f : View → Actors → Actors) : (s.acting f).straps = s.straps := rfl
@[simp] theorem State.acting_port (s : State) (f : View → Actors → Actors) : (s.acting f).port = s.port := rfl
@[simp] theorem State.acting_assessor (s : State) (f : View → Actors → Actors) :
    (s.acting f).assessor = s.assessor := rfl
@[simp] theorem State.acting_peers (s : State) (f : View → Actors → Actors) : (s.acting f).peers = s.peers := rfl
@[simp] theorem State.acting_duplicate (s : State) (f : View → Actors → Actors) :
    (s.acting f).duplicate = s.duplicate := rfl
@[simp] theorem State.acting_scanner (s : State) (f : View → Actors → Actors) :
    (s.acting f).scanner = s.scanner := rfl
@[simp] theorem State.acting_directive (s : State) (f : View → Actors → Actors) :
    (s.acting f).directive = s.directive := rfl
@[simp] theorem State.acting_startup (s : State) (f : View → Actors → Actors) :
    (s.acting f).startup = s.startup := rfl
@[simp] theorem State.acting_act (s : State) (f : View → Actors → Actors) : (s.acting f).act = f s.view s.act := rfl

@[simp] theorem State.withAct_view (s : State) (a : Actors) : (s.withAct a).view = s.view := rfl
@[simp] theorem State.acting_view (s : State) (f : View → Actors → Actors) : (s.acting f).view = s.view := rfl

@[simp] theorem State.view_now (s : State) : s.view.now = s.clock := rfl
@[simp] theorem State.view_straps (s : State) : s.view.straps = s.straps := rfl
@[simp] theorem State.view_assessor (s : State) : s.view.assessor = s.assessor := rfl
@[simp] theorem State.view_peers (s : State) : s.view.peers = s.peers := rfl
@[simp] theorem State.view_scanner (s : State) : s.view.scanner = s.scanner := rfl

/-! ### The acting blocks -/

@[simp] theorem Actors.withLine_line (a : Actors) (l : LineUnit) : (a.withLine l).line = l := rfl
@[simp] theorem Actors.withLine_seq (a : Actors) (l : LineUnit) : (a.withLine l).seq = a.seq := rfl
@[simp] theorem Actors.withLine_drv (a : Actors) (l : LineUnit) : (a.withLine l).drv = a.drv := rfl
@[simp] theorem Actors.withLine_coord (a : Actors) (l : LineUnit) : (a.withLine l).coord = a.coord := rfl

@[simp] theorem Actors.withSeq_line (a : Actors) (q : Sequencer) : (a.withSeq q).line = a.line := rfl
@[simp] theorem Actors.withSeq_seq (a : Actors) (q : Sequencer) : (a.withSeq q).seq = q := rfl
@[simp] theorem Actors.withSeq_drv (a : Actors) (q : Sequencer) : (a.withSeq q).drv = a.drv := rfl
@[simp] theorem Actors.withSeq_coord (a : Actors) (q : Sequencer) : (a.withSeq q).coord = a.coord := rfl

@[simp] theorem Actors.withDrv_line (a : Actors) (d : Driver) : (a.withDrv d).line = a.line := rfl
@[simp] theorem Actors.withDrv_seq (a : Actors) (d : Driver) : (a.withDrv d).seq = a.seq := rfl
@[simp] theorem Actors.withDrv_drv (a : Actors) (d : Driver) : (a.withDrv d).drv = d := rfl
@[simp] theorem Actors.withDrv_coord (a : Actors) (d : Driver) : (a.withDrv d).coord = a.coord := rfl

@[simp] theorem Actors.withCoord_line (a : Actors) (c : Coordinator) : (a.withCoord c).line = a.line := rfl
@[simp] theorem Actors.withCoord_seq (a : Actors) (c : Coordinator) : (a.withCoord c).seq = a.seq := rfl
@[simp] theorem Actors.withCoord_drv (a : Actors) (c : Coordinator) : (a.withCoord c).drv = a.drv := rfl
@[simp] theorem Actors.withCoord_coord (a : Actors) (c : Coordinator) : (a.withCoord c).coord = c := rfl

@[simp] theorem Actors.urgent_line (a : Actors) (v : View) : (a.urgent v).line = a.line.urgent v.now := rfl
@[simp] theorem Actors.urgent_seq (a : Actors) (v : View) : (a.urgent v).seq = a.seq := rfl
@[simp] theorem Actors.urgent_drv (a : Actors) (v : View) : (a.urgent v).drv = a.drv := rfl
@[simp] theorem Actors.urgent_coord (a : Actors) (v : View) : (a.urgent v).coord = a.coord := rfl

@[simp] theorem Actors.request_line (a : Actors) (v : View) (k : RestartKind) :
    (a.request v k).line = a.line.request v.now k := rfl
@[simp] theorem Actors.request_seq (a : Actors) (v : View) (k : RestartKind) : (a.request v k).seq = a.seq := rfl
@[simp] theorem Actors.request_drv (a : Actors) (v : View) (k : RestartKind) : (a.request v k).drv = a.drv := rfl
@[simp] theorem Actors.request_coord (a : Actors) (v : View) (k : RestartKind) :
    (a.request v k).coord = a.coord := rfl

@[simp] theorem Actors.inStep_line (a : Actors) (step : EnergizeStep) : (a.inStep step).line = a.line := rfl
@[simp] theorem Actors.inStep_seq (a : Actors) (step : EnergizeStep) : (a.inStep step).seq = a.seq := rfl
@[simp] theorem Actors.inStep_drv (a : Actors) (step : EnergizeStep) : (a.inStep step).drv = a.drv := rfl
@[simp] theorem Actors.inStep_coord (a : Actors) (step : EnergizeStep) :
    (a.inStep step).coord = { a.coord with step := step } := rfl

/-! ### The Restart Coordinator -/

@[simp] theorem Coordinator.enter_phase (c : Coordinator) (phase : Phase) : (c.enter phase).phase = phase := rfl
@[simp] theorem Coordinator.enter_permit (c : Coordinator) (phase : Phase) : (c.enter phase).permit = c.permit := rfl
@[simp] theorem Coordinator.enter_keyWithheld (c : Coordinator) (phase : Phase) :
    (c.enter phase).keyWithheld = c.keyWithheld := rfl
@[simp] theorem Coordinator.enter_quietStart (c : Coordinator) (phase : Phase) :
    (c.enter phase).quietStart = none := rfl
@[simp] theorem Coordinator.enter_claimOutstanding (c : Coordinator) (phase : Phase) :
    (c.enter phase).claimOutstanding = c.claimOutstanding := rfl
@[simp] theorem Coordinator.enter_claimPending (c : Coordinator) (phase : Phase) :
    (c.enter phase).claimPending = c.claimPending := rfl
@[simp] theorem Coordinator.enter_bidWindow (c : Coordinator) (phase : Phase) :
    (c.enter phase).bidWindow = c.bidWindow := rfl
@[simp] theorem Coordinator.enter_contest (c : Coordinator) (phase : Phase) :
    (c.enter phase).contest = c.contest := rfl
@[simp] theorem Coordinator.enter_stagger (c : Coordinator) (phase : Phase) : (c.enter phase).stagger = none := rfl
@[simp] theorem Coordinator.enter_step (c : Coordinator) (phase : Phase) : (c.enter phase).step = c.step := rfl
@[simp] theorem Coordinator.enter_holdPending (c : Coordinator) (phase : Phase) :
    (c.enter phase).holdPending = c.holdPending := rfl

/-! ### The Line Unit -/

@[simp] theorem LineUnit.rejudge_condition (l : LineUnit) (now : Stamp) :
    (l.rejudge now).condition = l.condition := rfl
@[simp] theorem LineUnit.rejudge_receiver (l : LineUnit) (now : Stamp) : (l.rejudge now).receiver = l.receiver := rfl
@[simp] theorem LineUnit.rejudge_rxBuf (l : LineUnit) (now : Stamp) : (l.rejudge now).rxBuf = l.rxBuf := rfl
@[simp] theorem LineUnit.rejudge_quietBits (l : LineUnit) (now : Stamp) :
    (l.rejudge now).quietBits = l.quietBits := rfl
@[simp] theorem LineUnit.rejudge_gapBits (l : LineUnit) (now : Stamp) : (l.rejudge now).gapBits = l.gapBits := rfl
@[simp] theorem LineUnit.rejudge_inByte (l : LineUnit) (now : Stamp) : (l.rejudge now).inByte = l.inByte := rfl
@[simp] theorem LineUnit.rejudge_queue (l : LineUnit) (now : Stamp) : (l.rejudge now).queue = l.queue := rfl
@[simp] theorem LineUnit.rejudge_sending (l : LineUnit) (now : Stamp) : (l.rejudge now).sending = l.sending := rfl
@[simp] theorem LineUnit.rejudge_txBytes (l : LineUnit) (now : Stamp) : (l.rejudge now).txBytes = l.txBytes := rfl
@[simp] theorem LineUnit.rejudge_txBits (l : LineUnit) (now : Stamp) : (l.rejudge now).txBits = l.txBits := rfl
@[simp] theorem LineUnit.rejudge_deferred (l : LineUnit) (now : Stamp) : (l.rejudge now).deferred = l.deferred := rfl
@[simp] theorem LineUnit.rejudge_congested (l : LineUnit) (now : Stamp) :
    (l.rejudge now).congested = l.congested := rfl
@[simp] theorem LineUnit.rejudge_stuck (l : LineUnit) (now : Stamp) : (l.rejudge now).stuck = l.stuck := rfl
@[simp] theorem LineUnit.rejudge_mute (l : LineUnit) (now : Stamp) : (l.rejudge now).mute = l.mute := rfl
@[simp] theorem LineUnit.rejudge_heartbeat (l : LineUnit) (now : Stamp) :
    (l.rejudge now).heartbeat = l.heartbeat := rfl
@[simp] theorem LineUnit.rejudge_fast (l : LineUnit) (now : Stamp) : (l.rejudge now).fast = l.fast := rfl
@[simp] theorem LineUnit.rejudge_errors (l : LineUnit) (now : Stamp) : (l.rejudge now).errors = l.errors := rfl

@[simp] theorem LineUnit.endSending_condition (l : LineUnit) : (l.endSending).condition = l.condition := rfl
@[simp] theorem LineUnit.endSending_receiver (l : LineUnit) : (l.endSending).receiver = l.receiver := rfl
@[simp] theorem LineUnit.endSending_rxBuf (l : LineUnit) : (l.endSending).rxBuf = l.rxBuf := rfl
@[simp] theorem LineUnit.endSending_quietBits (l : LineUnit) : (l.endSending).quietBits = l.quietBits := rfl
@[simp] theorem LineUnit.endSending_gapBits (l : LineUnit) : (l.endSending).gapBits = l.gapBits := rfl
@[simp] theorem LineUnit.endSending_inByte (l : LineUnit) : (l.endSending).inByte = l.inByte := rfl
@[simp] theorem LineUnit.endSending_queue (l : LineUnit) : (l.endSending).queue = l.queue := rfl
@[simp] theorem LineUnit.endSending_sending (l : LineUnit) : (l.endSending).sending = false := rfl
@[simp] theorem LineUnit.endSending_txBytes (l : LineUnit) : (l.endSending).txBytes = [] := rfl
@[simp] theorem LineUnit.endSending_txBits (l : LineUnit) : (l.endSending).txBits = 0 := rfl
@[simp] theorem LineUnit.endSending_deferred (l : LineUnit) : (l.endSending).deferred = l.deferred := rfl
@[simp] theorem LineUnit.endSending_idleCount (l : LineUnit) : (l.endSending).idleCount = l.idleCount := rfl
@[simp] theorem LineUnit.endSending_congested (l : LineUnit) : (l.endSending).congested = l.congested := rfl
@[simp] theorem LineUnit.endSending_stuck (l : LineUnit) : (l.endSending).stuck = l.stuck := rfl
@[simp] theorem LineUnit.endSending_stuckTimer (l : LineUnit) : (l.endSending).stuckTimer = l.stuckTimer := rfl
@[simp] theorem LineUnit.endSending_mute (l : LineUnit) : (l.endSending).mute = l.mute := rfl
@[simp] theorem LineUnit.endSending_heartbeat (l : LineUnit) : (l.endSending).heartbeat = l.heartbeat := rfl
@[simp] theorem LineUnit.endSending_fast (l : LineUnit) : (l.endSending).fast = l.fast := rfl
@[simp] theorem LineUnit.endSending_errors (l : LineUnit) : (l.endSending).errors = l.errors := rfl

@[simp] theorem LineUnit.countError_condition (l : LineUnit) : (l.countError).condition = l.condition := rfl
@[simp] theorem LineUnit.countError_receiver (l : LineUnit) : (l.countError).receiver = l.receiver := rfl
@[simp] theorem LineUnit.countError_rxBuf (l : LineUnit) : (l.countError).rxBuf = l.rxBuf := rfl
@[simp] theorem LineUnit.countError_quietBits (l : LineUnit) : (l.countError).quietBits = l.quietBits := rfl
@[simp] theorem LineUnit.countError_gapBits (l : LineUnit) : (l.countError).gapBits = l.gapBits := rfl
@[simp] theorem LineUnit.countError_inByte (l : LineUnit) : (l.countError).inByte = l.inByte := rfl
@[simp] theorem LineUnit.countError_queue (l : LineUnit) : (l.countError).queue = l.queue := rfl
@[simp] theorem LineUnit.countError_sending (l : LineUnit) : (l.countError).sending = l.sending := rfl
@[simp] theorem LineUnit.countError_txBytes (l : LineUnit) : (l.countError).txBytes = l.txBytes := rfl
@[simp] theorem LineUnit.countError_txBits (l : LineUnit) : (l.countError).txBits = l.txBits := rfl
@[simp] theorem LineUnit.countError_deferred (l : LineUnit) : (l.countError).deferred = l.deferred := rfl
@[simp] theorem LineUnit.countError_idleCount (l : LineUnit) : (l.countError).idleCount = l.idleCount := rfl
@[simp] theorem LineUnit.countError_congested (l : LineUnit) : (l.countError).congested = l.congested := rfl
@[simp] theorem LineUnit.countError_stuck (l : LineUnit) : (l.countError).stuck = l.stuck := rfl
@[simp] theorem LineUnit.countError_stuckTimer (l : LineUnit) : (l.countError).stuckTimer = l.stuckTimer := rfl
@[simp] theorem LineUnit.countError_mute (l : LineUnit) : (l.countError).mute = l.mute := rfl
@[simp] theorem LineUnit.countError_heartbeat (l : LineUnit) : (l.countError).heartbeat = l.heartbeat := rfl
@[simp] theorem LineUnit.countError_fast (l : LineUnit) : (l.countError).fast = l.fast := rfl
@[simp] theorem LineUnit.countError_errors (l : LineUnit) : (l.countError).errors = min 255 (l.errors + 1) := rfl

@[simp] theorem LineUnit.withReception_condition (l : LineUnit) (r : Reception) (heard startBit : Bool) :
    (l.withReception r heard startBit).condition = l.condition := rfl
@[simp] theorem LineUnit.withReception_receiver (l : LineUnit) (r : Reception) (heard startBit : Bool) :
    (l.withReception r heard startBit).receiver = r.receiver := rfl
@[simp] theorem LineUnit.withReception_rxBuf (l : LineUnit) (r : Reception) (heard startBit : Bool) :
    (l.withReception r heard startBit).rxBuf = r.buf := rfl
@[simp] theorem LineUnit.withReception_quietBits (l : LineUnit) (r : Reception) (heard startBit : Bool) :
    (l.withReception r heard startBit).quietBits = l.quietBits := rfl
@[simp] theorem LineUnit.withReception_gapBits (l : LineUnit) (r : Reception) (heard startBit : Bool) :
    (l.withReception r heard startBit).gapBits = if heard then 0 else l.gapBits := rfl
@[simp] theorem LineUnit.withReception_inByte (l : LineUnit) (r : Reception) (heard startBit : Bool) :
    (l.withReception r heard startBit).inByte = ((startBit || (l.inByte && !heard)) && r.receiver ≠ .skip) := rfl
@[simp] theorem LineUnit.withReception_queue (l : LineUnit) (r : Reception) (heard startBit : Bool) :
    (l.withReception r heard startBit).queue = l.queue := rfl
@[simp] theorem LineUnit.withReception_sending (l : LineUnit) (r : Reception) (heard startBit : Bool) :
    (l.withReception r heard startBit).sending = l.sending := rfl
@[simp] theorem LineUnit.withReception_txBytes (l : LineUnit) (r : Reception) (heard startBit : Bool) :
    (l.withReception r heard startBit).txBytes = l.txBytes := rfl
@[simp] theorem LineUnit.withReception_txBits (l : LineUnit) (r : Reception) (heard startBit : Bool) :
    (l.withReception r heard startBit).txBits = l.txBits := rfl
@[simp] theorem LineUnit.withReception_deferred (l : LineUnit) (r : Reception) (heard startBit : Bool) :
    (l.withReception r heard startBit).deferred = l.deferred := rfl
@[simp] theorem LineUnit.withReception_idleCount (l : LineUnit) (r : Reception) (heard startBit : Bool) :
    (l.withReception r heard startBit).idleCount = l.idleCount := rfl
@[simp] theorem LineUnit.withReception_congested (l : LineUnit) (r : Reception) (heard startBit : Bool) :
    (l.withReception r heard startBit).congested = l.congested := rfl
@[simp] theorem LineUnit.withReception_stuck (l : LineUnit) (r : Reception) (heard startBit : Bool) :
    (l.withReception r heard startBit).stuck = l.stuck := rfl
@[simp] theorem LineUnit.withReception_stuckTimer (l : LineUnit) (r : Reception) (heard startBit : Bool) :
    (l.withReception r heard startBit).stuckTimer = l.stuckTimer := rfl
@[simp] theorem LineUnit.withReception_mute (l : LineUnit) (r : Reception) (heard startBit : Bool) :
    (l.withReception r heard startBit).mute = l.mute := rfl
@[simp] theorem LineUnit.withReception_heartbeat (l : LineUnit) (r : Reception) (heard startBit : Bool) :
    (l.withReception r heard startBit).heartbeat = l.heartbeat := rfl
@[simp] theorem LineUnit.withReception_fast (l : LineUnit) (r : Reception) (heard startBit : Bool) :
    (l.withReception r heard startBit).fast = l.fast := rfl
@[simp] theorem LineUnit.withReception_errors (l : LineUnit) (r : Reception) (heard startBit : Bool) :
    (l.withReception r heard startBit).errors = l.errors := rfl

/-! ### The Sample Port -/

@[simp] theorem Port.openFrame_status (p : Port) : (p.openFrame).status = p.status := rfl
@[simp] theorem Port.openFrame_wordPos (p : Port) : (p.openFrame).wordPos = 0 := rfl
@[simp] theorem Port.openFrame_bitCount (p : Port) : (p.openFrame).bitCount = 0 := rfl
@[simp] theorem Port.openFrame_shift (p : Port) : (p.openFrame).shift = 0 := rfl
@[simp] theorem Port.openFrame_words (p : Port) : (p.openFrame).words = [] := rfl
@[simp] theorem Port.openFrame_awaitLow (p : Port) : (p.openFrame).awaitLow = p.awaitLow := rfl
@[simp] theorem Port.openFrame_lastSeq (p : Port) : (p.openFrame).lastSeq = p.lastSeq := rfl
@[simp] theorem Port.openFrame_lastGood (p : Port) : (p.openFrame).lastGood = p.lastGood := rfl
@[simp] theorem Port.openFrame_frameTimer (p : Port) : (p.openFrame).frameTimer = p.frameTimer := rfl
@[simp] theorem Port.openFrame_missing (p : Port) : (p.openFrame).missing = p.missing := rfl
@[simp] theorem Port.openFrame_identical (p : Port) : (p.openFrame).identical = p.identical := rfl
@[simp] theorem Port.openFrame_recovery (p : Port) : (p.openFrame).recovery = p.recovery := rfl

@[simp] theorem Port.take_status (p : Port) (f : Frame) : (p.take f).status = p.status := rfl
@[simp] theorem Port.take_wordPos (p : Port) (f : Frame) : (p.take f).wordPos = p.wordPos := rfl
@[simp] theorem Port.take_bitCount (p : Port) (f : Frame) : (p.take f).bitCount = p.bitCount := rfl
@[simp] theorem Port.take_shift (p : Port) (f : Frame) : (p.take f).shift = p.shift := rfl
@[simp] theorem Port.take_words (p : Port) (f : Frame) : (p.take f).words = p.words := rfl
@[simp] theorem Port.take_awaitLow (p : Port) (f : Frame) : (p.take f).awaitLow = p.awaitLow := rfl
@[simp] theorem Port.take_lastSeq (p : Port) (f : Frame) : (p.take f).lastSeq = some f.seq := rfl
@[simp] theorem Port.take_lastGood (p : Port) (f : Frame) : (p.take f).lastGood = some f.counts := rfl
@[simp] theorem Port.take_frameTimer (p : Port) (f : Frame) : (p.take f).frameTimer = p.frameTimer := rfl
@[simp] theorem Port.take_missing (p : Port) (f : Frame) : (p.take f).missing = p.missing := rfl
@[simp] theorem Port.take_identical (p : Port) (f : Frame) : (p.take f).identical = p.identicalAfter f.counts := rfl
@[simp] theorem Port.take_recovery (p : Port) (f : Frame) : (p.take f).recovery = p.recovery := rfl

@[simp] theorem Port.lose_status (p : Port) (run : Nat) : (p.lose run).status = .lost := rfl
@[simp] theorem Port.lose_wordPos (p : Port) (run : Nat) : (p.lose run).wordPos = p.wordPos := rfl
@[simp] theorem Port.lose_bitCount (p : Port) (run : Nat) : (p.lose run).bitCount = p.bitCount := rfl
@[simp] theorem Port.lose_shift (p : Port) (run : Nat) : (p.lose run).shift = p.shift := rfl
@[simp] theorem Port.lose_words (p : Port) (run : Nat) : (p.lose run).words = p.words := rfl
@[simp] theorem Port.lose_awaitLow (p : Port) (run : Nat) : (p.lose run).awaitLow = p.awaitLow := rfl
@[simp] theorem Port.lose_lastSeq (p : Port) (run : Nat) : (p.lose run).lastSeq = p.lastSeq := rfl
@[simp] theorem Port.lose_lastGood (p : Port) (run : Nat) : (p.lose run).lastGood = p.lastGood := rfl
@[simp] theorem Port.lose_frameTimer (p : Port) (run : Nat) : (p.lose run).frameTimer = p.frameTimer := rfl
@[simp] theorem Port.lose_missing (p : Port) (run : Nat) : (p.lose run).missing = 0 := rfl
@[simp] theorem Port.lose_identical (p : Port) (run : Nat) : (p.lose run).identical = p.identical := rfl
@[simp] theorem Port.lose_recovery (p : Port) (run : Nat) : (p.lose run).recovery = run := rfl

@[simp] theorem Port.track_status (p : Port) (now : Stamp) : (p.track now).status = .tracking := rfl
@[simp] theorem Port.track_wordPos (p : Port) (now : Stamp) : (p.track now).wordPos = p.wordPos := rfl
@[simp] theorem Port.track_bitCount (p : Port) (now : Stamp) : (p.track now).bitCount = p.bitCount := rfl
@[simp] theorem Port.track_shift (p : Port) (now : Stamp) : (p.track now).shift = p.shift := rfl
@[simp] theorem Port.track_words (p : Port) (now : Stamp) : (p.track now).words = p.words := rfl
@[simp] theorem Port.track_awaitLow (p : Port) (now : Stamp) : (p.track now).awaitLow = p.awaitLow := rfl
@[simp] theorem Port.track_lastSeq (p : Port) (now : Stamp) : (p.track now).lastSeq = p.lastSeq := rfl
@[simp] theorem Port.track_lastGood (p : Port) (now : Stamp) : (p.track now).lastGood = p.lastGood := rfl
@[simp] theorem Port.track_frameTimer (p : Port) (now : Stamp) : (p.track now).frameTimer = some now := rfl
@[simp] theorem Port.track_missing (p : Port) (now : Stamp) : (p.track now).missing = 0 := rfl
@[simp] theorem Port.track_identical (p : Port) (now : Stamp) : (p.track now).identical = p.identical := rfl
@[simp] theorem Port.track_recovery (p : Port) (now : Stamp) : (p.track now).recovery = 0 := rfl

/-! ### The Motion Assessor -/

@[simp] theorem Assessor.noRun_detector (a : Assessor) : (a.noRun).detector = a.detector := rfl
@[simp] theorem Assessor.noRun_base (a : Assessor) : (a.noRun).base = a.base := rfl
@[simp] theorem Assessor.noRun_short (a : Assessor) : (a.noRun).short = a.short := rfl
@[simp] theorem Assessor.noRun_long (a : Assessor) : (a.noRun).long = a.long := rfl
@[simp] theorem Assessor.noRun_captureCount (a : Assessor) : (a.noRun).captureCount = a.captureCount := rfl
@[simp] theorem Assessor.noRun_awaitingSeed (a : Assessor) : (a.noRun).awaitingSeed = a.awaitingSeed := rfl
@[simp] theorem Assessor.noRun_qualifying (a : Assessor) : (a.noRun).qualifying = 0 := rfl
@[simp] theorem Assessor.noRun_runOnset (a : Assessor) : (a.noRun).runOnset = none := rfl
@[simp] theorem Assessor.noRun_runPeak (a : Assessor) : (a.noRun).runPeak = 0 := rfl
@[simp] theorem Assessor.noRun_runClipped (a : Assessor) : (a.noRun).runClipped = false := rfl
@[simp] theorem Assessor.noRun_releasing (a : Assessor) : (a.noRun).releasing = a.releasing := rfl
@[simp] theorem Assessor.noRun_settling (a : Assessor) : (a.noRun).settling = a.settling := rfl
@[simp] theorem Assessor.noRun_event (a : Assessor) : (a.noRun).event = a.event := rfl

@[simp] theorem Assessor.withShort_detector (a : Assessor) (m : Nat) : (a.withShort m).detector = a.detector := rfl
@[simp] theorem Assessor.withShort_base (a : Assessor) (m : Nat) : (a.withShort m).base = a.base := rfl
@[simp] theorem Assessor.withShort_short (a : Assessor) (m : Nat) :
    (a.withShort m).short = approach a.short (16 * m) 3 := rfl
@[simp] theorem Assessor.withShort_long (a : Assessor) (m : Nat) : (a.withShort m).long = a.long := rfl
@[simp] theorem Assessor.withShort_captureCount (a : Assessor) (m : Nat) :
    (a.withShort m).captureCount = a.captureCount := rfl
@[simp] theorem Assessor.withShort_awaitingSeed (a : Assessor) (m : Nat) :
    (a.withShort m).awaitingSeed = a.awaitingSeed := rfl
@[simp] theorem Assessor.withShort_qualifying (a : Assessor) (m : Nat) :
    (a.withShort m).qualifying = a.qualifying := rfl
@[simp] theorem Assessor.withShort_runOnset (a : Assessor) (m : Nat) : (a.withShort m).runOnset = a.runOnset := rfl
@[simp] theorem Assessor.withShort_runPeak (a : Assessor) (m : Nat) : (a.withShort m).runPeak = a.runPeak := rfl
@[simp] theorem Assessor.withShort_runClipped (a : Assessor) (m : Nat) :
    (a.withShort m).runClipped = a.runClipped := rfl
@[simp] theorem Assessor.withShort_releasing (a : Assessor) (m : Nat) : (a.withShort m).releasing = a.releasing := rfl
@[simp] theorem Assessor.withShort_settling (a : Assessor) (m : Nat) : (a.withShort m).settling = a.settling := rfl
@[simp] theorem Assessor.withShort_event (a : Assessor) (m : Nat) : (a.withShort m).event = a.event := rfl

/-! ### The Peer Table -/

@[simp] theorem PeerRecord.toQuiet_liveness (r : PeerRecord) : (r.toQuiet).liveness = .quiet := rfl
@[simp] theorem PeerRecord.toQuiet_lastHeard (r : PeerRecord) : (r.toQuiet).lastHeard = r.lastHeard := rfl
@[simp] theorem PeerRecord.toQuiet_group (r : PeerRecord) : (r.toQuiet).group = r.group := rfl
@[simp] theorem PeerRecord.toQuiet_report (r : PeerRecord) : (r.toQuiet).report = r.report := rfl
@[simp] theorem PeerRecord.toQuiet_event (r : PeerRecord) : (r.toQuiet).event = r.event := rfl
@[simp] theorem PeerRecord.toQuiet_bid (r : PeerRecord) : (r.toQuiet).bid = none := rfl
@[simp] theorem PeerRecord.toQuiet_claim (r : PeerRecord) : (r.toQuiet).claim = r.claim := rfl
@[simp] theorem PeerRecord.toQuiet_spent (r : PeerRecord) : (r.toQuiet).spent = r.spent := rfl

@[simp] theorem PeerRecord.toLost_liveness (r : PeerRecord) : (r.toLost).liveness = .lost := rfl
@[simp] theorem PeerRecord.toLost_lastHeard (r : PeerRecord) : (r.toLost).lastHeard = r.lastHeard := rfl
@[simp] theorem PeerRecord.toLost_group (r : PeerRecord) : (r.toLost).group = r.group := rfl
@[simp] theorem PeerRecord.toLost_report (r : PeerRecord) : (r.toLost).report = none := rfl
@[simp] theorem PeerRecord.toLost_event (r : PeerRecord) : (r.toLost).event = none := rfl
@[simp] theorem PeerRecord.toLost_bid (r : PeerRecord) : (r.toLost).bid = none := rfl
@[simp] theorem PeerRecord.toLost_claim (r : PeerRecord) : (r.toLost).claim = none := rfl
@[simp] theorem PeerRecord.toLost_spent (r : PeerRecord) : (r.toLost).spent = false := rfl

@[simp] theorem PeerRecord.dropBid_liveness (r : PeerRecord) : (r.dropBid).liveness = r.liveness := rfl
@[simp] theorem PeerRecord.dropBid_lastHeard (r : PeerRecord) : (r.dropBid).lastHeard = r.lastHeard := rfl
@[simp] theorem PeerRecord.dropBid_group (r : PeerRecord) : (r.dropBid).group = r.group := rfl
@[simp] theorem PeerRecord.dropBid_report (r : PeerRecord) : (r.dropBid).report = r.report := rfl
@[simp] theorem PeerRecord.dropBid_event (r : PeerRecord) : (r.dropBid).event = r.event := rfl
@[simp] theorem PeerRecord.dropBid_bid (r : PeerRecord) : (r.dropBid).bid = none := rfl
@[simp] theorem PeerRecord.dropBid_claim (r : PeerRecord) : (r.dropBid).claim = r.claim := rfl
@[simp] theorem PeerRecord.dropBid_spent (r : PeerRecord) : (r.dropBid).spent = r.spent := rfl

@[simp] theorem PeerRecord.spendClaim_liveness (r : PeerRecord) : (r.spendClaim).liveness = r.liveness := rfl
@[simp] theorem PeerRecord.spendClaim_lastHeard (r : PeerRecord) : (r.spendClaim).lastHeard = r.lastHeard := rfl
@[simp] theorem PeerRecord.spendClaim_group (r : PeerRecord) : (r.spendClaim).group = r.group := rfl
@[simp] theorem PeerRecord.spendClaim_report (r : PeerRecord) : (r.spendClaim).report = r.report := rfl
@[simp] theorem PeerRecord.spendClaim_event (r : PeerRecord) : (r.spendClaim).event = r.event := rfl
@[simp] theorem PeerRecord.spendClaim_bid (r : PeerRecord) : (r.spendClaim).bid = r.bid := rfl
@[simp] theorem PeerRecord.spendClaim_claim (r : PeerRecord) : (r.spendClaim).claim = none := rfl
@[simp] theorem PeerRecord.spendClaim_spent (r : PeerRecord) : (r.spendClaim).spent = true := rfl

/-! ### The Channel Driver's PULSE records -/

@[simp] theorem PulseChannel.toReady_state (c : PulseChannel) : (c.toReady).state = .ready := rfl
@[simp] theorem PulseChannel.toReady_attempt (c : PulseChannel) : (c.toReady).attempt = none := rfl
@[simp] theorem PulseChannel.toReady_pulseTimer (c : PulseChannel) : (c.toReady).pulseTimer = none := rfl
@[simp] theorem PulseChannel.toReady_window (c : PulseChannel) : (c.toReady).window = none := rfl
@[simp] theorem PulseChannel.toReady_unconfirmed (c : PulseChannel) : (c.toReady).unconfirmed = c.unconfirmed := rfl
@[simp] theorem PulseChannel.toReady_failed (c : PulseChannel) : (c.toReady).failed = c.failed := rfl

@[simp] theorem PulseChannel.toSpent_state (c : PulseChannel) (unconfirmed : Bool) :
    (c.toSpent unconfirmed).state = .spent := rfl
@[simp] theorem PulseChannel.toSpent_attempt (c : PulseChannel) (unconfirmed : Bool) :
    (c.toSpent unconfirmed).attempt = none := rfl
@[simp] theorem PulseChannel.toSpent_pulseTimer (c : PulseChannel) (unconfirmed : Bool) :
    (c.toSpent unconfirmed).pulseTimer = none := rfl
@[simp] theorem PulseChannel.toSpent_window (c : PulseChannel) (unconfirmed : Bool) :
    (c.toSpent unconfirmed).window = none := rfl
@[simp] theorem PulseChannel.toSpent_unconfirmed (c : PulseChannel) (unconfirmed : Bool) :
    (c.toSpent unconfirmed).unconfirmed = unconfirmed := rfl
@[simp] theorem PulseChannel.toSpent_failed (c : PulseChannel) (unconfirmed : Bool) :
    (c.toSpent unconfirmed).failed = c.failed := rfl

@[simp] theorem PulseChannel.toQueued_state (c : PulseChannel) (attempt : Attempt) :
    (c.toQueued attempt).state = .queued := rfl
@[simp] theorem PulseChannel.toQueued_attempt (c : PulseChannel) (attempt : Attempt) :
    (c.toQueued attempt).attempt = some attempt := rfl
@[simp] theorem PulseChannel.toQueued_pulseTimer (c : PulseChannel) (attempt : Attempt) :
    (c.toQueued attempt).pulseTimer = none := rfl
@[simp] theorem PulseChannel.toQueued_window (c : PulseChannel) (attempt : Attempt) :
    (c.toQueued attempt).window = none := rfl
@[simp] theorem PulseChannel.toQueued_unconfirmed (c : PulseChannel) (attempt : Attempt) :
    (c.toQueued attempt).unconfirmed = false := rfl
@[simp] theorem PulseChannel.toQueued_failed (c : PulseChannel) (attempt : Attempt) :
    (c.toQueued attempt).failed = c.failed := rfl

end Sys2Proof.Machine
end

