-- ==== Sys2Proof/Laws/Acting.lean ====
section
/-! SUPPORT. What the acting blocks' calls of one another leave alone: judging, driver operations, bringing the zone up, changes
of restart phase, and the events built of them. -/

namespace Sys2Proof.Machine

/-! ### Judging afresh (R68, R114) -/

@[simp] theorem Actors.judge_drv (a : Actors) (v : View) : (a.judge v).drv = a.drv := rfl
@[simp] theorem Actors.judge_coord (a : Actors) (v : View) : (a.judge v).coord = a.coord := rfl

/-- Judging afresh moves the stand-down timer alone among the sequencer's items. -/
theorem Actors.judge_seq (a : Actors) (v : View) :
    (a.judge v).seq = { a.seq with standDown := (a.judge v).seq.standDown } := rfl

/-- After judging, the cadence and the stand-down timer are as wanted. -/
theorem Actors.judge_judged (a : Actors) (v : View) :
    (a.judge v).line.fast = a.wantsFast v ∧ (a.judge v).seq.standDown.isSome = a.wantsStandDown v := by
  refine ⟨LineUnit.setCadence_fast .., ?_⟩
  show (if a.wantsStandDown v then some (a.seq.standDown.getD v.now) else none).isSome = a.wantsStandDown v
  cases a.wantsStandDown v <;> rfl

/-! ### Driver operations whose notices concern sequencer and Line Unit (R138) -/

/-- The coordinator is the same, and the sequencer but for its SAFE wait. -/
def Actors.DriveOnly (a b : Actors) : Prop := b.coord = a.coord ∧ b.seq = { a.seq with safeWait := b.seq.safeWait }

theorem Actors.DriveOnly.refl (a : Actors) : a.DriveOnly a := ⟨rfl, rfl⟩

theorem Actors.DriveOnly.trans {a b c : Actors} (h : a.DriveOnly b) (k : b.DriveOnly c) : a.DriveOnly c :=
  ⟨k.1.trans h.1, by rw [k.2, h.2]⟩

/-- A notice taken by sequencer or Line Unit. -/
theorem Actors.driveOnly_hear (a : Actors) (v : View) (n : Notice) : a.DriveOnly (a.hear v n) := by
  cases n
  case tripOutcome =>
    unfold Actors.hear Actors.tripOutcome
    dsimp only
    split <;> exact ⟨rfl, rfl⟩
  all_goals exact ⟨rfl, rfl⟩

/-- A run of notices. -/
theorem Actors.driveOnly_hearAll (v : View) (ns : List Notice) (a : Actors) :
    a.DriveOnly (ns.foldl (fun a n => a.hear v n) a) := by
  induction ns generalizing a with
  | nil => exact .refl a
  | cons n ns ih => exact (a.driveOnly_hear v n).trans (ih _)

/-- A driver operation. -/
theorem Actors.driveOnly_drive (a : Actors) (v : View) (f : Driver → Driven) : a.DriveOnly (a.drive v f) :=
  Actors.DriveOnly.trans (b := a.withDrv (f a.drv).1) ⟨rfl, rfl⟩ (Actors.driveOnly_hearAll v _ _)

/-- The trip requests (R101, R104). -/
theorem Actors.driveOnly_tripReady (a : Actors) (v : View) : a.DriveOnly (a.tripReady v) := by
  have one : ∀ (p : Pdu) (b : Actors), b.DriveOnly
      (if (b.drv.pulse (.trip p)).state = .ready then b.drive v (·.requestTrip v.scanner v.now p) else b) := by
    intro p b
    split
    · exact b.driveOnly_drive v _
    · exact .refl b
  exact (one .a a).trans (one .b _)

/-- A driver operation with no notice changes the driver alone. -/
theorem Actors.drive_of_quiet (a : Actors) (v : View) (f : Driver → Driven) (h : (f a.drv).2 = []) :
    a.drive v f = a.withDrv (f a.drv).1 := by
  unfold Actors.drive
  rw [h]
  rfl

/-- A driver operation with no notice changes the driver alone, whoever would have taken it. -/
theorem Actors.operate_of_quiet (a : Actors) (v : View) (f : Driver → Driven) (h : (f a.drv).2 = []) :
    a.operate v f = a.withDrv (f a.drv).1 := by
  unfold Actors.operate
  rw [h]
  rfl

/-- An arbiter with nothing queued changes nothing (R131). -/
theorem Actors.serve_of_empty (a : Actors) (v : View) (h : a.drv.pulseQueue = []) : a.serve v = a := by
  unfold Actors.serve
  rw [Actors.operate_of_quiet]
  · rw [Driver.serve_of_empty _ _ _ _ _ h]
    rfl
  · rw [Driver.serve_of_empty _ _ _ _ _ h]

/-! ### Bringing the zone up (R101, R103, R104, R107) -/

/-- The coordinator is the same, and the sequencer but for its SAFE wait and its grace. -/
def Actors.ZoneOnly (a b : Actors) : Prop :=
  b.coord = a.coord ∧ b.seq = { a.seq with safeWait := b.seq.safeWait, grace := b.seq.grace }

theorem Actors.ZoneOnly.refl (a : Actors) : a.ZoneOnly a := ⟨rfl, rfl⟩

theorem Actors.ZoneOnly.trans {a b c : Actors} (h : a.ZoneOnly b) (k : b.ZoneOnly c) : a.ZoneOnly c :=
  ⟨k.1.trans h.1, by rw [k.2, h.2]⟩

theorem Actors.DriveOnly.zone {a b : Actors} (h : a.DriveOnly b) : a.ZoneOnly b := ⟨h.1, by rw [h.2]⟩

/-- The end of the grace (R104). -/
theorem Actors.zoneOnly_endGrace (a : Actors) (v : View) : a.ZoneOnly (a.endGrace v) := by
  unfold Actors.endGrace
  split
  · exact Actors.ZoneOnly.trans (b := a.withSeq { a.seq with grace := .ended }) ⟨rfl, rfl⟩
      (Actors.driveOnly_tripReady _ v).zone
  all_goals exact .refl a

/-- What one stage asks for (R101). -/
theorem Actors.zoneOnly_bringOne (a : Actors) (v : View) (stage : Stage) : a.ZoneOnly (a.bringOne v stage) := by
  cases stage
  case isolate =>
    unfold Actors.bringOne Actors.bringIsolate Actors.cutAtStart
    dsimp only
    split
    · split
      · exact Actors.ZoneOnly.trans (b := a.withSeq { a.seq with grace := .running (later v.now v.profile.grace) }) ⟨rfl, rfl⟩
          (Actors.zoneOnly_endGrace _ v)
      · exact ⟨rfl, rfl⟩
    · exact .refl a
    · exact (a.driveOnly_tripReady v).zone
  case safe =>
    unfold Actors.bringOne Actors.bringSafe
    dsimp only
    split
    · exact .refl a
    · split <;> exact ⟨rfl, rfl⟩
  all_goals exact ⟨rfl, rfl⟩

/-- The zone brought up to a stage (R101). -/
theorem Actors.zoneOnly_bringUp (a : Actors) (v : View) (stage : Stage) : a.ZoneOnly (a.bringUp v stage) := by
  unfold Actors.bringUp
  generalize stagesTo stage = l
  induction l generalizing a with
  | nil => exact .refl a
  | cons s l ih => exact (a.zoneOnly_bringOne v s).trans (ih _)

/-! ### Changes of restart phase (R152) -/

/-- The sequencer is the same but for its SAFE wait and its stand-down timer. -/
def Actors.SeqKept (a b : Actors) : Prop :=
  b.seq = { a.seq with safeWait := b.seq.safeWait, standDown := b.seq.standDown }

theorem Actors.SeqKept.refl (a : Actors) : a.SeqKept a := rfl

theorem Actors.SeqKept.trans {a b c : Actors} (h : a.SeqKept b) (k : b.SeqKept c) : a.SeqKept c := by
  unfold Actors.SeqKept at h k ⊢
  rw [k, h]

theorem Actors.DriveOnly.seqKept {a b : Actors} (h : a.DriveOnly b) : a.SeqKept b := by
  unfold Actors.SeqKept
  rw [h.2]

/-- A change of phase ends in that phase. -/
@[simp] theorem Actors.setPhase_phase (a : Actors) (v : View) (phase : Phase) : (a.setPhase v phase).coord.phase = phase := by
  unfold Actors.setPhase
  split
  · assumption
  · rfl

/-- A change to the phase the coordinator has changes nothing. -/
theorem Actors.setPhase_same (a : Actors) (v : View) : a.setPhase v a.coord.phase = a := if_pos rfl

/-- The turn given up keeps sequencer and driver. -/
theorem Actors.withdrawClaim_seq (a : Actors) (v : View) :
    (a.withdrawClaim v).seq = a.seq ∧ (a.withdrawClaim v).drv = a.drv := by
  unfold Actors.withdrawClaim
  dsimp only
  split <;> exact ⟨rfl, rfl⟩

/-- The turn given up keeps the permit and the key-withheld mark, and leaves no claim. -/
theorem Actors.withdrawClaim_coord (a : Actors) (v : View) :
    (a.withdrawClaim v).coord = { a.coord with
      claimOutstanding := false, claimPending := false, bidWindow := none, contest := none } := by
  unfold Actors.withdrawClaim
  dsimp only
  split <;> rfl

/-- ENERGIZING left: step and hold pending are discarded, the rest of the coordinator is kept. -/
theorem Actors.leaveEnergizing_coord (a : Actors) (v : View) :
    (a.leaveEnergizing v).coord = { a.coord with step := .none, holdPending := false } := by
  unfold Actors.leaveEnergizing
  have h := (a.driveOnly_drive v (·.leaveEnergizing v.now)).1
  dsimp only
  rw [Actors.withCoord_coord, h]

/-- A change of phase keeps the sequencer but for its SAFE wait and its stand-down timer. -/
theorem Actors.seqKept_setPhase (a : Actors) (v : View) (phase : Phase) : a.SeqKept (a.setPhase v phase) := by
  unfold Actors.setPhase
  split
  · exact .refl a
  · dsimp only
    refine Actors.SeqKept.trans (b := if a.coord.phase.inTurn && phase.standsAside then a.withdrawClaim v else a) ?_ ?_
    · split
      · unfold Actors.SeqKept
        rw [(a.withdrawClaim_seq v).1]
      · exact .refl a
    · generalize (if a.coord.phase.inTurn && phase.standsAside then a.withdrawClaim v else a) = b
      refine Actors.SeqKept.trans (b := if a.coord.phase = .energizing then b.leaveEnergizing v else b) ?_ rfl
      split
      · exact (b.driveOnly_drive v _).seqKept
      · exact .refl b

/-- A change of phase keeps the permit and the key-withheld mark (R155, R156). -/
theorem Actors.setPhase_leave (a : Actors) (v : View) (phase : Phase) :
    (a.setPhase v phase).coord.permit = a.coord.permit
      ∧ (a.setPhase v phase).coord.keyWithheld = a.coord.keyWithheld := by
  unfold Actors.setPhase
  split
  · exact ⟨rfl, rfl⟩
  · dsimp only
    simp only [Actors.urgent_coord, Actors.judge_coord, Actors.withCoord_coord, Coordinator.enter_permit,
      Coordinator.enter_keyWithheld]
    split <;> split <;> simp only [Actors.leaveEnergizing_coord, Actors.withdrawClaim_coord, and_self]

/-- A change of phase outside ENERGIZING keeps the driver (R135). -/
theorem Actors.setPhase_drv (a : Actors) (v : View) (phase : Phase) (h : a.coord.phase ≠ .energizing) :
    (a.setPhase v phase).drv = a.drv := by
  unfold Actors.setPhase
  split
  · rfl
  · dsimp only
    show (if a.coord.phase.inTurn && phase.standsAside then a.withdrawClaim v else a).drv = a.drv
    split
    · exact (a.withdrawClaim_seq v).2
    · rfl

/-- Entry to QUIET_WAIT ends in it, keeping the sequencer but for its SAFE wait and its stand-down timer. -/
theorem Actors.enterQuietWait_spec (a : Actors) (v : View) :
    (a.enterQuietWait v).coord.phase = .quietWait ∧ a.SeqKept (a.enterQuietWait v) :=
  ⟨a.setPhase_phase v .quietWait, a.seqKept_setPhase v .quietWait⟩

/-- Entry to BIDDING ends in it (R158). -/
@[simp] theorem Actors.enterBidding_phase (a : Actors) (v : View) : (a.enterBidding v).coord.phase = .bidding :=
  a.setPhase_phase v .bidding

/-- Entry to AWAIT_PERMIT ends in BIDDING where the authority check holds, and in AWAIT_PERMIT otherwise (R157). -/
theorem Actors.enterAwaitPermit_phase (a : Actors) (v : View) :
    (a.enterAwaitPermit v).coord.phase = if (a.setPhase v .awaitPermit).authorityHolds v then .bidding else .awaitPermit := by
  unfold Actors.enterAwaitPermit Actors.checkAuthority
  rw [a.setPhase_phase v .awaitPermit]
  cases (a.setPhase v .awaitPermit).authorityHolds v
  · exact a.setPhase_phase v .awaitPermit
  · exact Actors.enterBidding_phase _ v

/-! ### The stage -/

/-- A stage set keeps all but the stage, the stand-down timer and the Line Unit. -/
theorem Actors.setStage_spec (a : Actors) (v : View) (stage : Stage) :
    (a.setStage v stage).seq.stage = stage ∧ (a.setStage v stage).drv = a.drv ∧ (a.setStage v stage).coord = a.coord
      ∧ (a.setStage v stage).seq = { a.seq with stage := stage, standDown := (a.setStage v stage).seq.standDown } :=
  ⟨rfl, rfl, rfl, rfl⟩

/-- A comparison under the rejoin hold makes nothing (R117). -/
theorem Actors.compare_of_hold (a : Actors) (v : View) (h : a.seq.rejoinHold = true) : a.compare v = a := if_pos h

/-- A comparison with the demand at or below the stage makes nothing (R100). -/
theorem Actors.compare_of_le (a : Actors) (v : View) (h : a.seq.demand.code ≤ a.seq.stage.code) : a.compare v = a := by
  unfold Actors.compare
  split
  · rfl
  · exact if_neg (Nat.not_lt.mpr h)

/-- T is formed from what the view offers, and is held before anything is compared (R96). -/
theorem Actors.formTarget_of_hold (a : Actors) (v : View) (h : a.seq.rejoinHold = true) :
    a.formTarget v = a.withSeq { a.seq with target := target v } := if_pos h

end Sys2Proof.Machine
end

