-- ==== Sys2Proof/Laws/Events.lean ====
section
/-! SUPPORT. What the shared event operations do to the whole station: the arbiter at an event's end, conditional events, the
port's deliveries, the Peer Table's notice, bytes on the line, directives, and the passing of a bit time. -/

namespace Sys2Proof.Machine

/-! ### The frame of an event -/

/-- The end of an event touches the acting blocks alone. -/
theorem State.endEvent_eq (s old : State) : s.endEvent old = { s with act := (s.endEvent old).act } := by
  unfold State.endEvent
  split <;> rfl

/-- An event that leaves the pulse queue and the gap alone ends without the arbiter. -/
theorem State.endEvent_of_calm (s old : State) (hq : s.act.drv.pulseQueue = old.act.drv.pulseQueue)
    (hg : s.act.drv.gap = old.act.drv.gap) : s.endEvent old = s := by
  unfold State.endEvent arbiterStirred
  rw [hq, hg]
  simp

/-- An event that empties or leaves empty the pulse queue ends without a pulse. -/
theorem State.endEvent_of_empty (s old : State) (h : s.act.drv.pulseQueue = []) : s.endEvent old = s := by
  unfold State.endEvent
  split
  · show { s with act := s.act.serve s.view } = s
    rw [Actors.serve_of_empty _ _ h]
  · rfl

/-- An event is what it does, then the arbiter. -/
theorem State.event_of_calm (s : State) (f : State → State) (hq : (f s).act.drv.pulseQueue = s.act.drv.pulseQueue)
    (hg : (f s).act.drv.gap = s.act.drv.gap) : s.event f = f s := State.endEvent_of_calm _ _ hq hg

/-- An event that keeps the driver ends without the arbiter. -/
theorem State.event_of_drv (s : State) (f : State → State) (h : (f s).act.drv = s.act.drv) : s.event f = f s :=
  s.event_of_calm f (by rw [h]) (by rw [h])

/-- What an event does to the blocks other than the acting ones is what its operation does. -/
theorem State.event_other (s : State) (f : State → State) :
    s.event f = { f s with act := (s.event f).act } := (f s).endEvent_eq s

@[simp] theorem State.eventWhen_false (s : State) (f : State → State) : s.eventWhen false f = s := rfl
@[simp] theorem State.eventWhen_true (s : State) (f : State → State) : s.eventWhen true f = s.event f := rfl

/-- A conditional event whose condition fails changes nothing. -/
theorem State.eventWhen_of_not (s : State) {occurs : Bool} (f : State → State) (h : occurs = false) :
    s.eventWhen occurs f = s := by
  rw [h, State.eventWhen_false]

/-! ### Deliveries (R4) -/

@[simp] theorem State.fromPort_nil (s : State) (p : Port) : s.fromPort (p, []) = { s with port := p } := rfl

theorem State.fromPort_cons (s : State) (p : Port) (d : Delivery) (ds : List Delivery) :
    s.fromPort (p, d :: ds) = ds.foldl State.deliver (State.deliver { s with port := p } d) := rfl

/-- A delivery touches the assessor and the acting blocks alone. -/
theorem State.deliver_eq (s : State) (d : Delivery) :
    s.deliver d = { s with assessor := s.assessor.take (profileOf s.straps) d, act := (s.deliver d).act } := rfl

/-- A run of deliveries: the assessor takes them one after another. -/
theorem State.delivers_eq (s : State) (ds : List Delivery) :
    ds.foldl State.deliver s = { s with
      assessor := ds.foldl (fun a d => a.take (profileOf s.straps) d) s.assessor
      act := (ds.foldl State.deliver s).act } := by
  induction ds generalizing s with
  | nil => rfl
  | cons d ds ih =>
    rw [List.foldl_cons, ih (s.deliver d)]
    rfl

/-- The port's answer touches port, assessor and acting blocks alone. -/
theorem State.fromPort_eq (s : State) (r : Port × List Delivery) :
    s.fromPort r = { s with
      port := r.1
      assessor := r.2.foldl (fun a d => a.take (profileOf s.straps) d) s.assessor
      act := (s.fromPort r).act } := State.delivers_eq { s with port := r.1 } r.2

/-! ### The Peer Table (R86) -/

/-- A record changed touches the table and the acting blocks alone. -/
theorem State.withRecord_eq (s : State) (n : Nat) (r : PeerRecord) :
    s.withRecord n r = { s with peers := s.peers.set n r, act := (s.withRecord n r).act } := rfl

/-- An expiry touches the table and the acting blocks alone. -/
theorem State.expirePeer_eq (s : State) (peer : BitVec 5) (due : PeerRecord → Bool) (f : PeerRecord → PeerRecord) :
    s.expirePeer peer due f = { s with
      peers := (s.expirePeer peer due f).peers, act := (s.expirePeer peer due f).act } := by
  unfold State.expirePeer
  split
  · split <;> rfl
  · rfl

/-- An expiry of the own number changes nothing (R71). -/
theorem State.expirePeer_own (s : State) (due : PeerRecord → Bool) (f : PeerRecord → PeerRecord) :
    s.expirePeer s.straps.stn due f = s := by
  unfold State.expirePeer State.peerRecord
  rw [if_pos rfl]

/-- The record just written is read back. -/
theorem recordOf_set_self (peers : List PeerRecord) (n : Nat) (r : PeerRecord) (h : n < peers.length) :
    recordOf (peers.set n r) n = r := by
  unfold recordOf
  rw [List.getElem?_set_self h]

/-- Every other record is read as before. -/
theorem recordOf_set_of_ne (peers : List PeerRecord) {n m : Nat} (r : PeerRecord) (h : n ≠ m) :
    recordOf (peers.set n r) m = recordOf peers m := by
  unfold recordOf
  rw [List.getElem?_set_ne h]

/-! ### Bytes on the line (R50, R53) -/

/-- Bytes that complete nothing touch the Line Unit alone. -/
theorem State.hearLine_of_pending (s : State) (bytes : List RxByte) (startBit : Bool)
    (h : (receiveBytes s.act.line.receiver s.act.line.rxBuf bytes).verdict = .pending) :
    s.hearLine bytes startBit = { s with act := { s.act with line := (s.hearLine bytes startBit).act.line } } := by
  unfold State.hearLine
  dsimp only
  rw [h]
  rfl

/-- A discard touches the Line Unit alone. -/
theorem State.hearLine_of_discarded (s : State) (bytes : List RxByte) (startBit : Bool) (d : Discard)
    (h : (receiveBytes s.act.line.receiver s.act.line.rxBuf bytes).verdict = .discarded d) :
    s.hearLine bytes startBit = { s with act := { s.act with line := (s.hearLine bytes startBit).act.line } } := by
  unfold State.hearLine
  dsimp only
  rw [h]
  rfl

/-- A receiver in SKIP makes nothing of any bytes. -/
theorem receiveBytes_skip (buf : List Byte) (bytes : List RxByte) :
    (receiveBytes .skip buf bytes).verdict = .pending ∧ (receiveBytes .skip buf bytes).receiver = .skip := by
  induction bytes generalizing buf with
  | nil => exact ⟨rfl, rfl⟩
  | cons b bs ih => exact ih []

/-! ### Directives (R185) -/

/-- A directive recorded touches the record and the Line Unit alone. -/
theorem State.recordDirective_eq (s : State) (sender : Byte) (kind : DirectiveKind) (result : DirectiveResult) :
    s.recordDirective sender kind result = { s with
      directive := ⟨some kind, some result, BitVec.ofNat 2 (sender.toNat - 32)⟩
      act := { s.act with line := s.act.line.urgent s.clock } } := rfl

/-- A directive for another station is disregarded. -/
theorem State.takeDirective_other (s : State) (sender target argument : Byte) (kind : DirectiveKind)
    (h : ¬ (target = s.sender ∨ target = 63)) : s.takeDirective sender target kind argument = s := if_neg h

/-! ### The scan chain's pins -/

/-- CSL is low exactly as a scan has begun (R140). -/
@[simp] theorem Scanner.csl_eq (sc : Scanner) : sc.csl = !sc.scanning := by
  cases h : sc.scanning <;> simp [Scanner.csl, Scanner.chainPins, h, ChainPins.load, ChainPins.rest]

/-- CSK is low as every event leaves it (R140). -/
@[simp] theorem Scanner.csk_eq (sc : Scanner) : sc.csk = false := by
  cases h : sc.scanning <;> simp [Scanner.csk, Scanner.chainPins, h, ChainPins.load, ChainPins.rest]

/-! ### The byte under way -/

/-- A receiver in SKIP ignores a start bit (R50, R52). -/
@[simp] theorem LineUnit.withReception_skip (l : LineUnit) (buf : List Byte) (v : Verdict) (heard startBit : Bool) :
    (l.withReception ⟨.skip, buf, v⟩ heard startBit).inByte = false := by simp [LineUnit.withReception]

/-- With no start bit after them, bytes that have ended leave no byte under way (R52). -/
@[simp] theorem LineUnit.withReception_heard (l : LineUnit) (r : Reception) :
    (l.withReception r true false).inByte = false := by simp [LineUnit.withReception]

/-- While a byte is under way the gap stands still (R52). -/
theorem LineUnit.tick_gapBits_of_inByte (l : LineUnit) (h : l.inByte) : l.tick.gapBits = l.gapBits := by
  simp [LineUnit.tick, h]

/-! ### Time -/

/-- A bit time touches the clock, the bit phase and the Line Unit alone. -/
theorem State.tick_eq (s : State) :
    s.tick = { s with clock := s.tick.clock, bitPhase := s.tick.bitPhase, act := { s.act with line := s.act.line.tick } } := by
  unfold State.tick
  dsimp only
  split <;> rfl

end Sys2Proof.Machine
end

