-- ==== Sys2Proof/Tests/Slice0.lean ====
section
/-! SUPPORT. Tests: the spec's own worked numbers, one check per well-formedness test, and for each statement of
Certificates/Slice0/Obligations.lean a witness that its hypotheses can be met, clause by clause. -/

namespace Sys2Proof.Tests

set_option Elab.async false

open Sys2Proof Sys2Proof.Machine

/-! ### States to start from -/

/-- The clock of the test states. -/
def now : Stamp := 5000000

/-- A stamp some milliseconds before the test states' clock. -/
def ago (ms : Nat) : Stamp := now - BitVec.ofNat 32 ms

/-- A sample at rest. -/
def still : Sample := ⟨0, 0, 1000, false⟩

/-- The frame bits of a sound frame with a sequence number and the counts of a sample. -/
def frameOf (seq : Byte) (c : Sample) : List Bool :=
  wordBits (seq ++ (0 : Byte)) ++ wordBits c.x ++ wordBits c.y ++ wordBits c.z

/-- A station that has been running at WATCH in CALM: both PDUs closed, line IDLE, receiver READY, nothing queued. -/
def calm : State where
  pending := []
  clock := now
  bitPhase := 0
  straps := ⟨9, 0, 1, 1⟩
  port := { Port.reset false with
    status := .tracking, lastSeq := some 7, lastGood := some still, identical := 1, frameTimer := some (ago 5) }
  assessor := { Assessor.reset with
    detector := .calm, awaitingSeed := false, captureCount := 1024, base := ⟨0, 0, 256000⟩ }
  peers := List.replicate 32 .never
  duplicate := false
  scanner := { Scanner.reset with
    inputs := List.replicate 2 ⟨.active, none, 0⟩ ++ List.replicate 14 ⟨.inactive, none, 0⟩
    known := true, timer := ago 10, scanning := true }
  directive := .reset
  startup := ⟨.running, none, true⟩
  act :=
    { line := { LineUnit.reset with
        condition := .idle, receiver := .ready, queue := [], quietBits := 24, heartbeat := some (ago 1000), fast := false }
      seq := { Sequencer.reset with rejoinHold := false }
      drv := .reset
      coord := { Coordinator.reset with phase := .none } }

/-- The port changed. -/
def onPort (s : State) (f : Port → Port) : State := { s with port := f s.port }

/-- The assessor changed. -/
def onAssessor (s : State) (f : Assessor → Assessor) : State := { s with assessor := f s.assessor }

/-- The scanner changed. -/
def onScanner (s : State) (f : Scanner → Scanner) : State := { s with scanner := f s.scanner }

/-- The Line Unit changed. -/
def onLine (s : State) (f : LineUnit → LineUnit) : State := { s with act := { s.act with line := f s.act.line } }

/-- The sequencer changed. -/
def onSeq (s : State) (f : Sequencer → Sequencer) : State := { s with act := { s.act with seq := f s.act.seq } }

/-- The driver changed. -/
def onDrv (s : State) (f : Driver → Driver) : State := { s with act := { s.act with drv := f s.act.drv } }

/-- The coordinator changed. -/
def onCoord (s : State) (f : Coordinator → Coordinator) : State := { s with act := { s.act with coord := f s.act.coord } }

/-- An input's debounced value set. -/
def input (s : State) (i : Nat) (value : InputValue) : State :=
  onScanner s fun sc => { sc with inputs := sc.inputs.set i ⟨value, none, 0⟩ }

/-- A peer's record set. -/
def peer (s : State) (n : Nat) (r : PeerRecord) : State := { s with peers := s.peers.set n r }

/-- A record heard some milliseconds ago, in restart group 0, with no part and no report. -/
def heardPeer (liveness : Liveness) (ms : Nat) : PeerRecord :=
  ⟨liveness, some (ago ms), some 0, none, none, none, none, false⟩

/-- A LIVE record in an event of grade 2 whose onset estimate lies 3000 ms after the onset of `shaken`, at SAFE. -/
def ablePeer : PeerRecord :=
  { heardPeer .live 100 with
    report := some ⟨.event, some 2, .safe, .none⟩, event := some ⟨1, now + 1500⟩ }

/-- The station in a restart phase at a stage, the claim and the windows as the phase has them, every timer of the phase due. -/
def turn (phase : Phase) (stage : Stage) : State :=
  onSeq (onLine (onCoord calm fun c => { c with
    phase := phase
    claimOutstanding := phase = .contest || phase = .energizing
    contest := if phase = .contest then some now else none
    bidWindow := if phase = .bidding then some now else none
    stagger := if phase = .backoff then some now else none
    quietStart := if phase = .quietWait then some (ago 600000) else none }) fun l => { l with fast := true }) fun q =>
      { q with stage := stage, grace := if 3 ≤ stage.code then .ended else .none }

/-- The station just past reset, in CAPTURE under the rejoin hold, with its rejoin window due. -/
def listening : State := { State.reset with clock := 3000 }

/-- A state sends its head, an entry of a kind, whose last bit is sent. -/
def sending (s : State) (e : TxEntry) (deferred : Option RestartKind) : State :=
  onLine s fun l => { l with
    condition := .busy, receiver := .skip, queue := [e], sending := true, txBytes := [0x5A], txBits := 10, deferred := deferred }

/-- A state in which entries wait on an IDLE line, with an idle count. -/
def awaiting (s : State) (queue : List TxEntry) (idle : Nat) : State :=
  onLine s fun l => { l with queue := queue, idleCount := some idle }

/-- The parts of State.Sound, judged one by one. -/
def soundParts (s : State) : Bool :=
  decide s.port.Sound && (decide s.assessor.Sound && (decide s.act.line.Sound && (decide s.act.line.ReceiverSound
    && (decide s.PeersSound && (decide s.scanner.Sound && (decide s.act.drv.PulseSound && (decide s.act.drv.RecordsSound
    && (decide s.act.CloseSound && (decide s.act.RestSound && (decide s.act.coord.Sound && (decide s.act.StageSound
    && (decide s.JudgedSound && (decide s.SensorSound && decide s.StartupSound)))))))))))))

/-- A state whose parts are sound is sound. -/
theorem sound_of_parts {s : State} (h : soundParts s = true) : s.Sound := by
  simp only [soundParts, Bool.and_eq_true, decide_eq_true_eq] at h
  exact h

/-- What a command makes of a state. -/
def after (c : Instr) (s : State) : State :=
  match exec c s with
  | .next t => t
  | .fault _ | .refused _ => s

/-- What a step makes of a state. -/
def stepped (s : State) : State :=
  match step s with
  | .next t => t
  | .fault _ | .refused _ => s

/-- A STATE payload of a station at rest in restart group 1. -/
def restPayload : Vector Byte 12 := #v[0x01, 0x00, 0, 0, 0, 0x01, 0x01, 0, 0, 0, 0, 0]

/-- A station in an event of grade 6, its onset 1500 ms ago, its T not yet formed. -/
def shaken : State :=
  onAssessor calm fun a => { a with detector := .event, event := ⟨1, some (ago 1500), 3277, 6, false⟩ }

/-- A station at ALERT in CALM whose stand-down timer has run some milliseconds. -/
def alertDown (ms : Nat) : State :=
  onSeq (onLine calm fun l => { l with fast := true }) fun q => { q with stage := .alert, standDown := some (ago ms) }

/-- A station with one sound frame waiting to end. -/
def oneFrame : State := { calm with pending := [.frameEnd (frameOf 8 still)] }

/-! ### Numbers and cases worked in the spec -/

/-- R47: the check value of the CRC over the nine digits. -/
theorem test_crc_check_value : crc16 [0x31, 0x32, 0x33, 0x34, 0x35, 0x36, 0x37, 0x38, 0x39] = 0x29B1 := by decide +kernel

/-- The backoff table under R63: stations 3, 12 and 31. -/
theorem test_backoff_slots :
    [3, 12, 31].map (fun i => [1, 2, 3, 8, 9].map (backoffSlots i)) =
      [[4, 9, 14, 39, 4], [13, 18, 23, 8, 13], [32, 37, 2, 27, 32]] := by
  decide +kernel

/-- 01 section 1.9, stamp 100020: frame 41 after frame 38 brings two held samples, then the received one. -/
theorem test_frame_end_short_gap :
    (({ calm.port with lastSeq := some 38, lastGood := some ⟨13, -4, 8191, false⟩ }).frameEnd 100020
        (frameOf 41 ⟨15, -2, 8190, false⟩)).2 =
      [.sample ⟨13, -4, 8191, false⟩ 100010 true, .sample ⟨13, -4, 8191, false⟩ 100015 true,
        .sample ⟨15, -2, 8190, false⟩ 100020 false] := by
  decide +kernel

/-- 01 section 1.9, stamp 101410: the 200th good frame restores the sensor. -/
theorem test_frame_end_restores :
    (({ calm.port with status := .lost, recovery := 199, lastSeq := some 52 }).frameEnd 101410
        (frameOf 53 ⟨15, -2, 8190, false⟩)).2 =
      [.restoration, .sample ⟨15, -2, 8190, false⟩ 101410 false] := by
  decide +kernel

/-- 01 section 1.9, stamp 100055: a silent converter is LOST 25 ms after its last frame. -/
theorem test_frame_timer_expiry :
    (after .frameTimerExpiry (onPort calm fun p => { p with frameTimer := some (ago 25) })).port.status = .lost := by
  decide +kernel

/-- The assessor of 02 section 2.12 before its first sample. -/
def hum : Assessor := { calm.assessor with
  base := ⟨0, 0, 2097152⟩, short := 160, long := 160, event := ⟨6, none, 0, 0, false⟩ }

/-- 02 section 2.12, the first sample: S, L, baselines, run. -/
theorem test_sample_opens_run :
    hum.sample (profileRow 0) ⟨300, -120, 8400, false⟩ 200000 = { hum with
      short := 1008, long := 173, base := ⟨75, -30, 2097204⟩
      qualifying := 1, runOnset := some 200000, runPeak := 434 } := by
  decide +kernel

/-- 02 section 2.12, all five samples: event 7 opens at the fourth with onset 200000, and the fifth raises it to grade 4. -/
theorem test_samples_open_event :
    ((((hum.sample (profileRow 0) ⟨300, -120, 8400, false⟩ 200000).sample (profileRow 0) ⟨320, -100, 8450, false⟩ 200005).sample
        (profileRow 0) ⟨280, -140, 8380, false⟩ 200010).sample (profileRow 0) ⟨350, -90, 8500, false⟩ 200015).sample
        (profileRow 0) ⟨600, -80, 8900, false⟩ 200020 = { hum with
      detector := .event, short := 4821, long := 215, base := ⟨310, -113, 2097390⟩
      event := ⟨7, some 200000, 1026, 4, false⟩ } := by
  decide +kernel

/-- 03 section 3.10: a CLAIM goes ahead of a routine STATE. -/
theorem test_claim_ahead_of_routine :
    ((awaiting calm [.new (.state false)] 0).act.line.request now .claim).queue =
      [.new (.restart .claim), .new (.state false)] := by
  decide +kernel

/-- 03 section 3.10: an urgent notice moves the STATE to the head, and a YIELD takes the unsent CLAIM away. -/
theorem test_urgent_then_yield :
    (((awaiting calm [.new (.restart .claim), .new (.state false)] 0).act.line.urgent now).request now .yield).queue =
      [.new (.state true)] := by
  decide +kernel

/-- 03 section 3.9: station 7's routine STATE waits two slots, 256 us, which are 64 bit times. -/
theorem test_transmission_start_class_gap :
    (after .transmissionStart (awaiting calm [.new (.state false)] 63)).act.line.sending = false
      ∧ (after .transmissionStart (awaiting calm [.new (.state false)] 64)).act.line.sending := by
  decide +kernel

/-- 03 section 3.9: a collided entry stays at the head with one collision. After the last stop bit the transmission is complete,
and there is none to abort (R62). -/
theorem test_collision_counts :
    let s := sending calm (.new (.state true)) none
    (after .collision (onLine s fun l => { l with txBits := 9 })).act.line.queue = [⟨.state true, 1, false⟩]
      ∧ after .collision s = s := by
  decide +kernel

/-- R48: the first two payload bytes carry grade, detector, phase and stage as nibbles. -/
theorem test_state_payload_nibbles :
    (onSeq (onCoord shaken fun c => { c with phase := .quietWait }) fun q => { q with stage := .quiesce }).stateContent.encode.take 2
      = [0x62, 0x12] := by
  decide +kernel

/-- 04 section 4.6: across the clock's wrap the modular distance is 2496 ms. -/
theorem test_distance_over_the_wrap : distance 4294966000 1200 = 2496 := by decide +kernel

/-- 04 section 4.6: event 12 with age 250 at 499650 has the estimate 499400, kept when the next age differs by one. -/
theorem test_state_telegram_estimate :
    let p := { calm.stateContent with detector := .event, grade := some 3, eventNumber := 12, onsetAge := 250 }
    let r := (PeerRecord.never.hear 499650 0).takeState 499650 p
    r.event = some ⟨12, 499400⟩
      ∧ ((r.hear 499751 0).takeState 499751 { p with onsetAge := 350 }).event = some ⟨12, 499400⟩ := by
  decide +kernel

/-- 04 section 4.7, 05 sections 5.9, 5.11 and 5.12: the need at q = 3 for A = 3 to 9. -/
theorem test_need_at_three_eighths :
    [3, 4, 5, 6, 7, 8, 9].map (fun a => needOf a 3) = [2, 2, 2, 3, 3, 3, 4] := by decide +kernel

/-- A live record with a report and an event part. -/
def reporting (detector : Detector) (grade : Option Grade) (stage : Stage) (phase : Phase) (event : Option EventPart) :
    PeerRecord :=
  { heardPeer .live 100 with report := some ⟨detector, grade, stage, phase⟩, event := event }

/-- 04 section 4.7 at 501000: A = 7 and C = 3 over the own onset 500000 and W = 3000. -/
theorem test_able_and_concurrence :
    let table := [ reporting .event (some 4) .watch .none (some ⟨12, 499400⟩),
      reporting .settling (some 2) .watch .none (some ⟨5, 497200⟩), reporting .event (some 1) .watch .none (some ⟨9, 500300⟩),
      reporting .calm (some 0) .watch .none none, reporting .event (some 3) .watch .none (some ⟨40, 503600⟩),
      { reporting .event (some 5) .watch .none (some ⟨3, 500100⟩) with liveness := .quiet },
      reporting .blind none .watch .none none, reporting .event (some 6) .watch .none none,
      reporting .capture none .watch .none none, heardPeer .lost 20000,
      reporting .event (some 5) .watch .none (some ⟨7, 501900⟩) ]
    ableCount table = 7 ∧ concurrence table (some 500000) 3000 = 3 := by
  decide +kernel

/-- 05 section 5.10: at the solo delay's end, grade 5 and profile 3 raise a lone station to ISOLATE. -/
theorem test_solo_delay_expiry :
    let s := { onSeq (onAssessor calm fun a => { a with detector := .event, event := ⟨1, some (ago 1500), 2000, 5, false⟩ })
      fun q => { q with solo := some now } with straps := ⟨30, 3, 0, 0⟩ }
    (after .soloDelayExpiry s).act.seq.stage = .isolate
      ∧ (after .soloDelayExpiry s).act.seq.grace = .running (now + 30000) := by
  decide +kernel

/-- 05 section 5.11: a blind station follows its five able peers to ISOLATE. -/
theorem test_blind_following :
    let s := onAssessor calm fun a => { a with detector := .blind }
    let peers := [Stage.safe, .isolate, .isolate, .alert, .watch].map fun g => reporting .calm (some 0) g .none none
    target { s.view with peers := peers } = .isolate := by
  decide +kernel

/-- 06 section 6.10, time 0: the grace ends, TRIP-A fires and TRIP-B is queued. -/
theorem test_grace_expiry_fires_trip_a :
    let t := after .graceExpiry (onSeq (turn .none .safe) fun q => { q with grace := .running now, safeWait := true })
    t.act.drv.tripA.state = .firing ∧ t.act.drv.tripB.state = .queued ∧ t.act.drv.outputs = 0x010 := by
  decide +kernel

/-- 06 section 6.10, times 200 and 450: the pulse ends in CHECKING with the gap begun; at its end TRIP-B fires. -/
theorem test_pulse_and_gap :
    let s := onDrv (turn .none .safe) fun d => { d with
      tripA := ⟨.firing, some .first, some (ago 200), none, false, false⟩
      tripB := ⟨.queued, some .first, none, none, false, false⟩, pulseQueue := [.trip .b] }
    let t := after (.pulseTimerExpiry (.trip .a)) s
    t.act.drv.tripA.state = .checking ∧ t.act.drv.outputs = 0
      ∧ (after .pulseGapExpiry { t with clock := now + 250 }).act.drv.tripB.state = .firing := by
  decide +kernel

/-- 06 section 6.10, time 1130: with both trips SPENT the SAFE wait is over and VALVE and COOLSTOP pull in. -/
theorem test_last_trip_asserts_safe :
    let s := onScanner (onSeq (onDrv (turn .none .safe) fun d => { d with
      tripA := ⟨.checking, some .second, none, some (ago 30), false, false⟩
      tripB := ⟨.spent, none, none, none, false, false⟩ }) fun q => { q with safeWait := true })
        fun sc => { sc with inputs := sc.inputs.set 0 ⟨.active, some false, 2⟩ }
    let t := after (.scanCompletion 0x2D0002) s
    t.act.drv.tripA.state = .spent ∧ t.act.seq.safeWait = false ∧ t.act.drv.valve.state = .pullIn
      ∧ t.act.drv.hdr = false := by
  decide +kernel

/-- 07 section 7.9 at 2030: the third bad scan ends TRIP-B's check as SPENT, unconfirmed. -/
theorem test_third_bad_scan :
    let s := onScanner (onDrv (turn .none .isolate) fun d => { d with
      tripB := ⟨.checking, some .first, none, some (ago 30), false, false⟩ }) fun sc => { sc with badScans := 2 }
    let t := after (.scanCompletion 0) s
    t.scanner.fault ∧ t.act.drv.tripB = ⟨.spent, none, none, none, true, false⟩ := by
  decide +kernel

/-- 07 section 7.9 at 2080: the fault ends with input 1 INACTIVE, and TRIP-B is confirmed. -/
theorem test_third_good_scan_ends_fault :
    let s := onScanner (onDrv (turn .none .isolate) fun d => { d with
      tripB := ⟨.spent, none, none, none, true, false⟩ }) fun sc => { sc with
        badScans := 3, fault := true, recovery := 2, inputs := sc.inputs.set 1 ⟨.active, some false, 2⟩ }
    let t := after (.scanCompletion 0x2D0001) s
    t.scanner.fault = false ∧ t.scanner.value 1 = .inactive ∧ t.act.drv.tripB = ⟨.spent, none, none, none, false, false⟩ := by
  decide +kernel

/-- 08 section 8.11 at 2007.1: station 12 in CONTEST hears the CLAIM of station 5 and stands aside, awaiting. -/
theorem test_lower_claim_yields :
    let s := { turn .contest .isolate with straps := ⟨12, 0, 0, 0⟩ }
    let t := after (.claimTelegram 5 0) s
    t.act.coord.phase = .backoff ∧ t.act.coord.stagger = none ∧ t.act.line.restartAsked .yield := by
  decide +kernel

/-- 08 section 8.11 at 19711.0: the claim gone, station 12 staggers 1000 ms and station 3 of group 1 staggers 750 ms. -/
theorem test_stagger_lengths : staggerOf (restartKey 0 12) = 1000 ∧ staggerOf (restartKey 1 3) = 750 := by decide +kernel

/-- 08 section 8.12 at 60 s: VALVE's release fails, the energizing stops and the stage stays SAFE. -/
theorem test_valve_release_fails :
    let s := onCoord (onDrv (turn .energizing .safe) fun d => { d with
      valve := ⟨.releasing, none, some (ago 60000), false, false⟩
      tripA := ⟨.spent, none, none, none, false, false⟩, tripB := ⟨.spent, none, none, none, false, false⟩ })
        fun c => { c with step := .a true false, permit := true }
    let t := after (.holdWindowExpiry .valve) s
    t.act.drv.valve = ⟨.failed false, none, none, false, true⟩ ∧ t.act.coord.phase = .awaitPermit
      ∧ t.act.coord.permit = false ∧ t.act.seq.stage = .safe ∧ t.stateContent.failed = 0x040 := by
  decide +kernel

/-- 09 section 9.6 at 3000: station 9 adopts ISOLATE, finds its trips SPENT, and waits in QUIET_WAIT with T at QUIESCE. -/
theorem test_rejoin_adopts_isolate :
    let s := { onScanner listening fun _ => { calm.scanner with inputs := List.replicate 16 ⟨.inactive, none, 0⟩ } with
      straps := ⟨9, 0, 1, 0⟩
      peers := List.replicate 8 .never ++ [ reporting .calm (some 0) .safe .quietWait none, .never,
        reporting .settling (some 3) .isolate .quietWait none, reporting .calm (some 0) .quiesce .quietWait none,
        reporting .calm (some 0) .alert .none none, reporting .calm (some 0) .watch .none none,
        reporting .blind none .safe .quietWait none, reporting .capture none .watch .rejoin none,
        reporting .calm (some 0) .watch .none none ] ++ List.replicate 15 .never }
    let t := after .rejoinWindowExpiry s
    t.act.seq.stage = .isolate ∧ t.act.seq.grace = .ended ∧ t.act.coord.phase = .quietWait
      ∧ t.act.drv.tripA.state = .spent ∧ t.act.drv.outputs = 0x00F ∧ target t.view = .quiesce := by
  decide +kernel

/-- Station 9 at ISOLATE in AWAIT_PERMIT (10 section 10.3). -/
def standing : State := turn .awaitPermit .isolate

/-- 10 section 10.3: TEST at ISOLATE is wrong state, ACK_RESET clears reset-seen, MUTE to all is a bad argument. -/
theorem test_directives_judged :
    (after (.test 33 9 0) standing).directive = ⟨some .test, some .wrongState, 1⟩
      ∧ (after (.ackReset 33 9 0) standing).startup.resetSeen = false
      ∧ (after (.mute 33 63 30) standing).directive = ⟨some .mute, some .badArgument, 1⟩ := by
  decide +kernel

/-- 10 section 10.3: RESUME leads to BIDDING with the permit held, HOLD back to AWAIT_PERMIT without it. -/
theorem test_resume_then_hold :
    let t := after (.resume 33 9 0) standing
    t.act.coord.phase = .bidding ∧ t.act.coord.permit
      ∧ (after (.hold 33 9 0) (onLine t fun l => { l with receiver := .ready })).act.coord.phase = .awaitPermit := by
  decide +kernel

/-- A receiver in ASSEMBLE whose gap has run 30 bit times. -/
def gapRun : State :=
  onLine calm fun l => { l with condition := .busy, receiver := .assemble, rxBuf := [0x5A], gapBits := 30 }

/-- R52: 30 bit times with no start bit tear a telegram, and a start bit within them stops the gap. -/
theorem test_start_bit_stops_the_gap :
    (after .telegramTorn gapRun).act.line.errors = 1
      ∧ (after .telegramTorn (after (.lineBusy ⟨[], true⟩) gapRun)).act.line.receiver = .assemble := by
  decide +kernel

/-! ### Well-formedness, one ill-formed command per check -/

/-- A STATE of a console, and a STATE whose detector code is 5. -/
theorem test_refuses_state_operands :
    (Instr.stateTelegram 32 restPayload).wellFormed = false
      ∧ (Instr.stateTelegram 31 #v[0x05, 0, 0, 0, 0, 0, 0, 0, 0, 0, 0, 0]).wellFormed = false
      ∧ (Instr.stateTelegram 31 restPayload).wellFormed := by
  decide +kernel

/-- A restart group above 3, and a restart telegram of a console. -/
theorem test_refuses_restart_operands :
    (Instr.bidTelegram 31 4).wellFormed = false ∧ (Instr.doneTelegram 32 0).wellFormed = false
      ∧ (Instr.claimTelegram 31 3).wellFormed := by
  decide +kernel

/-- A directive of a station, of a sender above 35, and to target 32. -/
theorem test_refuses_directive_operands :
    (Instr.resume 31 9 0).wellFormed = false ∧ (Instr.hold 36 9 0).wellFormed = false
      ∧ (Instr.trip 35 32 4).wellFormed = false ∧ (Instr.mute 35 63 0).wellFormed := by
  decide +kernel

/-- A discard that discards nothing, and a busy line that completes a telegram's end. -/
theorem test_refuses_line_operands :
    (Instr.telegramDiscarded [⟨0x5A, true⟩]).wellFormed = false ∧ (Instr.lineBusy ⟨[⟨0x5B, true⟩], false⟩).wellFormed = false
      ∧ (Instr.telegramDiscarded [⟨0x5A, false⟩]).wellFormed ∧ (Instr.lineBusy ⟨[⟨0x5A, true⟩, ⟨35, true⟩], true⟩).wellFormed := by
  decide +kernel

/-- No word spells a command. -/
theorem test_no_word_is_a_command : decodeTableWord 16 0 = none := rfl

/-! ### The hypotheses of the statements can be met -/

/-- States and operands that meet the hypotheses of EmptyQueuePassesOneBitTime, clause by clause. -/
theorem witness_EmptyQueuePassesOneBitTime :
    ∃ (s : State),
      s.pending = [] :=
  ⟨calm, by decide +kernel⟩

/-- States and operands that meet the hypotheses of FrameBitsReadBack, clause by clause. -/
theorem witness_FrameBitsReadBack :
    ∃ (bits : List Bool),
      bits.length ≠ 64 :=
  ⟨List.replicate 63 true, by decide +kernel⟩

/-- States and operands that meet the hypotheses of FrameEndInSequence, clause by clause. -/
theorem witness_FrameEndInSequence :
    (∃ (s : State) (bits : List Bool) (f : Frame) (n : Byte) (g : Sample),
      s.port.awaitLow = false
      ∧ (s.port.clockFrame bits).soundFrame? = some f
      ∧ s.port.status = .tracking
      ∧ s.port.recovery = 0
      ∧ s.port.lastSeq = some n
      ∧ s.port.lastGood = some g
      ∧ 1 ≤ (f.seq - n).toNat
      ∧ (f.seq - n).toNat ≤ 4
      ∧ ((if g.x = f.counts.x ∧ g.y = f.counts.y ∧ g.z = f.counts.z then s.port.identical + 1 else 1) < 2048))
    ∧ (∃ (s : State) (bits : List Bool) (f : Frame),
      s.port.awaitLow = false
      ∧ (s.port.clockFrame bits).soundFrame? = some f
      ∧ s.port.status = .start
      ∧ s.port.Sound)
    ∧ (∃ (s : State) (bits : List Bool) (f : Frame) (n : Byte) (g : Sample),
      s.port.awaitLow = false
      ∧ (s.port.clockFrame bits).soundFrame? = some f
      ∧ s.port.status = .tracking
      ∧ s.port.recovery = 0
      ∧ s.port.lastSeq = some n
      ∧ s.port.lastGood = some g
      ∧ 1 ≤ (f.seq - n).toNat
      ∧ (f.seq - n).toNat ≤ 4
      ∧ ((if g.x = f.counts.x ∧ g.y = f.counts.y ∧ g.z = f.counts.z then s.port.identical + 1 else 1) < 2048)
      ∧ s.act.line.Sound
      ∧ s.act.coord.Sound
      ∧ s.act.StageSound)
    ∧ (∃ (s : State) (bits : List Bool) (f : Frame) (n : Byte) (g : Sample),
      s.port.awaitLow = false
      ∧ (s.port.clockFrame bits).soundFrame? = some f
      ∧ s.port.status = .tracking
      ∧ s.port.recovery = 0
      ∧ s.port.lastSeq = some n
      ∧ s.port.lastGood = some g
      ∧ 1 ≤ (f.seq - n).toNat
      ∧ (f.seq - n).toNat ≤ 4
      ∧ ((if g.x = f.counts.x ∧ g.y = f.counts.y ∧ g.z = f.counts.z then s.port.identical + 1 else 1) < 2048)
      ∧ s.act.line.Sound
      ∧ s.act.coord.Sound
      ∧ s.act.StageSound)
    ∧ (∃ (s : State) (bits : List Bool) (f : Frame),
      s.port.awaitLow = false
      ∧ (s.port.clockFrame bits).soundFrame? = some f
      ∧ s.port.status = .start
      ∧ s.port.Sound
      ∧ s.act.line.Sound
      ∧ s.act.coord.Sound
      ∧ s.act.StageSound) :=
  ⟨⟨onPort calm fun p => { p with identical := 2046 }, frameOf 11 still, ⟨11, still⟩, 7, still,
      by and_intros <;> decide +kernel⟩,
    ⟨onPort calm fun _ => .reset false, frameOf 0 still, ⟨0, still⟩, by and_intros <;> decide +kernel⟩,
    ⟨onAssessor (turn .contest .quiesce) fun a => { a with qualifying := 3, runOnset := some (ago 10) },
      frameOf 8 ⟨0, 0, 0x7FFF, true⟩, ⟨8, ⟨0, 0, 0x7FFF, true⟩⟩, 7, still, by and_intros <;> decide +kernel⟩,
    ⟨onAssessor (turn .quietWait .quiesce) fun a => { a with detector := .settling, settling := 1999 },
      frameOf 11 still, ⟨11, still⟩, 7, still, by and_intros <;> decide +kernel⟩,
    ⟨onPort calm fun _ => .reset false, frameOf 0 still, ⟨0, still⟩, by and_intros <;> decide +kernel⟩⟩

/-- States and operands that meet the hypotheses of FrameEndRepeat, clause by clause. -/
theorem witness_FrameEndRepeat :
    ∃ (s : State) (bits : List Bool) (f : Frame),
      s.port.awaitLow = false
      ∧ (s.port.clockFrame bits).soundFrame? = some f
      ∧ s.port.status = .tracking
      ∧ s.port.lastSeq = some f.seq :=
  ⟨calm, frameOf 7 still, ⟨7, still⟩, by decide +kernel⟩

/-- States and operands that meet the hypotheses of FrameEndLoss, clause by clause. -/
theorem witness_FrameEndLoss :
    (∃ (s : State) (bits : List Bool) (f : Frame) (n : Byte) (g : Sample),
      s.port.awaitLow = false
      ∧ (s.port.clockFrame bits).soundFrame? = some f
      ∧ s.port.status = .tracking
      ∧ s.port.lastSeq = some n
      ∧ s.port.lastGood = some g
      ∧ 5 ≤ (f.seq - n).toNat)
    ∧ (∃ (s : State) (bits : List Bool) (f : Frame) (n : Byte) (g : Sample),
      s.port.awaitLow = false
      ∧ (s.port.clockFrame bits).soundFrame? = some f
      ∧ s.port.status = .tracking
      ∧ s.port.lastSeq = some n
      ∧ s.port.lastGood = some g
      ∧ 1 ≤ (f.seq - n).toNat
      ∧ (f.seq - n).toNat ≤ 4
      ∧ (g.x = f.counts.x ∧ g.y = f.counts.y ∧ g.z = f.counts.z)
      ∧ s.port.identical = 2047)
    ∧ (∃ (s : State) (bits : List Bool),
      s.port.awaitLow = false
      ∧ (s.port.clockFrame bits).soundFrame? = none
      ∧ s.port.status ≠ .lost
      ∧ s.port.missing = 4)
    ∧ (∃ (s : State) (bits : List Bool),
      s.port.awaitLow = false
      ∧ (s.port.clockFrame bits).soundFrame? = none
      ∧ s.port.status ≠ .lost
      ∧ s.port.missing < 4)
    ∧ (∃ (s : State) (bits : List Bool),
      s.port.awaitLow = false
      ∧ (s.port.clockFrame bits).soundFrame? = none
      ∧ s.port.status = .lost)
    ∧ (∃ (s : State),
      s.port.awaitLow)
    ∧ (∃ (s : State),
      s.port.awaitLow = false
      ∧ s.port.status ≠ .lost
      ∧ s.act.line.Sound
      ∧ s.act.coord.Sound
      ∧ s.act.StageSound)
    ∧ (∃ (s : State),
      s.port.awaitLow = false
      ∧ s.port.status ≠ .lost
      ∧ s.act.line.Sound
      ∧ s.act.coord.Sound
      ∧ s.act.StageSound) :=
  ⟨⟨calm, frameOf 12 still, ⟨12, still⟩, 7, still, by and_intros <;> decide +kernel⟩,
    ⟨onPort calm fun p => { p with identical := 2047 }, frameOf 11 still, ⟨11, still⟩, 7, still,
      by and_intros <;> decide +kernel⟩,
    ⟨onPort calm fun p => { p with missing := 4 }, [], by decide +kernel⟩,
    ⟨onPort calm fun p => { p with missing := 3 }, [], by decide +kernel⟩,
    ⟨onPort calm fun p => { p with status := .lost, recovery := 199 }, [], by decide +kernel⟩,
    ⟨onPort calm fun p => { p with awaitLow := true }, by decide +kernel⟩,
    ⟨onPort (turn .contest .quiesce) fun p => { p with missing := 4 }, by and_intros <;> decide +kernel⟩,
    ⟨turn .backoff .quiesce, by and_intros <;> decide +kernel⟩⟩

/-- States and operands that meet the hypotheses of FrameEndRecovery, clause by clause. -/
theorem witness_FrameEndRecovery :
    (∃ (s : State) (bits : List Bool) (f : Frame) (n : Byte) (g : Sample),
      s.port.awaitLow = false
      ∧ (s.port.clockFrame bits).soundFrame? = some f
      ∧ s.port.status = .lost
      ∧ s.port.lastSeq = some n
      ∧ s.port.lastGood = some g
      ∧ f.seq ≠ n
      ∧ ((if 2048 ≤ (if g.x = f.counts.x ∧ g.y = f.counts.y ∧ g.z = f.counts.z then s.port.identical + 1 else 1) then 0 else if f.seq = n + 1 then s.port.recovery + 1 else 1) < 200))
    ∧ (∃ (s : State) (bits : List Bool) (f : Frame) (n : Byte) (g : Sample),
      s.port.awaitLow = false
      ∧ (s.port.clockFrame bits).soundFrame? = some f
      ∧ s.port.status = .lost
      ∧ s.port.lastSeq = some n
      ∧ s.port.lastGood = some g
      ∧ f.seq ≠ n
      ∧ ((if 2048 ≤ (if g.x = f.counts.x ∧ g.y = f.counts.y ∧ g.z = f.counts.z then s.port.identical + 1 else 1) then 0 else if f.seq = n + 1 then s.port.recovery + 1 else 1) = 200))
    ∧ (∃ (s : State) (bits : List Bool) (f : Frame),
      s.port.awaitLow = false
      ∧ (s.port.clockFrame bits).soundFrame? = some f
      ∧ s.port.status = .lost
      ∧ s.port.lastSeq = some f.seq)
    ∧ (∃ (s : State) (bits : List Bool) (f : Frame),
      s.port.awaitLow = false
      ∧ (s.port.clockFrame bits).soundFrame? = some f
      ∧ s.port.status = .lost
      ∧ s.port.lastSeq = none
      ∧ s.port.lastGood = none)
    ∧ (∃ (s : State) (bits : List Bool) (f : Frame) (n : Byte) (g : Sample),
      s.port.awaitLow = false
      ∧ (s.port.clockFrame bits).soundFrame? = some f
      ∧ s.port.status = .lost
      ∧ s.port.lastSeq = some n
      ∧ s.port.lastGood = some g
      ∧ f.seq ≠ n
      ∧ ((if 2048 ≤ (if g.x = f.counts.x ∧ g.y = f.counts.y ∧ g.z = f.counts.z then s.port.identical + 1 else 1) then 0 else if f.seq = n + 1 then s.port.recovery + 1 else 1) = 200)
      ∧ s.act.line.Sound
      ∧ s.act.coord.Sound
      ∧ s.act.StageSound) :=
  ⟨⟨onPort calm fun p => { p with status := .lost, recovery := 198 }, frameOf 8 still, ⟨8, still⟩, 7, still,
      by and_intros <;> decide +kernel⟩,
    ⟨onPort calm fun p => { p with status := .lost, recovery := 199 }, frameOf 8 still, ⟨8, still⟩, 7, still,
      by and_intros <;> decide +kernel⟩,
    ⟨onPort calm fun p => { p with status := .lost, recovery := 199 }, frameOf 7 still, ⟨7, still⟩,
      by decide +kernel⟩,
    ⟨onPort calm fun p => { p with status := .lost, lastSeq := none, lastGood := none, identical := 0 },
      frameOf 0 still, ⟨0, still⟩, by decide +kernel⟩,
    ⟨onAssessor (onPort calm fun p => { p with status := .lost, recovery := 199 }) fun a => { a with detector := .blind },
      frameOf 8 still, ⟨8, still⟩, 7, still, by and_intros <;> decide +kernel⟩⟩

/-- States and operands that meet the hypotheses of FrameTimerExpirySilence, clause by clause. -/
theorem witness_FrameTimerExpirySilence :
    (∃ (s : State) (st : Stamp),
      s.port.frameTimer = some st
      ∧ 25 ≤ elapsed s.clock st
      ∧ s.port.status ≠ .lost)
    ∧ (∃ (s : State) (st : Stamp),
      s.port.frameTimer = some st
      ∧ 25 ≤ elapsed s.clock st
      ∧ s.port.status = .lost)
    ∧ (∃ (s : State),
      (∀ st, s.port.frameTimer = some st → elapsed s.clock st < 25))
    ∧ (∃ (s : State) (st : Stamp),
      s.port.frameTimer = some st
      ∧ 25 ≤ elapsed s.clock st
      ∧ s.port.status ≠ .lost
      ∧ s.act.line.Sound
      ∧ s.act.coord.Sound
      ∧ s.act.StageSound) :=
  ⟨⟨onPort calm fun p => { p with frameTimer := some (ago 25) }, ago 25, by decide +kernel⟩,
    ⟨onPort calm fun p => { p with status := .lost, frameTimer := some (ago 25) }, ago 25, by decide +kernel⟩,
    ⟨onPort calm fun p => { p with frameTimer := some (ago 24) }, fun _ h => by cases h; decide +kernel⟩,
    ⟨onPort (turn .bidding .quiesce) fun p => { p with frameTimer := some (ago 25) }, ago 25,
      by and_intros <;> decide +kernel⟩⟩

/-- States and operands that meet the hypotheses of DetectorStateChanges, clause by clause. -/
theorem witness_DetectorStateChanges :
    (∃ (a : Assessor) (prof : Profile) (c : Sample) (stamp : Stamp) (onset : Stamp),
      a.detector = .calm
      ∧ a.qualifying = 3
      ∧ a.runOnset = some onset
      ∧ prof.rOn * a.long ≤ 4 * (a.short + (16 * (magnitude c a.base : Int) - a.short) / 8)
      ∧ elapsed stamp onset < 300000)
    ∧ (∃ (a : Assessor) (prof : Profile) (c : Sample) (stamp : Stamp) (onset : Stamp),
      a.detector = .event
      ∧ a.releasing = 199
      ∧ a.event.onset = some onset
      ∧ 4 * (a.short + (16 * (magnitude c a.base : Int) - a.short) / 8) < prof.rOff * a.long
      ∧ elapsed stamp onset < 300000)
    ∧ (∃ (a : Assessor) (prof : Profile) (c : Sample) (stamp : Stamp) (onset : Stamp),
      a.detector = .settling
      ∧ a.qualifying = 3
      ∧ a.event.onset = some onset
      ∧ prof.rOn * a.long ≤ 4 * (a.short + (16 * (magnitude c a.base : Int) - a.short) / 8)
      ∧ elapsed stamp onset < 300000)
    ∧ (∃ (a : Assessor) (prof : Profile) (c : Sample),
      a.detector = .settling
      ∧ a.settling = 1999
      ∧ (4 * (a.short + (16 * (magnitude c a.base : Int) - a.short) / 8) < prof.rOn * a.long ∨ a.qualifying < 3))
    ∧ (∃ (a : Assessor) (stamp : Stamp) (onset : Stamp),
      a.detector = .event
      ∧ a.event.onset = some onset
      ∧ 300000 ≤ elapsed stamp onset)
    ∧ (∃ (a : Assessor),
      a.detector = .capture
      ∧ a.awaitingSeed = false
      ∧ a.captureCount = 1023)
    ∧ (∃ (a : Assessor),
      a.detector = .capture
      ∧ a.awaitingSeed = false
      ∧ a.captureCount < 1023)
    ∧ (∃ (a : Assessor),
      a.detector = .capture
      ∧ a.awaitingSeed = false
      ∧ a.captureCount < 1023)
    ∧ (∃ (a : Assessor) (prof : Profile) (c : Sample) (stamp : Stamp) (onset : Stamp),
      a.detector = .settling
      ∧ a.event.onset = some onset
      ∧ 300000 ≤ elapsed stamp onset
      ∧ (a.settling < 1999 ∨ (prof.rOn * a.long ≤ 4 * (a.short + (16 * (magnitude c a.base : Int) - a.short) / 8) ∧ 3 ≤ a.qualifying)))
    ∧ (∃ (a : Assessor) (prof : Profile) (c : Sample) (stamp : Stamp) (onset : Stamp),
      a.detector = .settling
      ∧ a.event.onset = some onset
      ∧ 300000 ≤ elapsed stamp onset
      ∧ (a.settling < 1999 ∨ (prof.rOn * a.long ≤ 4 * (a.short + (16 * (magnitude c a.base : Int) - a.short) / 8) ∧ 3 ≤ a.qualifying)))
    ∧ (∃ (a : Assessor) (prof : Profile) (c : Sample),
      a.detector = .calm
      ∧ prof.rOn * a.long ≤ 4 * (a.short + (16 * (magnitude c a.base : Int) - a.short) / 8)
      ∧ a.qualifying < 3)
    ∧ (∃ (a : Assessor) (prof : Profile) (c : Sample),
      a.detector = .calm
      ∧ prof.rOn * a.long ≤ 4 * (a.short + (16 * (magnitude c a.base : Int) - a.short) / 8)
      ∧ a.qualifying < 3)
    ∧ (∃ (a : Assessor) (prof : Profile) (c : Sample),
      a.detector = .calm
      ∧ 4 * (a.short + (16 * (magnitude c a.base : Int) - a.short) / 8) < prof.rOn * a.long)
    ∧ (∃ (a : Assessor) (prof : Profile) (c : Sample) (stamp : Stamp) (onset : Stamp),
      a.detector = .event
      ∧ a.event.onset = some onset
      ∧ elapsed stamp onset < 300000
      ∧ (a.releasing < 199 ∨ prof.rOff * a.long ≤ 4 * (a.short + (16 * (magnitude c a.base : Int) - a.short) / 8)))
    ∧ (∃ (a : Assessor) (prof : Profile) (c : Sample) (stamp : Stamp) (onset : Stamp),
      a.detector = .event
      ∧ a.event.onset = some onset
      ∧ elapsed stamp onset < 300000
      ∧ (a.releasing < 199 ∨ prof.rOff * a.long ≤ 4 * (a.short + (16 * (magnitude c a.base : Int) - a.short) / 8)))
    ∧ (∃ (a : Assessor) (prof : Profile) (c : Sample) (stamp : Stamp) (onset : Stamp),
      a.detector = .settling
      ∧ a.event.onset = some onset
      ∧ elapsed stamp onset < 300000
      ∧ a.settling < 1999
      ∧ (4 * (a.short + (16 * (magnitude c a.base : Int) - a.short) / 8) < prof.rOn * a.long ∨ a.qualifying < 3))
    ∧ (∃ (a : Assessor) (prof : Profile) (c : Sample) (stamp : Stamp) (onset : Stamp),
      a.detector = .settling
      ∧ a.event.onset = some onset
      ∧ elapsed stamp onset < 300000
      ∧ a.settling < 1999
      ∧ (4 * (a.short + (16 * (magnitude c a.base : Int) - a.short) / 8) < prof.rOn * a.long ∨ a.qualifying < 3))
    ∧ (∃ (c : Sample) (base : Axes) (p : Nat) (q : Nat) (r : Nat),
      [p, q, r].Perm [(max (-32767) (min 32767 (c.x.toInt - base.x / 256))).natAbs,
      (max (-32767) (min 32767 (c.y.toInt - base.y / 256))).natAbs,
      (max (-32767) (min 32767 (c.z.toInt - base.z / 256))).natAbs]
      ∧ (r ≤ q ∧ q ≤ p))
    ∧ (∃ (a : Assessor) (prof : Profile) (c : Sample) (stamp : Stamp) (onset : Stamp),
      a.detector = .calm
      ∧ a.qualifying = 3
      ∧ a.runOnset = some onset
      ∧ prof.rOn * a.long ≤ 4 * (a.short + (16 * (magnitude c a.base : Int) - a.short) / 8)
      ∧ 300000 ≤ elapsed stamp onset)
    ∧ (∃ (a : Assessor) (prof : Profile) (c : Sample) (stamp : Stamp) (onset : Stamp),
      a.detector = .calm
      ∧ a.qualifying = 3
      ∧ a.runOnset = some onset
      ∧ prof.rOn * a.long ≤ 4 * (a.short + (16 * (magnitude c a.base : Int) - a.short) / 8)
      ∧ 300000 ≤ elapsed stamp onset) :=
  ⟨⟨{ calm.assessor with qualifying := 3, runOnset := some (ago 299999) }, profileRow 0, ⟨0, 0, 1256, false⟩,
      now, ago 299999, by decide +kernel⟩,
    ⟨{ calm.assessor with detector := .event, releasing := 199, event := ⟨1, some (ago 299999), 0, 0, false⟩ },
      profileRow 0, still, now, ago 299999, by decide +kernel⟩,
    ⟨{ calm.assessor with detector := .settling, qualifying := 3, event := ⟨1, some (ago 299999), 0, 0, false⟩ },
      profileRow 0, ⟨0, 0, 1256, false⟩, now, ago 299999, by decide +kernel⟩,
    ⟨{ calm.assessor with detector := .settling, settling := 1999, event := ⟨1, some (ago 20000), 0, 0, false⟩ },
      profileRow 0, still, by decide +kernel⟩,
    ⟨{ calm.assessor with detector := .event, event := ⟨1, some (ago 300000), 0, 0, false⟩ }, now, ago 300000,
      by decide +kernel⟩,
    ⟨{ calm.assessor with detector := .capture, captureCount := 1023 }, by decide +kernel⟩,
    ⟨{ calm.assessor with detector := .capture, captureCount := 1 }, by decide +kernel⟩,
    ⟨{ calm.assessor with detector := .capture, captureCount := 1022 }, by decide +kernel⟩,
    ⟨{ calm.assessor with detector := .settling, settling := 1998, event := ⟨1, some (ago 300000), 0, 0, false⟩ },
      profileRow 0, still, now, ago 300000, by decide +kernel⟩,
    ⟨{ calm.assessor with detector := .settling, settling := 1999, qualifying := 3, event := ⟨1, some (ago 300000), 0, 0, false⟩ },
      profileRow 0, ⟨0, 0, 1256, false⟩, now, ago 300000, by decide +kernel⟩,
    ⟨calm.assessor, profileRow 0, ⟨0, 0, 1256, false⟩, by decide +kernel⟩,
    ⟨{ calm.assessor with qualifying := 2, runOnset := some (ago 10) }, profileRow 0, ⟨0, 0, 1256, false⟩,
      by decide +kernel⟩,
    ⟨{ calm.assessor with qualifying := 3, runOnset := some (ago 15) }, profileRow 0, still, by decide +kernel⟩,
    ⟨{ calm.assessor with detector := .event, releasing := 198, event := ⟨1, some (ago 299999), 0, 0, false⟩ },
      profileRow 0, still, now, ago 299999, by decide +kernel⟩,
    ⟨{ calm.assessor with detector := .event, releasing := 199, event := ⟨1, some (ago 0), 0, 0, false⟩ },
      profileRow 0, ⟨0, 0, 1256, false⟩, now, ago 0, by decide +kernel⟩,
    ⟨{ calm.assessor with detector := .settling, settling := 1998, qualifying := 3, event := ⟨1, some (ago 299999), 0, 0, false⟩ },
      profileRow 0, still, now, ago 299999, by decide +kernel⟩,
    ⟨{ calm.assessor with detector := .settling, qualifying := 2, event := ⟨1, some (ago 299999), 0, 0, false⟩ },
      profileRow 0, ⟨0, 0, 1256, false⟩, now, ago 299999, by decide +kernel⟩,
    ⟨⟨3, 0, 0x8000, true⟩, ⟨0, 0, 0⟩, 32767, 3, 0, by decide +kernel⟩,
    ⟨{ calm.assessor with qualifying := 3, runOnset := some (ago 300000) }, profileRow 0, ⟨0, 0, 1256, false⟩,
      now, ago 300000, by decide +kernel⟩,
    ⟨{ calm.assessor with qualifying := 3, runOnset := some (now + 1) }, profileRow 0, ⟨0, 0, 1256, false⟩, now,
      now + 1, by decide +kernel⟩⟩

/-- States and operands that meet the hypotheses of CalmSampleStaysInSensing, clause by clause. -/
theorem witness_CalmSampleStaysInSensing :
    (∃ (s : State) (bits : List Bool) (f : Frame) (g : Sample),
      s.Sound
      ∧ s.port.awaitLow = false
      ∧ (s.port.clockFrame bits).soundFrame? = some f
      ∧ s.port.status = .tracking
      ∧ s.port.lastSeq = some (f.seq - 1)
      ∧ s.port.lastGood = some g
      ∧ ((if g.x = f.counts.x ∧ g.y = f.counts.y ∧ g.z = f.counts.z then s.port.identical + 1 else 1) < 2048)
      ∧ s.assessor.detector = .calm
      ∧ (s.assessor.sample (profileOf s.straps) f.counts s.clock).detector = .calm
      ∧ s.act.coord.step ≠ .postponed)
    ∧ (∃ (s : State) (bits : List Bool) (f : Frame) (g : Sample),
      s.Sound
      ∧ s.port.awaitLow = false
      ∧ (s.port.clockFrame bits).soundFrame? = some f
      ∧ s.port.status = .tracking
      ∧ s.port.lastSeq = some (f.seq - 1)
      ∧ s.port.lastGood = some g
      ∧ ((if g.x = f.counts.x ∧ g.y = f.counts.y ∧ g.z = f.counts.z then s.port.identical + 1 else 1) < 2048)
      ∧ s.assessor.detector = .calm
      ∧ (s.assessor.sample (profileOf s.straps) f.counts s.clock).detector = .calm
      ∧ s.act.coord.step ≠ .postponed) :=
  ⟨⟨calm, frameOf 8 still, ⟨8, still⟩, still, sound_of_parts (by decide +kernel),
      by and_intros <;> decide +kernel⟩,
    ⟨onAssessor calm fun a => { a with qualifying := 3, runOnset := some (ago 300000) },
      frameOf 8 ⟨0, 0, 0x7FFF, true⟩, ⟨8, ⟨0, 0, 0x7FFF, true⟩⟩, still, sound_of_parts (by decide +kernel),
      by and_intros <;> decide +kernel⟩⟩

/-- States and operands that meet the hypotheses of TelegramIsJudgedAtItsLastByte, clause by clause. -/
theorem witness_TelegramIsJudgedAtItsLastByte :
    ∃ (kind : Byte) (sender : Byte) (payload : List Byte),
      kindLength kind.toNat = some payload.length
      ∧ sender.toNat ≤ 35 :=
  ⟨2, 35, [3], by decide +kernel⟩

/-- States and operands that meet the hypotheses of DiscardedTelegramIsCountedOnce, clause by clause. -/
theorem witness_DiscardedTelegramIsCountedOnce :
    (∃ (b : RxByte),
      b.data = 0x5A
      ∧ b.stop)
    ∧ (∃ (d : Byte),
      d ≠ 0x5A)
    ∧ (∃ (sender : Byte),
      35 < sender.toNat)
    ∧ (∃ (sender : Byte) (kind : Byte),
      sender.toNat ≤ 35
      ∧ (kind.toNat = 0 ∨ 6 < kind.toNat))
    ∧ (∃ (sender : Byte) (kind : Byte) (length : Byte) (n : Nat),
      sender.toNat ≤ 35
      ∧ kindLength kind.toNat = some n
      ∧ length.toNat ≠ n)
    ∧ (∃ (s : State) (bytes : List RxByte),
      s.act.line.Hears
      ∧ endsInDiscard bytes) :=
  ⟨⟨⟨0x5A, true⟩, by decide +kernel⟩,
    ⟨0x5B, by decide +kernel⟩,
    ⟨36, by decide +kernel⟩,
    ⟨35, 7, by decide +kernel⟩,
    ⟨35, 1, 11, 12, by decide +kernel⟩,
    ⟨calm, [⟨0x5B, true⟩], by decide +kernel⟩⟩

/-- States and operands that meet the hypotheses of LineIdleReadiesTheReceiver, clause by clause. -/
theorem witness_LineIdleReadiesTheReceiver :
    (∃ (s : State),
      s.act.line.ReceiverSound
      ∧ (s.act.line.stuck = false ∨ s.act.coord.phase ≠ .awaitPermit ∨ s.act.line.mute ≠ none ∨ s.scanner.fault
        ∨ (s.act.coord.permit = false ∧ (s.scanner.active 7 = false ∨ s.act.coord.keyWithheld)))
      ∧ s.act.line.condition = .busy
      ∧ 24 ≤ s.act.line.quietBits
      ∧ s.act.line.receiver ≠ .assemble)
    ∧ (∃ (s : State),
      s.act.line.ReceiverSound
      ∧ (s.act.line.stuck = false ∨ s.act.coord.phase ≠ .awaitPermit ∨ s.act.line.mute ≠ none ∨ s.scanner.fault
        ∨ (s.act.coord.permit = false ∧ (s.scanner.active 7 = false ∨ s.act.coord.keyWithheld)))
      ∧ s.act.line.condition = .busy
      ∧ 24 ≤ s.act.line.quietBits
      ∧ s.act.line.receiver ≠ .assemble)
    ∧ (∃ (s : State),
      s.act.line.ReceiverSound
      ∧ (s.act.line.stuck = false ∨ s.act.coord.phase ≠ .awaitPermit ∨ s.act.line.mute ≠ none ∨ s.scanner.fault
        ∨ (s.act.coord.permit = false ∧ (s.scanner.active 7 = false ∨ s.act.coord.keyWithheld)))
      ∧ s.act.line.receiver = .assemble
      ∧ s.act.line.inByte = false
      ∧ 30 ≤ s.act.line.gapBits)
    ∧ (∃ (s : State),
      s.act.line.ReceiverSound
      ∧ (s.act.line.stuck = false ∨ s.act.coord.phase ≠ .awaitPermit ∨ s.act.line.mute ≠ none ∨ s.scanner.fault
        ∨ (s.act.coord.permit = false ∧ (s.scanner.active 7 = false ∨ s.act.coord.keyWithheld)))
      ∧ s.act.line.receiver = .assemble
      ∧ s.act.line.inByte = false
      ∧ 30 ≤ s.act.line.gapBits)
    ∧ (∃ (s : State),
      (s.act.line.condition = .idle ∨ s.act.line.quietBits < 24 ∨ s.act.line.receiver = .assemble))
    ∧ (∃ (s : State),
      (s.act.line.receiver ≠ .assemble ∨ s.act.line.inByte ∨ s.act.line.gapBits < 30))
    ∧ (∃ (s : State),
      (s.act.line.receiver ≠ .assemble ∨ s.act.line.inByte ∨ s.act.line.gapBits < 30))
    ∧ (∃ (s : State),
      s.act.line.Sound
      ∧ s.act.line.condition = .busy
      ∧ 24 ≤ s.act.line.quietBits
      ∧ s.act.line.receiver ≠ .assemble
      ∧ s.act.line.stuck
      ∧ s.act.coord.phase = .awaitPermit
      ∧ (s.act.coord.permit ∨ (s.scanner.active 7 ∧ s.act.coord.keyWithheld = false))
      ∧ s.act.line.mute = none
      ∧ s.scanner.fault = false)
    ∧ (∃ (s : State),
      s.act.line.Sound
      ∧ s.act.line.condition = .busy
      ∧ 24 ≤ s.act.line.quietBits
      ∧ s.act.line.receiver ≠ .assemble
      ∧ s.act.line.stuck
      ∧ s.act.coord.phase = .awaitPermit
      ∧ (s.act.coord.permit ∨ (s.scanner.active 7 ∧ s.act.coord.keyWithheld = false))
      ∧ s.act.line.mute = none
      ∧ s.scanner.fault = false)
    ∧ (∃ (s : State),
      s.act.line.Sound
      ∧ s.act.line.ReceiverSound
      ∧ s.act.line.receiver = .assemble
      ∧ s.act.line.inByte = false
      ∧ 30 ≤ s.act.line.gapBits
      ∧ s.act.line.stuck
      ∧ s.act.coord.phase = .awaitPermit
      ∧ (s.act.coord.permit ∨ (s.scanner.active 7 ∧ s.act.coord.keyWithheld = false))
      ∧ s.act.line.mute = none
      ∧ s.scanner.fault = false) :=
  ⟨⟨onLine calm fun l => { l with condition := .busy, receiver := .skip, quietBits := 24 },
      by and_intros <;> decide +kernel⟩,
    ⟨onLine (turn .awaitPermit .quiesce) fun l => { l with
      condition := .busy, stuck := true, receiver := .skip, quietBits := 24 }, by and_intros <;> decide +kernel⟩,
    ⟨onLine calm fun l => { l with condition := .busy, receiver := .assemble, rxBuf := [0x5A], gapBits := 30 },
      by and_intros <;> decide +kernel⟩,
    ⟨onLine (turn .awaitPermit .quiesce) fun l => { l with
      condition := .busy, stuck := true, receiver := .assemble, rxBuf := [0x5A], gapBits := 30 },
      by and_intros <;> decide +kernel⟩,
    ⟨onLine calm fun l => { l with condition := .busy, receiver := .skip, quietBits := 23 }, by decide +kernel⟩,
    ⟨onLine calm fun l => { l with condition := .busy, receiver := .assemble, rxBuf := [0x5A], gapBits := 29 },
      by decide +kernel⟩,
    ⟨onLine calm fun l => { l with condition := .busy, receiver := .assemble, rxBuf := [0x5A], gapBits := 30, inByte := true },
      by decide +kernel⟩,
    ⟨onLine (onCoord (turn .awaitPermit .quiesce) fun c => { c with permit := true }) fun l => { l with
      condition := .busy, stuck := true, receiver := .skip, quietBits := 24 }, by and_intros <;> decide +kernel⟩,
    ⟨onLine (input (turn .awaitPermit .quiesce) 7 .active) fun l => { l with
      condition := .busy, stuck := true, receiver := .skip, quietBits := 24 }, by and_intros <;> decide +kernel⟩,
    ⟨onLine (onCoord (turn .awaitPermit .quiesce) fun c => { c with permit := true }) fun l => { l with
      condition := .busy, stuck := true, receiver := .assemble, rxBuf := [0x5A], gapBits := 30 },
      by and_intros <;> decide +kernel⟩⟩

/-- States and operands that meet the hypotheses of LineBusyLosesTheAccessCount, clause by clause. -/
theorem witness_LineBusyLosesTheAccessCount :
    (∃ (s : State),
      s.act.line.Hears)
    ∧ (∃ (s : State),
      s.act.line.receiver = .skip) :=
  ⟨⟨calm, by decide +kernel⟩,
    ⟨onLine calm fun l => { l with receiver := .skip }, by decide +kernel⟩⟩

/-- States and operands that meet the hypotheses of TransmissionStartsAtTheAccessWait, clause by clause. -/
theorem witness_TransmissionStartsAtTheAccessWait :
    (∃ (s : State) (e : TxEntry) (rest : List TxEntry) (n : Nat),
      s.act.line.Sound
      ∧ s.act.line.queue = e :: rest
      ∧ s.act.line.idleCount = some n
      ∧ (32 * ((match e.kind with
          | .state true => 0
          | .restart _ => 1
          | .state false => 2)
        + if e.collisions = 0 then 0 else 1 + (s.straps.stn.toNat + 5 * (e.collisions - 1)) % 40) ≤ n))
    ∧ (∃ (s : State) (e : TxEntry) (rest : List TxEntry) (n : Nat),
      s.act.line.queue = e :: rest
      ∧ s.act.line.idleCount = some n
      ∧ (n < 32 * ((match e.kind with
          | .state true => 0
          | .restart _ => 1
          | .state false => 2)
        + if e.collisions = 0 then 0 else 1 + (s.straps.stn.toNat + 5 * (e.collisions - 1)) % 40)))
    ∧ (∃ (s : State),
      s.act.line.idleCount = none)
    ∧ (∃ (l : LineUnit) (byte : Byte) (k : Nat) (j : Nat),
      l.sending
      ∧ l.txBytes[k]? = some byte
      ∧ j < 10
      ∧ l.txBits = 10 * k + j)
    ∧ (∃ (l : LineUnit) (byte : Byte) (k : Nat) (j : Nat),
      l.sending
      ∧ l.txBytes[k]? = some byte
      ∧ j < 10
      ∧ l.txBits = 10 * k + j)
    ∧ (∃ (l : LineUnit) (byte : Byte) (k : Nat) (j : Nat),
      l.sending
      ∧ l.txBytes[k]? = some byte
      ∧ j < 10
      ∧ l.txBits = 10 * k + j)
    ∧ (∃ (l : LineUnit),
      (l.sending = false ∨ 10 * l.txBytes.length ≤ l.txBits))
    ∧ (∃ (l : LineUnit),
      (l.sending = false ∨ 10 * l.txBytes.length ≤ l.txBits)) :=
  ⟨⟨awaiting calm [⟨.state true, 1, false⟩] 320, ⟨.state true, 1, false⟩, [], 320,
      by and_intros <;> decide +kernel⟩,
    ⟨awaiting calm [⟨.state true, 1, false⟩] 319, ⟨.state true, 1, false⟩, [], 319, by decide +kernel⟩,
    ⟨calm, by decide +kernel⟩,
    ⟨{ calm.act.line with sending := true, txBytes := [0x5A, 0x01], txBits := 0 }, 0x5A, 0, 0, by decide +kernel⟩,
    ⟨{ calm.act.line with sending := true, txBytes := [0x5A, 0x01], txBits := 11 }, 0x01, 1, 1, by decide +kernel⟩,
    ⟨{ calm.act.line with sending := true, txBytes := [0x5A, 0x01], txBits := 19 }, 0x01, 1, 9, by decide +kernel⟩,
    ⟨{ calm.act.line with sending := true, txBytes := [0x5A, 0x01], txBits := 20 }, by decide +kernel⟩,
    ⟨calm.act.line, by decide +kernel⟩⟩

/-- States and operands that meet the hypotheses of CollisionBacksOff, clause by clause. -/
theorem witness_CollisionBacksOff :
    (∃ (s : State) (e : TxEntry) (rest : List TxEntry),
      s.act.line.sending
      ∧ s.act.line.txBits < 10 * s.act.line.txBytes.length
      ∧ s.act.line.queue = e :: rest
      ∧ (e.isState ∨ s.act.line.deferred = none)
      ∧ (e.collisions ≠ 15 ∨ s.act.line.congested))
    ∧ (∃ (s : State) (e : TxEntry) (rest : List TxEntry),
      s.act.line.sending
      ∧ s.act.line.txBits < 10 * s.act.line.txBytes.length
      ∧ s.act.line.queue = e :: rest
      ∧ e.collisions = 15
      ∧ s.act.line.congested = false)
    ∧ (∃ (s : State) (e : TxEntry) (rest : List TxEntry),
      s.act.line.Sound
      ∧ s.act.line.sending
      ∧ s.act.line.txBits < 10 * s.act.line.txBytes.length
      ∧ s.act.line.queue = e :: rest
      ∧ e.kind = .restart .claim
      ∧ s.act.line.deferred = some .yield
      ∧ (e.collisions ≠ 15 ∨ s.act.line.congested))
    ∧ (∃ (s : State) (e : TxEntry) (rest : List TxEntry) (h : RestartKind) (k : RestartKind),
      s.act.line.Sound
      ∧ s.act.line.sending
      ∧ s.act.line.txBits < 10 * s.act.line.txBytes.length
      ∧ s.act.line.queue = e :: rest
      ∧ e.kind = .restart h
      ∧ s.act.line.deferred = some k
      ∧ (h ≠ .claim ∨ k ≠ .yield)
      ∧ (e.collisions ≠ 15 ∨ s.act.line.congested))
    ∧ (∃ (s : State) (e : TxEntry) (rest : List TxEntry) (h : RestartKind) (k : RestartKind),
      s.act.line.Sound
      ∧ s.act.line.sending
      ∧ s.act.line.txBits < 10 * s.act.line.txBytes.length
      ∧ s.act.line.queue = e :: rest
      ∧ e.kind = .restart h
      ∧ s.act.line.deferred = some k
      ∧ (h ≠ .claim ∨ k ≠ .yield)
      ∧ (e.collisions ≠ 15 ∨ s.act.line.congested))
    ∧ (∃ (s : State),
      (s.act.line.sending = false ∨ 10 * s.act.line.txBytes.length ≤ s.act.line.txBits))
    ∧ (∃ (s : State),
      (s.act.line.sending = false ∨ 10 * s.act.line.txBytes.length ≤ s.act.line.txBits))
    ∧ (∃ (i : Nat) (j : Nat) (n : Nat),
      i < 32
      ∧ j < 32
      ∧ i ≠ j
      ∧ 1 ≤ n) :=
  ⟨⟨onLine (sending calm ⟨.state false, 14, true⟩ none) fun l => { l with txBits := 9 },
      ⟨.state false, 14, true⟩, [], by decide +kernel⟩,
    ⟨onLine (sending calm ⟨.state false, 15, true⟩ none) fun l => { l with txBits := 0 },
      ⟨.state false, 15, true⟩, [], by decide +kernel⟩,
    ⟨onLine (sending calm ⟨.restart .claim, 14, false⟩ (some .yield)) fun l => { l with txBits := 9 },
      ⟨.restart .claim, 14, false⟩, [], by and_intros <;> decide +kernel⟩,
    ⟨onLine (sending calm ⟨.restart .bid, 14, false⟩ (some .yield)) fun l => { l with txBits := 9 },
      ⟨.restart .bid, 14, false⟩, [], .bid, .yield, by and_intros <;> decide +kernel⟩,
    ⟨onLine (sending calm ⟨.restart .claim, 16, false⟩ (some .bid)) fun l => { l with txBits := 0 },
      ⟨.restart .claim, 16, false⟩, [], .claim, .bid, by and_intros <;> decide +kernel⟩,
    ⟨calm, by decide +kernel⟩,
    ⟨sending calm ⟨.state false, 0, false⟩ none, by decide +kernel⟩,
    ⟨0, 31, 1, by decide +kernel⟩⟩

/-- States and operands that meet the hypotheses of CompletionLeavesTheQueue, clause by clause. -/
theorem witness_CompletionLeavesTheQueue :
    (∃ (s : State) (e : TxEntry) (rest : List TxEntry),
      s.act.line.Sound
      ∧ s.act.line.sending
      ∧ s.act.line.queue = e :: rest
      ∧ 10 * s.act.line.txBytes.length ≤ s.act.line.txBits
      ∧ e.isState)
    ∧ (∃ (s : State) (e : TxEntry) (rest : List TxEntry),
      s.act.line.Sound
      ∧ s.act.line.sending
      ∧ s.act.line.queue = e :: rest
      ∧ 10 * s.act.line.txBytes.length ≤ s.act.line.txBits
      ∧ e.kind = .restart .bid
      ∧ s.act.line.deferred = none
      ∧ s.act.coord.phase = .bidding
      ∧ s.act.coord.bidWindow = none
      ∧ s.act.coord.claimPending = false)
    ∧ (∃ (s : State) (e : TxEntry) (rest : List TxEntry),
      s.Sound
      ∧ s.act.line.sending
      ∧ s.act.line.queue = e :: rest
      ∧ 10 * s.act.line.txBytes.length ≤ s.act.line.txBits
      ∧ e.kind = .restart .claim
      ∧ s.act.line.deferred = none
      ∧ s.act.coord.phase = .bidding
      ∧ s.act.coord.claimPending)
    ∧ (∃ (s : State) (e : TxEntry) (rest : List TxEntry),
      s.act.line.Sound
      ∧ s.act.line.sending
      ∧ s.act.line.queue = e :: rest
      ∧ 10 * s.act.line.txBytes.length ≤ s.act.line.txBits
      ∧ (e.kind = .restart .yield ∨ e.kind = .restart .done ∨ (e.isState = false ∧ s.act.coord.phase ≠ .bidding))
      ∧ s.act.line.deferred = none)
    ∧ (∃ (s : State) (e : TxEntry) (rest : List TxEntry) (k : RestartKind),
      s.act.line.Sound
      ∧ s.act.line.sending
      ∧ s.act.line.queue = e :: rest
      ∧ 10 * s.act.line.txBytes.length ≤ s.act.line.txBits
      ∧ e.isState = false
      ∧ s.act.line.deferred = some k)
    ∧ (∃ (s : State),
      (s.act.line.sending = false ∨ s.act.line.txBits < 10 * s.act.line.txBytes.length)) :=
  ⟨⟨sending calm ⟨.state true, 0, true⟩ none, ⟨.state true, 0, true⟩, [], by and_intros <;> decide +kernel⟩,
    ⟨sending (onCoord (turn .bidding .quiesce) fun c => { c with bidWindow := none }) ⟨.restart .bid, 0, false⟩ none,
      ⟨.restart .bid, 0, false⟩, [], by and_intros <;> decide +kernel⟩,
    ⟨sending (onCoord (turn .bidding .quiesce) fun c => { c with bidWindow := none, claimOutstanding := true, claimPending := true })
      ⟨.restart .claim, 0, false⟩ none, ⟨.restart .claim, 0, false⟩, [], sound_of_parts (by decide +kernel),
      by and_intros <;> decide +kernel⟩,
    ⟨sending calm ⟨.restart .done, 0, false⟩ none, ⟨.restart .done, 0, false⟩, [],
      by and_intros <;> decide +kernel⟩,
    ⟨sending calm ⟨.restart .claim, 0, false⟩ (some .yield), ⟨.restart .claim, 0, false⟩, [], .yield,
      by and_intros <;> decide +kernel⟩,
    ⟨onLine (sending calm ⟨.state true, 0, false⟩ none) fun l => { l with txBits := 9 }, by decide +kernel⟩⟩

/-- States and operands that meet the hypotheses of LineTimersExpire, clause by clause. -/
theorem witness_LineTimersExpire :
    (∃ (s : State) (st : Stamp),
      s.act.line.Sound
      ∧ s.act.line.stuckTimer = some st
      ∧ 500 ≤ elapsed s.clock st
      ∧ s.act.line.stuck = false)
    ∧ (∃ (s : State) (st : Stamp),
      s.act.line.heartbeat = some st
      ∧ ((if s.act.line.fast then 100 else 1000) ≤ elapsed s.clock st))
    ∧ (∃ (s : State) (m : MuteTimer),
      s.act.line.mute = some m
      ∧ m.seconds * 1000 ≤ elapsed s.clock m.start
      ∧ (s.act.coord.phase ≠ .awaitPermit ∨ s.scanner.fault
        ∨ ((s.act.coord.permit = false ∨ s.act.line.stuck) ∧ (s.scanner.active 7 = false ∨ s.act.coord.keyWithheld))))
    ∧ (∃ (s : State) (m : MuteTimer),
      s.act.line.mute = some m
      ∧ m.seconds * 1000 ≤ elapsed s.clock m.start
      ∧ (s.act.coord.phase ≠ .awaitPermit ∨ s.scanner.fault
        ∨ ((s.act.coord.permit = false ∨ s.act.line.stuck) ∧ (s.scanner.active 7 = false ∨ s.act.coord.keyWithheld))))
    ∧ (∃ (s : State) (m : MuteTimer),
      s.act.line.Sound
      ∧ s.act.line.mute = some m
      ∧ m.seconds * 1000 ≤ elapsed s.clock m.start
      ∧ s.act.coord.phase = .awaitPermit
      ∧ ((s.act.coord.permit ∧ s.act.line.stuck = false) ∨ (s.scanner.active 7 ∧ s.act.coord.keyWithheld = false))
      ∧ s.scanner.fault = false)
    ∧ (∃ (s : State) (m : MuteTimer),
      s.act.line.Sound
      ∧ s.act.line.mute = some m
      ∧ m.seconds * 1000 ≤ elapsed s.clock m.start
      ∧ s.act.coord.phase = .awaitPermit
      ∧ ((s.act.coord.permit ∧ s.act.line.stuck = false) ∨ (s.scanner.active 7 ∧ s.act.coord.keyWithheld = false))
      ∧ s.scanner.fault = false)
    ∧ (∃ (s : State),
      (∀ st, s.act.line.stuckTimer = some st → elapsed s.clock st < 500))
    ∧ (∃ (s : State),
      (∀ st, s.act.line.heartbeat = some st → elapsed s.clock st < (if s.act.line.fast then 100 else 1000)))
    ∧ (∃ (s : State),
      (∀ m, s.act.line.mute = some m → elapsed s.clock m.start < m.seconds * 1000)) :=
  ⟨⟨onLine calm fun l => { l with condition := .busy, receiver := .skip, queue := [⟨.state true, 0, false⟩], stuckTimer := some (ago 500) },
      ago 500, by and_intros <;> decide +kernel⟩,
    ⟨calm, ago 1000, by decide +kernel⟩,
    ⟨onLine calm fun l => { l with mute := some ⟨ago 255000, 255⟩ }, ⟨ago 255000, 255⟩, by decide +kernel⟩,
    ⟨onLine (turn .awaitPermit .quiesce) fun l => { l with mute := some ⟨ago 1000, 1⟩ }, ⟨ago 1000, 1⟩,
      by decide +kernel⟩,
    ⟨onLine (onCoord (turn .awaitPermit .quiesce) fun c => { c with permit := true }) fun l => { l with mute := some ⟨ago 1000, 1⟩ },
      ⟨ago 1000, 1⟩, by and_intros <;> decide +kernel⟩,
    ⟨onLine (input (turn .awaitPermit .quiesce) 7 .active) fun l => { l with stuck := true, mute := some ⟨ago 1000, 1⟩ },
      ⟨ago 1000, 1⟩, by and_intros <;> decide +kernel⟩,
    ⟨onLine calm fun l => { l with stuckTimer := some (ago 499) }, fun _ h => by cases h; decide +kernel⟩,
    ⟨onLine calm fun l => { l with heartbeat := some (ago 999) }, fun _ h => by cases h; decide +kernel⟩,
    ⟨onLine calm fun l => { l with mute := some ⟨ago 999, 1⟩ }, fun _ h => by cases h; decide +kernel⟩⟩

/-- States and operands that meet the hypotheses of NoticesMarkTheQueue, clause by clause. -/
theorem witness_NoticesMarkTheQueue :
    (∃ (l : LineUnit),
      l.QueueSound
      ∧ (l.sending → l.queue ≠ []))
    ∧ (∃ (l : LineUnit),
      l.QueueSound
      ∧ (l.sending → l.queue ≠ []))
    ∧ (∃ (l : LineUnit),
      l.QueueSound
      ∧ (l.sending → l.queue ≠ [])) :=
  ⟨⟨(sending calm ⟨.restart .bid, 0, false⟩ none).act.line, by and_intros <;> decide +kernel⟩,
    ⟨(sending calm ⟨.state false, 0, false⟩ none).act.line, by and_intros <;> decide +kernel⟩,
    ⟨(awaiting calm [⟨.restart .bid, 0, false⟩, ⟨.state false, 255, false⟩] 0).act.line,
      by and_intros <;> decide +kernel⟩⟩

/-- States and operands that meet the hypotheses of RequestsKeepOneRestartTelegram, clause by clause. -/
theorem witness_RequestsKeepOneRestartTelegram :
    (∃ (l : LineUnit),
      l.QueueSound)
    ∧ (∃ (l : LineUnit),
      l.QueueSound)
    ∧ (∃ (l : LineUnit),
      l.QueueSound) :=
  ⟨⟨(sending calm ⟨.restart .claim, 0, false⟩ (some .claim)).act.line, by and_intros <;> decide +kernel⟩,
    ⟨(awaiting calm [⟨.restart .claim, 255, false⟩, ⟨.state false, 0, false⟩] 0).act.line,
      by and_intros <;> decide +kernel⟩,
    ⟨(awaiting calm [⟨.state true, 0, false⟩] 0).act.line, by and_intros <;> decide +kernel⟩⟩

/-- States and operands that meet the hypotheses of StateTelegramWritesTheRecord, clause by clause. -/
theorem witness_StateTelegramWritesTheRecord :
    (∃ (s : State) (sender : Byte) (payload : Vector Byte 12) (p : StatePayload),
      s.act.line.Hears
      ∧ stationSender sender
      ∧ sender ≠ s.sender
      ∧ StatePayload.decode? payload.toList = some p)
    ∧ (∃ (s : State) (sender : Byte) (payload : Vector Byte 12) (p : StatePayload),
      s.Sound
      ∧ s.act.line.Hears
      ∧ stationSender sender
      ∧ sender ≠ s.sender
      ∧ StatePayload.decode? payload.toList = some p
      ∧ s.assessor.detector = .calm
      ∧ s.act.coord.phase ≠ .backoff
      ∧ s.act.coord.step ≠ .postponed) :=
  ⟨⟨calm, 31, restPayload, calm.stateContent, by decide +kernel⟩,
    ⟨calm, 31, restPayload, calm.stateContent, sound_of_parts (by decide +kernel),
      by and_intros <;> decide +kernel⟩⟩

/-- States and operands that meet the hypotheses of RestartTelegramsWriteTheRecord, clause by clause. -/
theorem witness_RestartTelegramsWriteTheRecord :
    (∃ (s : State) (sender : Byte) (group : Byte),
      s.act.line.Hears
      ∧ stationSender sender
      ∧ sender ≠ s.sender
      ∧ groupByte group)
    ∧ (∃ (s : State) (sender : Byte) (group : Byte),
      s.act.line.Hears
      ∧ stationSender sender
      ∧ sender ≠ s.sender
      ∧ groupByte group)
    ∧ (∃ (s : State) (sender : Byte) (group : Byte),
      s.act.line.Hears
      ∧ stationSender sender
      ∧ sender ≠ s.sender
      ∧ groupByte group)
    ∧ (∃ (s : State) (sender : Byte) (group : Byte),
      s.act.line.Hears
      ∧ stationSender sender
      ∧ sender ≠ s.sender
      ∧ groupByte group) :=
  ⟨⟨calm, 31, 3, by decide +kernel⟩,
    ⟨calm, 31, 3, by decide +kernel⟩,
    ⟨calm, 31, 3, by decide +kernel⟩,
    ⟨calm, 31, 3, by decide +kernel⟩⟩

/-- States and operands that meet the hypotheses of LowerKeyClaimTakesTheTurnBack, clause by clause. -/
theorem witness_LowerKeyClaimTakesTheTurnBack :
    (∃ (s : State) (sender : Byte) (group : Byte),
      s.Sound
      ∧ s.act.line.Hears
      ∧ stationSender sender
      ∧ sender ≠ s.sender
      ∧ groupByte group
      ∧ (s.act.coord.phase = .contest ∨ (s.act.coord.phase = .bidding ∧ s.act.coord.claimPending))
      ∧ s.assessor.detector = .calm
      ∧ restartKey (BitVec.ofNat 2 group.toNat) sender.toNat < s.view.key)
    ∧ (∃ (s : State) (sender : Byte) (group : Byte),
      s.Sound
      ∧ s.act.line.Hears
      ∧ stationSender sender
      ∧ sender ≠ s.sender
      ∧ groupByte group
      ∧ (s.act.coord.phase = .contest ∨ (s.act.coord.phase = .bidding ∧ s.act.coord.claimPending))
      ∧ s.assessor.detector = .calm
      ∧ restartKey (BitVec.ofNat 2 group.toNat) sender.toNat < s.view.key)
    ∧ (∃ (s : State) (sender : Byte) (group : Byte),
      s.Sound
      ∧ s.act.line.Hears
      ∧ stationSender sender
      ∧ sender ≠ s.sender
      ∧ groupByte group
      ∧ (s.act.coord.phase = .contest ∨ s.act.coord.phase = .bidding)
      ∧ s.assessor.detector = .calm
      ∧ (s.view.key ≤ restartKey (BitVec.ofNat 2 group.toNat) sender.toNat ∨ (s.act.coord.phase = .bidding ∧ s.act.coord.claimPending = false)))
    ∧ (∃ (s : State) (sender : Byte) (group : Byte),
      s.Sound
      ∧ s.act.line.Hears
      ∧ stationSender sender
      ∧ sender ≠ s.sender
      ∧ groupByte group
      ∧ (s.act.coord.phase = .contest ∨ s.act.coord.phase = .bidding)
      ∧ s.assessor.detector = .calm
      ∧ (s.view.key ≤ restartKey (BitVec.ofNat 2 group.toNat) sender.toNat ∨ (s.act.coord.phase = .bidding ∧ s.act.coord.claimPending = false)))
    ∧ (∃ (s : State) (sender : Byte) (group : Byte),
      s.Sound
      ∧ s.act.line.Hears
      ∧ stationSender sender
      ∧ sender ≠ s.sender
      ∧ groupByte group
      ∧ (s.act.coord.phase = .contest ∨ s.act.coord.phase = .bidding)
      ∧ s.assessor.detector = .calm
      ∧ (s.view.key ≤ restartKey (BitVec.ofNat 2 group.toNat) sender.toNat ∨ (s.act.coord.phase = .bidding ∧ s.act.coord.claimPending = false))) :=
  ⟨⟨turn .contest .quiesce, 8, 1, sound_of_parts (by decide +kernel), by and_intros <;> decide +kernel⟩,
    ⟨onCoord (turn .bidding .quiesce) fun c => { c with bidWindow := none, claimOutstanding := true, claimPending := true },
      8, 1, sound_of_parts (by decide +kernel), by and_intros <;> decide +kernel⟩,
    ⟨turn .contest .quiesce, 10, 1, sound_of_parts (by decide +kernel), by and_intros <;> decide +kernel⟩,
    ⟨onCoord (turn .bidding .quiesce) fun c => { c with bidWindow := none, claimOutstanding := true, claimPending := true },
      10, 1, sound_of_parts (by decide +kernel), by and_intros <;> decide +kernel⟩,
    ⟨turn .bidding .quiesce, 8, 1, sound_of_parts (by decide +kernel), by and_intros <;> decide +kernel⟩⟩

/-- States and operands that meet the hypotheses of OwnNumberSetsTheDuplicateFlag, clause by clause. -/
theorem witness_OwnNumberSetsTheDuplicateFlag :
    (∃ (s : State) (group : Byte),
      s.act.line.Sound
      ∧ s.act.line.Hears
      ∧ groupByte group)
    ∧ (∃ (s : State) (payload : Vector Byte 12),
      s.act.line.Sound
      ∧ s.act.line.Hears
      ∧ payloadInRange payload) :=
  ⟨⟨calm, 3, by and_intros <;> decide +kernel⟩,
    ⟨calm, restPayload, by and_intros <;> decide +kernel⟩⟩

/-- States and operands that meet the hypotheses of PeerTimersExpire, clause by clause. -/
theorem witness_PeerTimersExpire :
    (∃ (s : State) (peer : BitVec 5) (st : Stamp),
      peer ≠ s.straps.stn
      ∧ s.peers.length = 32
      ∧ (recordOf s.peers peer.toNat).liveness = .live
      ∧ (recordOf s.peers peer.toNat).lastHeard = some st
      ∧ 3500 < elapsed s.clock st)
    ∧ (∃ (s : State) (peer : BitVec 5) (st : Stamp),
      peer ≠ s.straps.stn
      ∧ s.peers.length = 32
      ∧ (recordOf s.peers peer.toNat).liveness = .quiet
      ∧ (recordOf s.peers peer.toNat).lastHeard = some st
      ∧ 10000 < elapsed s.clock st)
    ∧ (∃ (s : State) (peer : BitVec 5) (st : Stamp),
      peer ≠ s.straps.stn
      ∧ s.peers.length = 32
      ∧ (recordOf s.peers peer.toNat).bid = some st
      ∧ 4000 < elapsed s.clock st)
    ∧ (∃ (s : State) (peer : BitVec 5) (st : Stamp),
      peer ≠ s.straps.stn
      ∧ s.peers.length = 32
      ∧ (recordOf s.peers peer.toNat).claim = some st
      ∧ 300000 ≤ elapsed s.clock st)
    ∧ (∃ (s : State) (peer : BitVec 5) (c : Instr),
      s.Sound
      ∧ c ∈ [.peerQuietExpiry peer, .peerLostExpiry peer, .bidPartExpiry peer, .claimPartExpiry peer]
      ∧ s.assessor.detector = .calm
      ∧ s.act.coord.phase ≠ .backoff
      ∧ s.act.coord.step ≠ .postponed)
    ∧ (∃ (s : State) (peer : BitVec 5),
      (peer = s.straps.stn ∨ (recordOf s.peers peer.toNat).liveness ≠ .live ∨ (recordOf s.peers peer.toNat).lastHeard.all fun st => elapsed s.clock st ≤ 3500))
    ∧ (∃ (s : State) (peer : BitVec 5),
      (peer = s.straps.stn ∨ (recordOf s.peers peer.toNat).liveness ≠ .live ∨ (recordOf s.peers peer.toNat).lastHeard.all fun st => elapsed s.clock st ≤ 3500))
    ∧ (∃ (s : State) (peer : BitVec 5),
      (peer = s.straps.stn ∨ (recordOf s.peers peer.toNat).liveness ≠ .live ∨ (recordOf s.peers peer.toNat).lastHeard.all fun st => elapsed s.clock st ≤ 3500))
    ∧ (∃ (s : State) (peer : BitVec 5),
      (peer = s.straps.stn ∨ (recordOf s.peers peer.toNat).liveness ≠ .quiet ∨ (recordOf s.peers peer.toNat).lastHeard.all fun st => elapsed s.clock st ≤ 10000))
    ∧ (∃ (s : State) (peer : BitVec 5),
      (peer = s.straps.stn ∨ (recordOf s.peers peer.toNat).liveness ≠ .quiet ∨ (recordOf s.peers peer.toNat).lastHeard.all fun st => elapsed s.clock st ≤ 10000))
    ∧ (∃ (s : State) (peer : BitVec 5),
      (peer = s.straps.stn ∨ (recordOf s.peers peer.toNat).bid.all fun st => elapsed s.clock st ≤ 4000))
    ∧ (∃ (s : State) (peer : BitVec 5),
      (peer = s.straps.stn ∨ (recordOf s.peers peer.toNat).claim.all fun st => elapsed s.clock st < 300000))
    ∧ (∃ (s : State) (peer : BitVec 5),
      (peer = s.straps.stn ∨ (recordOf s.peers peer.toNat).claim.all fun st => elapsed s.clock st < 300000)) :=
  ⟨⟨peer calm 31 (heardPeer .live 3501), 31, ago 3501, by decide +kernel⟩,
    ⟨peer calm 31 (heardPeer .quiet 10001), 31, ago 10001, by decide +kernel⟩,
    ⟨peer calm 31 { heardPeer .live 100 with bid := some (ago 4001) }, 31, ago 4001, by decide +kernel⟩,
    ⟨peer calm 0 { heardPeer .live 100 with claim := some (ago 300000) }, 0, ago 300000, by decide +kernel⟩,
    ⟨peer calm 31 (heardPeer .live 3501), 31, .peerQuietExpiry 31, sound_of_parts (by decide +kernel),
      by decide +kernel⟩,
    ⟨peer calm 31 (heardPeer .live 3500), 31, by decide +kernel⟩,
    ⟨calm, 9, by decide +kernel⟩,
    ⟨peer calm 31 (heardPeer .quiet 4000), 31, by decide +kernel⟩,
    ⟨peer calm 31 (heardPeer .quiet 10000), 31, by decide +kernel⟩,
    ⟨peer calm 31 (heardPeer .live 4000), 31, by decide +kernel⟩,
    ⟨peer calm 31 { heardPeer .live 100 with bid := some (ago 4000) }, 31, by decide +kernel⟩,
    ⟨peer calm 0 { heardPeer .quiet 9000 with claim := some (ago 299999) }, 0, by decide +kernel⟩,
    ⟨calm, 9, by decide +kernel⟩⟩

/-- States and operands that meet the hypotheses of NeedIsHeldWithinOneAndFour, clause by clause. -/
theorem witness_NeedIsHeldWithinOneAndFour :
    (∃ (able : Nat) (q : Nat) (n : Nat),
      1 ≤ able
      ∧ able * q ≤ 8 * n
      ∧ 8 * n < able * q + 8)
    ∧ (∃ (able : Nat) (q : Nat) (n : Nat),
      1 ≤ able
      ∧ able * q ≤ 8 * n
      ∧ 8 * n < able * q + 8)
    ∧ (∃ (v : View) (g : Grade) (onset : Stamp),
      1 ≤ v.able
      ∧ (v.assessor.detector = .event ∨ v.assessor.detector = .settling)
      ∧ v.assessor.event.grade = g
      ∧ v.assessor.event.onset = some onset)
    ∧ (∃ (v : View) (g : Grade),
      v.able = 0
      ∧ (v.assessor.detector = .event ∨ v.assessor.detector = .settling)
      ∧ v.assessor.grade = some g)
    ∧ (∃ (v : View),
      v.assessor.detector = .calm)
    ∧ (∃ (v : View),
      (v.assessor.detector = .capture ∨ v.assessor.detector = .blind))
    ∧ (∃ (v : View),
      (v.assessor.detector = .capture ∨ v.assessor.detector = .blind))
    ∧ (∃ (v : View),
      v.assessor.detector ≠ .event
      ∧ v.assessor.detector ≠ .settling)
    ∧ (∃ (v : View) (g : Grade) (onset : Stamp),
      v.able = 0
      ∧ (v.assessor.detector = .event ∨ v.assessor.detector = .settling)
      ∧ v.assessor.event.grade = g
      ∧ v.assessor.event.onset = some onset)
    ∧ (∃ (v : View) (g : Grade) (onset : Stamp),
      v.able = 0
      ∧ (v.assessor.detector = .event ∨ v.assessor.detector = .settling)
      ∧ v.assessor.event.grade = g
      ∧ v.assessor.event.onset = some onset) :=
  ⟨⟨1, 2, 1, by decide +kernel⟩,
    ⟨31, 4, 16, by decide +kernel⟩,
    ⟨(peer shaken 31 ablePeer).view, 6, ago 1500, by decide +kernel⟩,
    ⟨shaken.view, 6, by decide +kernel⟩,
    ⟨calm.view, by decide +kernel⟩,
    ⟨(onAssessor (onPort (peer calm 31 ablePeer) fun p => { p with status := .lost }) fun a => { a with detector := .blind }).view,
      by decide +kernel⟩,
    ⟨listening.view, by decide +kernel⟩,
    ⟨calm.view, by decide +kernel⟩,
    ⟨shaken.view, 6, ago 1500, by decide +kernel⟩,
    ⟨(onAssessor shaken fun a => { a with event := { a.event with onset := some (ago 1499) } }).view, 6, ago 1499,
      by decide +kernel⟩⟩

/-- States and operands that meet the hypotheses of JustifiedStageTable, clause by clause. -/
theorem witness_JustifiedStageTable :
    (∃ (g : Grade) (h : Grade),
      g ≤ h)
    ∧ (∃ (a : Assessor),
      a.detector.inEvent = false) :=
  ⟨⟨0, 7, by decide +kernel⟩,
    ⟨calm.assessor, by decide +kernel⟩⟩

/-- States and operands that meet the hypotheses of StageFallsOnlyByEnergizingOrStandDown, clause by clause. -/
theorem witness_StageFallsOnlyByEnergizingOrStandDown :
    (∃ (c : Instr) (s : State) (t : State),
      s.Sound
      ∧ exec c s = .next t
      ∧ t.act.seq.stage.code < s.act.seq.stage.code)
    ∧ (∃ (c : Instr) (s : State) (t : State),
      s.Sound
      ∧ exec c s = .next t
      ∧ t.act.seq.stage.code < s.act.seq.stage.code)
    ∧ (∃ (c : Instr) (s : State) (t : State),
      s.Sound
      ∧ exec c s = .next t
      ∧ t.act.seq.stage.code < s.act.seq.stage.code) :=
  ⟨⟨.standDownExpiry, alertDown 60000, after .standDownExpiry (alertDown 60000),
      sound_of_parts (by decide +kernel), rfl, by decide +kernel⟩,
    ⟨.releaseWaitExpiry, onCoord (turn .energizing .quiesce) fun c => { c with step := .releaseWait now },
      after .releaseWaitExpiry (onCoord (turn .energizing .quiesce) fun c => { c with step := .releaseWait now }),
      sound_of_parts (by decide +kernel), rfl, by decide +kernel⟩,
    ⟨.contestIntervalExpiry, turn .contest .alert, after .contestIntervalExpiry (turn .contest .alert),
      sound_of_parts (by decide +kernel), rfl, by decide +kernel⟩⟩

/-- States and operands that meet the hypotheses of GraceExpiryRequestsTheTrips, clause by clause. -/
theorem witness_GraceExpiryRequestsTheTrips :
    (∃ (s : State) (expiry : Stamp),
      s.act.seq.grace = .running expiry
      ∧ reached s.clock expiry)
    ∧ (∃ (s : State) (expiry : Stamp),
      s.act.seq.grace = .running expiry
      ∧ reached s.clock expiry
      ∧ s.act.drv.tripA.state = .ready
      ∧ s.act.drv.tripB.state = .ready
      ∧ s.act.drv.closeA.state = .ready
      ∧ (s.act.drv.closeB.state = .ready ∨ s.act.drv.closeB.state = .spent)
      ∧ s.act.drv.pulseQueue = []
      ∧ s.act.drv.gapServed s.clock
      ∧ s.scanner.active 0
      ∧ s.scanner.active 1)
    ∧ (∃ (s : State) (expiry : Stamp),
      s.act.seq.grace = .running expiry
      ∧ reached s.clock expiry
      ∧ s.act.drv.tripA.state = .ready
      ∧ s.act.drv.tripB.state = .ready
      ∧ s.act.drv.closeA.state = .ready
      ∧ (s.act.drv.closeB.state = .ready ∨ s.act.drv.closeB.state = .spent)
      ∧ s.act.seq.safeWait = false
      ∧ s.scanner.active 0 = false
      ∧ s.scanner.active 1 = false)
    ∧ (∃ (s : State),
      (∀ expiry, s.act.seq.grace = .running expiry → reached s.clock expiry = false)) :=
  ⟨⟨onSeq (turn .none .isolate) fun q => { q with grace := .running now }, now, by decide +kernel⟩,
    ⟨onSeq (turn .none .isolate) fun q => { q with grace := .running now }, now, by and_intros <;> decide +kernel⟩,
    ⟨input (input (onSeq (turn .none .isolate) fun q => { q with grace := .running now }) 0 .inactive) 1 .unknown,
      now, by and_intros <;> decide +kernel⟩,
    ⟨onSeq (turn .none .isolate) fun q => { q with grace := .running (now + 1) },
      fun _ h => by cases h; decide +kernel⟩⟩

/-- States and operands that meet the hypotheses of SoloDelayExpiryFormsTheTarget, clause by clause. -/
theorem witness_SoloDelayExpiryFormsTheTarget :
    (∃ (s : State) (e : Stamp),
      s.act.seq.solo = some e
      ∧ reached s.clock e
      ∧ s.act.seq.rejoinHold)
    ∧ (∃ (s : State) (e : Stamp),
      s.act.coord.Sound
      ∧ s.act.seq.solo = some e
      ∧ reached s.clock e
      ∧ s.act.seq.rejoinHold = false
      ∧ s.act.coord.phase ≠ .energizing)
    ∧ (∃ (s : State) (e : Stamp),
      s.act.seq.solo = some e
      ∧ reached s.clock e
      ∧ s.act.seq.rejoinHold = false
      ∧ s.act.coord.phase ≠ .energizing
      ∧ (target s.view).code ≤ s.act.seq.stage.code
      ∧ s.act.seq.floor.code ≤ s.act.seq.stage.code
      ∧ s.assessor.grade ≠ some 7)
    ∧ (∃ (s : State),
      (∀ e, s.act.seq.solo = some e → reached s.clock e = false))
    ∧ (∃ (s : State) (e : Stamp),
      s.act.coord.Sound
      ∧ s.act.drv.PulseSound
      ∧ s.act.seq.solo = some e
      ∧ reached s.clock e
      ∧ s.act.seq.rejoinHold = false
      ∧ s.act.coord.phase ≠ .energizing
      ∧ s.act.seq.stage.code < (target s.view).code)
    ∧ (∃ (s : State) (e : Stamp),
      s.act.coord.Sound
      ∧ s.act.drv.PulseSound
      ∧ s.act.seq.solo = some e
      ∧ reached s.clock e
      ∧ s.act.seq.rejoinHold = false
      ∧ s.act.coord.phase ≠ .energizing
      ∧ s.act.seq.stage.code < (target s.view).code)
    ∧ (∃ (s : State) (e : Stamp) (expiry : Stamp),
      s.act.coord.Sound
      ∧ s.act.drv.PulseSound
      ∧ s.act.seq.solo = some e
      ∧ reached s.clock e
      ∧ s.act.seq.rejoinHold = false
      ∧ s.act.coord.phase ≠ .energizing
      ∧ s.act.seq.grace = .running expiry)
    ∧ (∃ (s : State) (e : Stamp),
      s.act.line.Sound
      ∧ s.act.coord.Sound
      ∧ s.act.drv.PulseSound
      ∧ s.act.seq.solo = some e
      ∧ reached s.clock e
      ∧ s.act.seq.rejoinHold = false
      ∧ s.act.coord.phase = .energizing
      ∧ 2 ≤ (target s.view).code)
    ∧ (∃ (s : State) (e : Stamp),
      s.act.seq.solo = some e
      ∧ reached s.clock e
      ∧ s.act.seq.rejoinHold = false
      ∧ s.act.coord.phase = .energizing
      ∧ (target s.view = .alert ∨ (target s.view = .watch ∧ s.act.coord.step ≠ .postponed))
      ∧ (target s.view).code ≤ s.act.seq.stage.code
      ∧ s.act.seq.floor.code ≤ s.act.seq.stage.code)
    ∧ (∃ (s : State) (e : Stamp),
      s.Sound
      ∧ s.act.seq.solo = some e
      ∧ reached s.clock e
      ∧ s.act.coord.step = .postponed
      ∧ target s.view = .watch
      ∧ s.act.seq.floor = .watch
      ∧ s.act.drv.assertedAbove .alert = false
      ∧ s.act.drv.pulseQueue = [])
    ∧ (∃ (s : State) (e : Stamp),
      s.Sound
      ∧ s.act.seq.solo = some e
      ∧ reached s.clock e
      ∧ s.act.coord.step = .postponed
      ∧ target s.view = .watch
      ∧ s.act.seq.floor.code ≤ 1
      ∧ s.act.drv.assertedAbove .alert) :=
  ⟨⟨onSeq listening fun q => { q with solo := some 3000 }, 3000, by decide +kernel⟩,
    ⟨onSeq shaken fun q => { q with solo := some now }, now, by and_intros <;> decide +kernel⟩,
    ⟨onSeq calm fun q => { q with solo := some now }, now, by and_intros <;> decide +kernel⟩,
    ⟨onSeq calm fun q => { q with solo := some (now + 1) }, fun _ h => by cases h; decide +kernel⟩,
    ⟨onSeq shaken fun q => { q with solo := some now }, now, by and_intros <;> decide +kernel⟩,
    ⟨input (onSeq shaken fun q => { q with solo := some now }) 5 .active, now, by and_intros <;> decide +kernel⟩,
    ⟨onSeq shaken fun q => { q with solo := some now, stage := .isolate, grace := .running (now + 1) }, now,
      now + 1, by and_intros <;> decide +kernel⟩,
    ⟨onCoord (onSeq shaken fun q => { q with solo := some now, stage := .alert }) fun c => { c with
      phase := .energizing, claimOutstanding := true, step := .postponed }, now,
      by and_intros <;> decide +kernel⟩,
    ⟨onSeq (turn .energizing .alert) fun q => { q with solo := some now }, now, by and_intros <;> decide +kernel⟩,
    ⟨onCoord (onSeq (onAssessor (turn .energizing .alert) fun a => { a with
      detector := .event, event := ⟨1, some (ago 1500), 163, 1, false⟩ }) fun q => { q with solo := some now, target := .alert })
      fun c => { c with step := .postponed }, now, sound_of_parts (by decide +kernel),
      by and_intros <;> decide +kernel⟩,
    ⟨onCoord (onSeq (onAssessor (onDrv (turn .energizing .alert) fun d => { d with freeze := ⟨.asserted, none, false⟩ }) fun a => { a with
      detector := .event, event := ⟨1, some (ago 1500), 163, 1, false⟩ }) fun q => { q with solo := some now, target := .alert })
      fun c => { c with step := .postponed }, now, sound_of_parts (by decide +kernel),
      by and_intros <;> decide +kernel⟩⟩

/-- States and operands that meet the hypotheses of StandDownReturnsAlertToWatch, clause by clause. -/
theorem witness_StandDownReturnsAlertToWatch :
    (∃ (s : State) (st : Stamp),
      s.act.line.Sound
      ∧ s.act.seq.standDown = some st
      ∧ 60000 ≤ elapsed s.clock st
      ∧ s.act.seq.stage = .alert
      ∧ s.act.drv.assertedAbove .alert = false)
    ∧ (∃ (s : State),
      (∀ st, s.act.seq.standDown = some st → elapsed s.clock st < 60000)) :=
  ⟨⟨alertDown 60000, ago 60000, by and_intros <;> decide +kernel⟩,
    ⟨alertDown 59999, fun _ h => by cases h; decide +kernel⟩⟩

/-- States and operands that meet the hypotheses of LevelAndHoldTimersExpire, clause by clause. -/
theorem witness_LevelAndHoldTimersExpire :
    (∃ (s : State) (ch : LevelId) (st : Stamp),
      (s.act.drv.level ch).state = .testing
      ∧ (s.act.drv.level ch).testTimer = some st
      ∧ 2000 ≤ elapsed s.clock st)
    ∧ (∃ (s : State) (ch : HoldId) (st : Stamp),
      (s.act.drv.hold ch).state = .pullIn
      ∧ (s.act.drv.hold ch).pullInTimer = some st
      ∧ 300 ≤ elapsed s.clock st)
    ∧ (∃ (s : State) (ch : HoldId) (st : Stamp),
      s.act.line.Sound
      ∧ ((s.act.drv.hold ch).state = .pullIn ∨ (s.act.drv.hold ch).state = .holding)
      ∧ (s.act.drv.hold ch).window = some st
      ∧ ((if ch = .valve then 60000 else 10000) ≤ elapsed s.clock st))
    ∧ (∃ (s : State) (ch : HoldId) (st : Stamp),
      s.act.line.Sound
      ∧ (s.act.drv.hold ch).state = .releasing
      ∧ (s.act.drv.hold ch).window = some st
      ∧ ((if ch = .valve then 60000 else 10000) ≤ elapsed s.clock st)
      ∧ s.act.coord.step = .none)
    ∧ (∃ (s : State) (ch : HoldId) (st : Stamp) (valve : Bool) (coolstop : Bool),
      (s.act.drv.hold ch).state = .releasing
      ∧ (s.act.drv.hold ch).window = some st
      ∧ ((if ch = .valve then 60000 else 10000) ≤ elapsed s.clock st)
      ∧ s.act.seq.safeWait = false
      ∧ s.act.coord.phase = .energizing
      ∧ s.act.coord.step = .a valve coolstop
      ∧ ((if ch = .valve then valve else coolstop)))
    ∧ (∃ (s : State) (ch : LevelId),
      ((s.act.drv.level ch).state ≠ .testing ∨ (s.act.drv.level ch).testTimer.all fun st => elapsed s.clock st < 2000))
    ∧ (∃ (s : State) (ch : HoldId),
      ((s.act.drv.hold ch).state ≠ .pullIn ∨ (s.act.drv.hold ch).pullInTimer.all fun st => elapsed s.clock st < 300))
    ∧ (∃ (s : State) (ch : HoldId),
      ((s.act.drv.hold ch).window.all fun st => elapsed s.clock st < (if ch = .valve then 60000 else 10000))) :=
  ⟨⟨onDrv calm fun d => { d with haltreq := ⟨.testing, some (ago 2000), false⟩ }, .haltreq, ago 2000,
      by decide +kernel⟩,
    ⟨onDrv calm fun d => { d with valve := ⟨.pullIn, some (ago 300), some (ago 300), false, false⟩ }, .valve,
      ago 300, by decide +kernel⟩,
    ⟨onDrv calm fun d => { d with valve := ⟨.holding, none, some (ago 60000), false, false⟩ }, .valve, ago 60000,
      by and_intros <;> decide +kernel⟩,
    ⟨onDrv calm fun d => { d with coolstop := ⟨.releasing, none, some (ago 10000), false, false⟩ }, .coolstop,
      ago 10000, by and_intros <;> decide +kernel⟩,
    ⟨onCoord (onDrv (turn .energizing .safe) fun d => { d with valve := ⟨.releasing, none, some (ago 60000), false, false⟩ })
      fun c => { c with step := .a true false }, .valve, ago 60000, true, false,
      by and_intros <;> decide +kernel⟩,
    ⟨onDrv calm fun d => { d with advise := ⟨.testing, some (ago 1999), false⟩ }, .advise, by decide +kernel⟩,
    ⟨onDrv calm fun d => { d with coolstop := ⟨.pullIn, some (ago 299), none, false, false⟩ }, .coolstop,
      by decide +kernel⟩,
    ⟨onDrv calm fun d => { d with coolstop := ⟨.holding, none, some (ago 9999), false, false⟩ }, .coolstop,
      by decide +kernel⟩⟩

/-- States and operands that meet the hypotheses of PulseGapExpiryServesTheHead, clause by clause. -/
theorem witness_PulseGapExpiryServesTheHead :
    (∃ (s : State) (st : Stamp),
      s.act.drv.gap = some st
      ∧ 250 ≤ elapsed s.clock st
      ∧ (s.act.drv.pulseQueue = [] ∨ s.act.drv.anyFiring))
    ∧ (∃ (s : State) (st : Stamp) (id : PulseId) (rest : List PulseId),
      s.act.drv.gap = some st
      ∧ 250 ≤ elapsed s.clock st
      ∧ (∀ id ∈ pulseIds, (s.act.drv.pulse id).state ≠ .firing)
      ∧ s.act.drv.pulseQueue = id :: rest
      ∧ awaitedHolds s.scanner id = false
      ∧ (∀ p, id = .close p → s.act.coord.phase = .energizing))
    ∧ (∃ (s : State) (st : Stamp) (id : PulseId) (rest : List PulseId),
      s.act.drv.gap = some st
      ∧ 250 ≤ elapsed s.clock st
      ∧ (∀ id ∈ pulseIds, (s.act.drv.pulse id).state ≠ .firing)
      ∧ s.act.drv.pulseQueue = id :: rest
      ∧ awaitedHolds s.scanner id = false
      ∧ (∀ p, id = .close p → s.act.coord.phase = .energizing))
    ∧ (∃ (s : State) (st : Stamp) (p : Pdu),
      s.act.drv.gap = some st
      ∧ 250 ≤ elapsed s.clock st
      ∧ (∀ id ∈ pulseIds, (s.act.drv.pulse id).state ≠ .firing)
      ∧ s.act.drv.pulseQueue = [.trip p]
      ∧ pduOpen s.scanner p
      ∧ s.act.seq.safeWait = false)
    ∧ (∃ (s : State) (st : Stamp) (p : Pdu),
      s.act.drv.gap = some st
      ∧ 250 ≤ elapsed s.clock st
      ∧ (∀ id ∈ pulseIds, (s.act.drv.pulse id).state ≠ .firing)
      ∧ s.act.drv.pulseQueue = [.close p]
      ∧ s.act.coord.phase ≠ .energizing)
    ∧ (∃ (s : State),
      (s.act.drv.gap.all fun st => elapsed s.clock st < 250)) :=
  ⟨⟨onDrv calm fun d => { d with gap := some (ago 250) }, ago 250, by decide +kernel⟩,
    ⟨onDrv calm fun d => { d with gap := some (ago 250), tripA := ⟨.queued, some .first, none, none, false, false⟩, pulseQueue := [.trip .a] },
      ago 250, .trip .a, [], by and_intros <;> first | decide +kernel | exact fun _ h => by cases h⟩,
    ⟨input (onDrv (turn .energizing .isolate) fun d => { d with gap := some (ago 250), closeB := ⟨.queued, some .first, none, none, false, false⟩, pulseQueue := [.close .b] }) 1 .inactive,
      ago 250, .close .b, [], by and_intros <;> first | decide +kernel | exact fun _ _ => by decide +kernel⟩,
    ⟨input (onDrv calm fun d => { d with gap := some (ago 250), tripA := ⟨.queued, some .first, none, none, false, false⟩, pulseQueue := [.trip .a] }) 0 .inactive,
      ago 250, .a, by and_intros <;> decide +kernel⟩,
    ⟨onDrv calm fun d => { d with gap := some (ago 250), closeB := ⟨.queued, some .first, none, none, false, false⟩, pulseQueue := [.close .b] },
      ago 250, .b, by decide +kernel⟩,
    ⟨onDrv calm fun d => { d with gap := some (ago 249) }, by decide +kernel⟩⟩

/-- States and operands that meet the hypotheses of PulseTimerExpiryChecksTheBreaker, clause by clause. -/
theorem witness_PulseTimerExpiryChecksTheBreaker :
    (∃ (s : State) (id : PulseId) (st : Stamp),
      (s.act.drv.pulse id).state = .firing
      ∧ (s.act.drv.pulse id).pulseTimer = some st
      ∧ 200 ≤ elapsed s.clock st
      ∧ s.scanner.fault = false
      ∧ awaitedHolds s.scanner id = false)
    ∧ (∃ (s : State) (p : Pdu) (st : Stamp),
      (s.act.drv.pulse (.trip p)).state = .firing
      ∧ (s.act.drv.pulse (.trip p)).pulseTimer = some st
      ∧ 200 ≤ elapsed s.clock st
      ∧ s.scanner.fault = false
      ∧ pduOpen s.scanner p
      ∧ s.act.seq.safeWait = false)
    ∧ (∃ (s : State) (p : Pdu) (st : Stamp),
      (s.act.drv.pulse (.trip p)).state = .firing
      ∧ (s.act.drv.pulse (.trip p)).pulseTimer = some st
      ∧ 200 ≤ elapsed s.clock st
      ∧ s.scanner.fault
      ∧ s.act.seq.safeWait = false)
    ∧ (∃ (s : State) (p : Pdu) (st : Stamp) (closeA : Bool) (closeB : Bool),
      (s.act.drv.pulse (.close p)).state = .firing
      ∧ (s.act.drv.pulse (.close p)).pulseTimer = some st
      ∧ 200 ≤ elapsed s.clock st
      ∧ s.scanner.fault = false
      ∧ pduOpen s.scanner p = false
      ∧ s.act.coord.phase = .energizing
      ∧ s.act.coord.step = .b closeA closeB
      ∧ ((if p = .a then closeA else closeB))
      ∧ ((s.act.drv.pulse (.trip p)).state = .spent ∨ (s.act.drv.pulse (.trip p)).state = .failed))
    ∧ (∃ (s : State) (p : Pdu) (st : Stamp) (closeA : Bool) (closeB : Bool),
      (s.act.drv.pulse (.close p)).state = .firing
      ∧ (s.act.drv.pulse (.close p)).pulseTimer = some st
      ∧ 200 ≤ elapsed s.clock st
      ∧ s.scanner.fault = false
      ∧ pduOpen s.scanner p = false
      ∧ s.act.coord.phase = .energizing
      ∧ s.act.coord.step = .b closeA closeB
      ∧ ((if p = .a then closeA else closeB))
      ∧ ((s.act.drv.pulse (.trip p)).state = .spent ∨ (s.act.drv.pulse (.trip p)).state = .failed))
    ∧ (∃ (s : State) (p : Pdu) (st : Stamp),
      (s.act.drv.pulse (.trip p)).state = .firing
      ∧ (s.act.drv.pulse (.trip p)).pulseTimer = some st
      ∧ 200 ≤ elapsed s.clock st
      ∧ (s.scanner.fault ∨ pduOpen s.scanner p)
      ∧ s.act.seq.safeWait
      ∧ (∀ q, q ≠ p → (s.act.drv.pulse (.trip q)).state = .spent ∨ (s.act.drv.pulse (.trip q)).state = .failed))
    ∧ (∃ (s : State) (id : PulseId),
      ((s.act.drv.pulse id).state ≠ .firing ∨ (s.act.drv.pulse id).pulseTimer.all fun st => elapsed s.clock st < 200)) :=
  ⟨⟨onDrv calm fun d => { d with tripA := ⟨.firing, some .first, some (ago 200), none, false, false⟩ }, .trip .a,
      ago 200, by decide +kernel⟩,
    ⟨input (onDrv calm fun d => { d with tripA := ⟨.firing, some .first, some (ago 200), none, false, false⟩ }) 0 .inactive,
      .a, ago 200, by and_intros <;> decide +kernel⟩,
    ⟨onScanner (onDrv calm fun d => { d with tripA := ⟨.firing, some .first, some (ago 200), none, false, false⟩ }) fun sc => { sc with fault := true, badScans := 3 },
      .a, ago 200, by decide +kernel⟩,
    ⟨onCoord (onDrv (turn .energizing .isolate) fun d => { d with
      closeB := ⟨.firing, some .second, some (ago 200), none, false, false⟩
      tripB := ⟨.spent, none, none, none, false, false⟩ }) fun c => { c with step := .b false true }, .b,
      ago 200, false, true, by and_intros <;> decide +kernel⟩,
    ⟨onCoord (onDrv (turn .energizing .isolate) fun d => { d with
      closeB := ⟨.firing, some .second, some (ago 200), none, false, false⟩
      tripB := ⟨.spent, none, none, none, false, false⟩ }) fun c => { c with step := .b true true }, .b, ago 200,
      true, true, by and_intros <;> decide +kernel⟩,
    ⟨input (onSeq (onDrv (turn .none .safe) fun d => { d with
      tripA := ⟨.firing, some .second, some (ago 200), none, false, false⟩
      tripB := ⟨.failed, none, none, none, false, true⟩ }) fun q => { q with safeWait := true }) 0 .inactive, .a,
      ago 200,
      by and_intros <;> first | decide +kernel | exact fun q h => by cases q; exacts [absurd rfl h, by decide +kernel]⟩,
    ⟨onDrv calm fun d => { d with tripA := ⟨.firing, some .first, some (ago 199), none, false, false⟩ }, .trip .a,
      by decide +kernel⟩⟩

/-- States and operands that meet the hypotheses of PulseWindowExpiryRetriesOnce, clause by clause. -/
theorem witness_PulseWindowExpiryRetriesOnce :
    (∃ (s : State) (id : PulseId) (st : Stamp),
      (s.act.drv.pulse id).state = .checking
      ∧ (s.act.drv.pulse id).window = some st
      ∧ pulseWindow id ≤ elapsed s.clock st
      ∧ (s.act.drv.pulse id).attempt = some .first
      ∧ (s.act.drv.anyFiring ∨ s.act.drv.gapServed s.clock = false))
    ∧ (∃ (s : State) (id : PulseId) (st : Stamp),
      (s.act.drv.pulse id).state = .checking
      ∧ (s.act.drv.pulse id).window = some st
      ∧ pulseWindow id ≤ elapsed s.clock st
      ∧ (s.act.drv.pulse id).attempt = some .first
      ∧ (∀ id ∈ pulseIds, (s.act.drv.pulse id).state ≠ .firing)
      ∧ s.act.drv.gapServed s.clock
      ∧ s.act.drv.pulseQueue = []
      ∧ awaitedHolds s.scanner id = false
      ∧ (∀ p, id = .close p → s.act.coord.phase = .energizing))
    ∧ (∃ (s : State) (id : PulseId) (st : Stamp),
      s.act.line.Sound
      ∧ (s.act.drv.pulse id).state = .checking
      ∧ (s.act.drv.pulse id).window = some st
      ∧ pulseWindow id ≤ elapsed s.clock st
      ∧ (s.act.drv.pulse id).attempt = some .second
      ∧ s.act.seq.safeWait = false
      ∧ s.act.coord.step = .none)
    ∧ (∃ (s : State) (p : Pdu) (st : Stamp) (closeA : Bool) (closeB : Bool),
      s.act.drv.PulseSound
      ∧ (s.act.drv.pulse (.close p)).state = .checking
      ∧ (s.act.drv.pulse (.close p)).window = some st
      ∧ 2000 ≤ elapsed s.clock st
      ∧ (s.act.drv.pulse (.close p)).attempt = some .second
      ∧ s.act.coord.phase = .energizing
      ∧ s.act.coord.step = .b closeA closeB
      ∧ ((if p = .a then closeA else closeB)))
    ∧ (∃ (s : State) (id : PulseId),
      ((s.act.drv.pulse id).state ≠ .checking ∨ (s.act.drv.pulse id).window.all fun st => elapsed s.clock st < pulseWindow id)) :=
  ⟨⟨onDrv calm fun d => { d with gap := some (ago 249), tripA := ⟨.checking, some .first, none, some (ago 500), false, false⟩ },
      .trip .a, ago 500, by decide +kernel⟩,
    ⟨onDrv calm fun d => { d with gap := some (ago 250), tripA := ⟨.checking, some .first, none, some (ago 500), false, false⟩ },
      .trip .a, ago 500, by and_intros <;> first | decide +kernel | exact fun _ h => by cases h⟩,
    ⟨onDrv calm fun d => { d with gap := some (ago 500), tripA := ⟨.checking, some .second, none, some (ago 500), false, false⟩ },
      .trip .a, ago 500, by and_intros <;> decide +kernel⟩,
    ⟨onCoord (onDrv (turn .energizing .isolate) fun d => { d with
      closeA := ⟨.checking, some .second, none, some (ago 2000), false, false⟩ }) fun c => { c with step := .b true true },
      .a, ago 2000, true, true, by and_intros <;> decide +kernel⟩,
    ⟨onDrv calm fun d => { d with gap := some (ago 499), tripA := ⟨.checking, some .first, none, some (ago 499), false, false⟩ },
      .trip .a, by decide +kernel⟩⟩

/-- States and operands that meet the hypotheses of TripRequestDealsWithTheClose, clause by clause. -/
theorem witness_TripRequestDealsWithTheClose :
    (∃ (d : Driver),
      d.PulseSound)
    ∧ (∃ (d : Driver),
      d.PulseSound) :=
  ⟨⟨{ Driver.reset with closeB := ⟨.queued, some .first, none, none, false, false⟩, pulseQueue := [.close .b] },
      by and_intros <;> decide +kernel⟩,
    ⟨{ Driver.reset with closeA := ⟨.spent, none, none, none, false, false⟩ }, by and_intros <;> decide +kernel⟩⟩

/-- States and operands that meet the hypotheses of OutputsFollowTheChannels, clause by clause. -/
theorem witness_OutputsFollowTheChannels :
    ∃ (d : Driver),
      d.PulseSound :=
  ⟨{ Driver.reset with valve := ⟨.failed true, none, none, false, true⟩, advise := ⟨.testing, some now, false⟩ },
      by and_intros <;> decide +kernel⟩

/-- States and operands that meet the hypotheses of BadScansRaiseTheFault, clause by clause. -/
theorem witness_BadScansRaiseTheFault :
    (∃ (s : State),
      10 ≤ elapsed s.clock s.scanner.timer)
    ∧ (∃ (s : State),
      elapsed s.clock s.scanner.timer < 10)
    ∧ (∃ (s : State),
      s.scanner.scanning = false)
    ∧ (∃ (s : State) (frame : BitVec 24),
      s.scanner.Sound
      ∧ s.scanner.scanning
      ∧ frame.extractLsb' 16 8 ≠ 0x2D
      ∧ s.scanner.fault = false
      ∧ s.scanner.badScans < 2)
    ∧ (∃ (s : State) (frame : BitVec 24),
      s.act.line.Sound
      ∧ s.scanner.scanning
      ∧ frame.extractLsb' 16 8 ≠ 0x2D
      ∧ s.scanner.fault = false
      ∧ s.scanner.badScans = 2)
    ∧ (∃ (s : State) (frame : BitVec 24),
      s.act.drv.PulseSound
      ∧ s.scanner.scanning
      ∧ frame.extractLsb' 16 8 ≠ 0x2D
      ∧ s.scanner.fault = false
      ∧ s.scanner.badScans = 2
      ∧ s.startup.state ≠ .awaitingInputs)
    ∧ (∃ (s : State) (frame : BitVec 24),
      s.scanner.Sound
      ∧ s.scanner.scanning
      ∧ frame.extractLsb' 16 8 ≠ 0x2D
      ∧ s.scanner.fault) :=
  ⟨⟨calm, by decide +kernel⟩,
    ⟨onScanner calm fun sc => { sc with timer := ago 9 }, by decide +kernel⟩,
    ⟨onScanner calm fun sc => { sc with scanning := false }, by decide +kernel⟩,
    ⟨onScanner calm fun sc => { sc with badScans := 1 }, 0x2C0003, by and_intros <;> decide +kernel⟩,
    ⟨onScanner calm fun sc => { sc with badScans := 2 }, 0x2C0003, by and_intros <;> decide +kernel⟩,
    ⟨onScanner (onDrv calm fun d => { d with
      tripA := ⟨.checking, some .first, none, some (ago 499), false, false⟩, valve := ⟨.pullIn, some (ago 299), some (ago 299), false, false⟩
      coolstop := ⟨.releasing, none, some (ago 9999), false, true⟩ }) fun sc => { sc with badScans := 2 },
      0x2C0003, by and_intros <;> decide +kernel⟩,
    ⟨onScanner calm fun sc => { sc with badScans := 3, fault := true, recovery := 2 }, 0x2C0003,
      by and_intros <;> decide +kernel⟩⟩

/-- States and operands that meet the hypotheses of GoodScansDebounceTheInputs, clause by clause. -/
theorem witness_GoodScansDebounceTheInputs :
    (∃ (s : State) (frame : BitVec 24) (i : Nat) (c : ContactInput),
      s.scanner.Sound
      ∧ s.scanner.scanning
      ∧ frame.extractLsb' 16 8 = 0x2D
      ∧ s.scanner.fault = false
      ∧ s.scanner.inputs[i]? = some c)
    ∧ (∃ (s : State) (frame : BitVec 24) (i : Nat) (c : ContactInput),
      s.scanner.Sound
      ∧ s.scanner.scanning
      ∧ frame.extractLsb' 16 8 = 0x2D
      ∧ s.scanner.fault
      ∧ s.scanner.recovery < 2
      ∧ s.scanner.inputs[i]? = some c)
    ∧ (∃ (s : State) (frame : BitVec 24) (i : Nat) (c : ContactInput),
      s.scanner.Sound
      ∧ s.scanner.scanning
      ∧ frame.extractLsb' 16 8 = 0x2D
      ∧ s.scanner.fault
      ∧ s.scanner.recovery = 2
      ∧ s.scanner.inputs[i]? = some c)
    ∧ (∃ (s : State) (frame : BitVec 24) (c : ContactInput),
      s.scanner.Sound
      ∧ s.scanner.scanning
      ∧ frame.extractLsb' 16 8 = 0x2D
      ∧ s.scanner.fault = false
      ∧ s.scanner.inputs[6]? = some c
      ∧ c.value ≠ .active
      ∧ c.candidate = some true
      ∧ c.agreement = 2
      ∧ frame.getLsbD 6)
    ∧ (∃ (s : State) (frame : BitVec 24) (c : ContactInput),
      s.scanner.Sound
      ∧ s.scanner.scanning
      ∧ frame.extractLsb' 16 8 = 0x2D
      ∧ s.scanner.fault = false
      ∧ s.scanner.inputs[7]? = some c
      ∧ c.value = .active
      ∧ c.candidate = some false
      ∧ c.agreement = 2
      ∧ frame.getLsbD 7 = false)
    ∧ (∃ (s : State) (frame : BitVec 24),
      s.scanner.Sound
      ∧ s.scanner.scanning
      ∧ frame.extractLsb' 16 8 = 0x2D
      ∧ s.act.drv.PulseSound
      ∧ s.scanner.fault
      ∧ s.scanner.recovery = 2
      ∧ s.act.coord.phase ≠ .energizing)
    ∧ (∃ (s : State) (frame : BitVec 24) (c : ContactInput) (expiry : Stamp),
      s.scanner.Sound
      ∧ s.scanner.scanning
      ∧ frame.extractLsb' 16 8 = 0x2D
      ∧ s.act.drv.PulseSound
      ∧ s.act.coord.Sound
      ∧ s.scanner.fault = false
      ∧ s.startup.state ≠ .awaitingInputs
      ∧ s.act.coord.phase ≠ .energizing
      ∧ s.act.seq.grace = .running expiry
      ∧ s.scanner.inputs[5]? = some c
      ∧ c.value ≠ .active
      ∧ c.candidate = some true
      ∧ c.agreement = 2
      ∧ frame.getLsbD 5)
    ∧ (∃ (s : State) (frame : BitVec 24) (id : HoldId) (c : ContactInput),
      s.scanner.Sound
      ∧ s.scanner.scanning
      ∧ frame.extractLsb' 16 8 = 0x2D
      ∧ s.scanner.fault = false
      ∧ s.startup.state ≠ .awaitingInputs
      ∧ ((s.act.drv.hold id).state = .pullIn ∨ (s.act.drv.hold id).state = .holding)
      ∧ s.scanner.inputs[limitContact id]? = some c
      ∧ c.value ≠ .active
      ∧ c.candidate = some true
      ∧ c.agreement = 2
      ∧ frame.getLsbD (limitContact id))
    ∧ (∃ (s : State) (frame : BitVec 24) (id : HoldId) (c : ContactInput),
      s.scanner.Sound
      ∧ s.scanner.scanning
      ∧ frame.extractLsb' 16 8 = 0x2D
      ∧ s.act.StageSound
      ∧ s.act.coord.Sound
      ∧ s.scanner.fault = false
      ∧ s.startup.state ≠ .awaitingInputs
      ∧ s.act.coord.phase ≠ .energizing
      ∧ s.act.seq.safeWait = false
      ∧ (s.act.drv.hold id).state = .releasing
      ∧ s.scanner.inputs[limitContact id]? = some c
      ∧ c.value ≠ .inactive
      ∧ c.candidate = some false
      ∧ c.agreement = 2
      ∧ frame.getLsbD (limitContact id) = false)
    ∧ (∃ (s : State) (frame : BitVec 24) (p : Pdu) (c : ContactInput),
      s.scanner.Sound
      ∧ s.scanner.scanning
      ∧ frame.extractLsb' 16 8 = 0x2D
      ∧ s.scanner.fault = false
      ∧ (s.act.drv.pulse (.trip p)).state = .checking
      ∧ s.scanner.inputs[pduContact p]? = some c
      ∧ c.value ≠ .inactive
      ∧ c.candidate = some false
      ∧ c.agreement = 2
      ∧ frame.getLsbD (pduContact p) = false)
    ∧ (∃ (s : State) (frame : BitVec 24) (p : Pdu) (c : ContactInput),
      s.scanner.Sound
      ∧ s.scanner.scanning
      ∧ frame.extractLsb' 16 8 = 0x2D
      ∧ s.act.drv.PulseSound
      ∧ s.act.coord.Sound
      ∧ s.scanner.fault = false
      ∧ s.act.coord.phase ≠ .energizing
      ∧ (s.act.drv.pulse (.close p)).state = .checking
      ∧ s.scanner.inputs[pduContact p]? = some c
      ∧ c.value ≠ .active
      ∧ c.candidate = some true
      ∧ c.agreement = 2
      ∧ frame.getLsbD (pduContact p))
    ∧ (∃ (s : State) (frame : BitVec 24) (id : HoldId) (c : ContactInput),
      s.scanner.Sound
      ∧ s.scanner.scanning
      ∧ frame.extractLsb' 16 8 = 0x2D
      ∧ s.scanner.fault = false
      ∧ s.startup.state ≠ .awaitingInputs
      ∧ s.act.coord.phase = .energizing
      ∧ s.act.coord.step = .a true true
      ∧ (s.act.drv.hold id).state = .releasing
      ∧ s.scanner.inputs[limitContact id]? = some c
      ∧ c.value ≠ .inactive
      ∧ c.candidate = some false
      ∧ c.agreement = 2
      ∧ frame.getLsbD (limitContact id) = false
      ∧ (∀ j ∈ List.range 16, j ≠ limitContact id → s.scanner.value j = (if frame.getLsbD j then .active else .inactive)))
    ∧ (∃ (s : State) (frame : BitVec 24) (id : HoldId) (c : ContactInput),
      s.Sound
      ∧ s.scanner.scanning
      ∧ frame.extractLsb' 16 8 = 0x2D
      ∧ s.scanner.fault = false
      ∧ s.startup.state ≠ .awaitingInputs
      ∧ s.act.coord.step = .a (id = .valve) (id = .coolstop)
      ∧ s.act.coord.holdPending = false
      ∧ (s.act.drv.hold id).state = .releasing
      ∧ s.act.seq.demand.code ≤ 3
      ∧ s.act.drv.tripA.state = .spent
      ∧ s.act.drv.tripB.state = .spent
      ∧ s.act.drv.closeA.state = .ready
      ∧ s.act.drv.closeB.state = .ready
      ∧ s.scanner.active 0 = false
      ∧ s.scanner.active 1 = false
      ∧ s.scanner.inputs[limitContact id]? = some c
      ∧ c.value ≠ .inactive
      ∧ c.candidate = some false
      ∧ c.agreement = 2
      ∧ frame.getLsbD (limitContact id) = false
      ∧ (∀ j ∈ List.range 16, j ≠ limitContact id → s.scanner.value j = (if frame.getLsbD j then .active else .inactive)))
    ∧ (∃ (s : State) (frame : BitVec 24) (p : Pdu) (c : ContactInput) (closeA : Bool) (closeB : Bool),
      s.scanner.Sound
      ∧ s.scanner.scanning
      ∧ frame.extractLsb' 16 8 = 0x2D
      ∧ s.scanner.fault = false
      ∧ s.startup.state ≠ .awaitingInputs
      ∧ s.act.coord.phase = .energizing
      ∧ s.act.coord.step = .b closeA closeB
      ∧ ((if p = .a then closeA else closeB))
      ∧ (s.act.drv.pulse (.close p)).state = .checking
      ∧ ((s.act.drv.pulse (.trip p)).state = .spent ∨ (s.act.drv.pulse (.trip p)).state = .failed)
      ∧ s.scanner.inputs[pduContact p]? = some c
      ∧ c.value ≠ .active
      ∧ c.candidate = some true
      ∧ c.agreement = 2
      ∧ frame.getLsbD (pduContact p)
      ∧ (∀ j ∈ List.range 16, j ≠ pduContact p → s.scanner.value j = (if frame.getLsbD j then .active else .inactive)))
    ∧ (∃ (s : State) (frame : BitVec 24) (c : ContactInput),
      s.scanner.Sound
      ∧ s.scanner.scanning
      ∧ frame.extractLsb' 16 8 = 0x2D
      ∧ s.act.line.Sound
      ∧ s.scanner.fault = false
      ∧ s.startup.state ≠ .awaitingInputs
      ∧ s.act.coord.phase = .awaitPermit
      ∧ (s.act.coord.keyWithheld = false ∨ (s.act.coord.permit ∧ s.act.line.stuck = false))
      ∧ s.act.line.mute = none
      ∧ s.scanner.inputs[7]? = some c
      ∧ c.value ≠ .active
      ∧ c.candidate = some true
      ∧ c.agreement = 2
      ∧ frame.getLsbD (7)
      ∧ (∀ j ∈ List.range 16, j ≠ 7 → s.scanner.value j = (if frame.getLsbD j then .active else .inactive)))
    ∧ (∃ (s : State) (frame : BitVec 24) (c : ContactInput),
      s.scanner.Sound
      ∧ s.scanner.scanning
      ∧ frame.extractLsb' 16 8 = 0x2D
      ∧ s.scanner.fault = false
      ∧ s.startup.state ≠ .awaitingInputs
      ∧ (s.act.coord.phase ≠ .awaitPermit ∨ s.act.line.mute ≠ none ∨ (s.act.coord.keyWithheld ∧ (s.act.coord.permit = false ∨ s.act.line.stuck)))
      ∧ s.scanner.inputs[7]? = some c
      ∧ c.value ≠ .active
      ∧ c.candidate = some true
      ∧ c.agreement = 2
      ∧ frame.getLsbD (7)
      ∧ (∀ j ∈ List.range 16, j ≠ 7 → s.scanner.value j = (if frame.getLsbD j then .active else .inactive)))
    ∧ (∃ (s : State) (frame : BitVec 24) (c : ContactInput),
      s.scanner.Sound
      ∧ s.scanner.scanning
      ∧ frame.extractLsb' 16 8 = 0x2D
      ∧ s.scanner.fault = false
      ∧ s.startup.state ≠ .awaitingInputs
      ∧ (s.act.coord.phase ≠ .awaitPermit ∨ s.act.line.mute ≠ none ∨ (s.act.coord.keyWithheld ∧ (s.act.coord.permit = false ∨ s.act.line.stuck)))
      ∧ s.scanner.inputs[7]? = some c
      ∧ c.value ≠ .active
      ∧ c.candidate = some true
      ∧ c.agreement = 2
      ∧ frame.getLsbD (7)
      ∧ (∀ j ∈ List.range 16, j ≠ 7 → s.scanner.value j = (if frame.getLsbD j then .active else .inactive)))
    ∧ (∃ (s : State) (frame : BitVec 24),
      s.scanner.Sound
      ∧ s.scanner.scanning
      ∧ frame.extractLsb' 16 8 = 0x2D
      ∧ s.act.line.Sound
      ∧ s.act.coord.Sound
      ∧ s.scanner.fault
      ∧ s.scanner.recovery = 2
      ∧ s.act.coord.phase = .awaitPermit
      ∧ (∀ j ∈ List.range 16, s.scanner.value j = (if frame.getLsbD j then .active else .inactive))) :=
  ⟨⟨onScanner calm fun sc => { sc with inputs := sc.inputs.set 15 ⟨.inactive, some true, 2⟩ }, 0x2D8003, 15,
      ⟨.inactive, some true, 2⟩, by and_intros <;> decide +kernel⟩,
    ⟨onScanner calm fun sc => { sc with inputs := sc.inputs.set 15 ⟨.inactive, some true, 1⟩, badScans := 3, fault := true, recovery := 1 },
      0x2D8003, 15, ⟨.inactive, some true, 1⟩, by and_intros <;> decide +kernel⟩,
    ⟨onScanner calm fun sc => { sc with inputs := sc.inputs.set 0 ⟨.active, some false, 2⟩, badScans := 3, fault := true, recovery := 2 },
      0x2D0002, 0, ⟨.active, some false, 2⟩, by and_intros <;> decide +kernel⟩,
    ⟨onScanner calm fun sc => { sc with inputs := sc.inputs.set 6 ⟨.inactive, some true, 2⟩ }, 0x2D0043,
      ⟨.inactive, some true, 2⟩, by and_intros <;> decide +kernel⟩,
    ⟨onScanner calm fun sc => { sc with inputs := sc.inputs.set 7 ⟨.active, some false, 2⟩ }, 0x2D0003,
      ⟨.active, some false, 2⟩, by and_intros <;> decide +kernel⟩,
    ⟨onScanner (onDrv calm fun d => { d with
      closeA := ⟨.spent, none, none, none, true, false⟩, tripA := ⟨.spent, none, none, none, false, false⟩
      tripB := ⟨.spent, none, none, none, true, false⟩, valve := ⟨.holding, none, none, true, false⟩
      coolstop := ⟨.off, none, none, true, false⟩ }) fun sc => { sc with badScans := 3, fault := true, recovery := 2 },
      0x2D0003, by and_intros <;> decide +kernel⟩,
    ⟨onSeq (onScanner calm fun sc => { sc with inputs := sc.inputs.set 5 ⟨.unknown, some true, 2⟩ }) fun q => { q with
      stage := .isolate, grace := .running (now + 1) }, 0x2D0023, ⟨.unknown, some true, 2⟩, now + 1,
      by and_intros <;> decide +kernel⟩,
    ⟨onScanner (onDrv calm fun d => { d with valve := ⟨.pullIn, some (ago 299), some (ago 299), false, false⟩ }) fun sc => { sc with inputs := sc.inputs.set 2 ⟨.inactive, some true, 2⟩ },
      0x2D0007, .valve, ⟨.inactive, some true, 2⟩, by and_intros <;> decide +kernel⟩,
    ⟨onScanner (onDrv calm fun d => { d with coolstop := ⟨.releasing, none, some (ago 9999), false, false⟩ }) fun sc => { sc with inputs := sc.inputs.set 3 ⟨.active, some false, 2⟩ },
      0x2D0003, .coolstop, ⟨.active, some false, 2⟩, by and_intros <;> decide +kernel⟩,
    ⟨onScanner (onDrv calm fun d => { d with tripA := ⟨.checking, some .first, none, some (ago 499), false, false⟩ }) fun sc => { sc with inputs := sc.inputs.set 0 ⟨.active, some false, 2⟩ },
      0x2D0002, .a, ⟨.active, some false, 2⟩, by and_intros <;> decide +kernel⟩,
    ⟨onScanner (onDrv calm fun d => { d with
      closeB := ⟨.checking, some .second, none, some (ago 1999), false, false⟩ }) fun sc => { sc with inputs := sc.inputs.set 1 ⟨.inactive, some true, 2⟩ },
      0x2D0003, .b, ⟨.inactive, some true, 2⟩, by and_intros <;> decide +kernel⟩,
    ⟨onScanner (onCoord (onDrv (turn .energizing .safe) fun d => { d with
      valve := ⟨.releasing, none, some (ago 59999), false, false⟩ }) fun c => { c with step := .a true true }) fun sc => { sc with inputs := sc.inputs.set 2 ⟨.active, some false, 2⟩ },
      0x2D0003, .valve, ⟨.active, some false, 2⟩, by and_intros <;> decide +kernel⟩,
    ⟨onScanner (onCoord (onDrv (input (input (turn .energizing .safe) 0 .inactive) 1 .inactive) fun d => { d with
      coolstop := ⟨.releasing, none, some (ago 9999), false, false⟩
      tripA := ⟨.spent, none, none, none, false, false⟩, tripB := ⟨.spent, none, none, none, false, false⟩ })
      fun c => { c with step := .a false true }) fun sc => { sc with inputs := sc.inputs.set 3 ⟨.active, some false, 2⟩ },
      0x2D0000, .coolstop, ⟨.active, some false, 2⟩, sound_of_parts (by decide +kernel),
      by and_intros <;> decide +kernel⟩,
    ⟨onScanner (onCoord (onDrv (turn .energizing .isolate) fun d => { d with
      closeB := ⟨.checking, some .first, none, some (ago 1999), false, false⟩
      tripB := ⟨.failed, none, none, none, false, true⟩ }) fun c => { c with step := .b false true }) fun sc => { sc with inputs := sc.inputs.set 1 ⟨.inactive, some true, 2⟩ },
      0x2D0003, .b, ⟨.inactive, some true, 2⟩, false, true, by and_intros <;> decide +kernel⟩,
    ⟨onScanner (turn .awaitPermit .quiesce) fun sc => { sc with inputs := sc.inputs.set 7 ⟨.inactive, some true, 2⟩ },
      0x2D0083, ⟨.inactive, some true, 2⟩, by and_intros <;> decide +kernel⟩,
    ⟨onScanner (onCoord (turn .awaitPermit .quiesce) fun c => { c with keyWithheld := true }) fun sc => { sc with inputs := sc.inputs.set 7 ⟨.inactive, some true, 2⟩ },
      0x2D0083, ⟨.inactive, some true, 2⟩, by and_intros <;> decide +kernel⟩,
    ⟨onScanner (calm) fun sc => { sc with inputs := sc.inputs.set 7 ⟨.inactive, some true, 2⟩ }, 0x2D0083,
      ⟨.inactive, some true, 2⟩, by and_intros <;> decide +kernel⟩,
    ⟨onScanner (onCoord (turn .awaitPermit .quiesce) fun c => { c with permit := true }) fun sc => { sc with badScans := 3, fault := true, recovery := 2 },
      0x2D0003, by and_intros <;> decide +kernel⟩⟩

/-- States and operands that meet the hypotheses of CalmAndStaggerLeadToLeave, clause by clause. -/
theorem witness_CalmAndStaggerLeadToLeave :
    (∃ (s : State) (st : Stamp),
      s.Sound
      ∧ s.act.coord.phase = .quietWait
      ∧ s.act.coord.quietStart = some st
      ∧ (profileOf s.straps).quiet ≤ elapsed s.clock st)
    ∧ (∃ (s : State) (st : Stamp),
      s.Sound
      ∧ s.act.coord.phase = .backoff
      ∧ s.act.coord.stagger = some st
      ∧ reached s.clock st)
    ∧ (∃ (s : State),
      (s.act.coord.phase ≠ .quietWait ∨ s.act.coord.quietStart.all fun st => elapsed s.clock st < (profileOf s.straps).quiet))
    ∧ (∃ (s : State),
      (s.act.coord.phase ≠ .backoff ∨ s.act.coord.stagger.all fun e => !reached s.clock e))
    ∧ (∃ (s : State) (sender : Byte) (group : Byte),
      s.Sound
      ∧ s.act.coord.phase = .backoff
      ∧ s.assessor.detector = .calm
      ∧ s.act.line.Hears
      ∧ stationSender sender
      ∧ sender ≠ s.sender
      ∧ groupByte group)
    ∧ (∃ (s : State) (sender : Byte) (group : Byte),
      s.Sound
      ∧ s.act.coord.phase = .backoff
      ∧ s.assessor.detector = .calm
      ∧ s.act.line.Hears
      ∧ stationSender sender
      ∧ sender ≠ s.sender
      ∧ groupByte group)
    ∧ (∃ (s : State) (sender : Byte) (payload : Vector Byte 12),
      s.Sound
      ∧ s.act.coord.phase = .backoff
      ∧ s.assessor.detector = .calm
      ∧ s.act.line.Hears
      ∧ stationSender sender
      ∧ sender ≠ s.sender
      ∧ payloadInRange payload)
    ∧ (∃ (s : State) (peer : BitVec 5) (c : Instr),
      s.Sound
      ∧ s.act.coord.phase = .backoff
      ∧ s.assessor.detector = .calm
      ∧ c ∈ [.peerQuietExpiry peer, .peerLostExpiry peer, .bidPartExpiry peer, .claimPartExpiry peer])
    ∧ (∃ (s : State) (frame : BitVec 24) (c : ContactInput),
      s.Sound
      ∧ s.act.coord.phase = .backoff
      ∧ s.assessor.detector = .calm
      ∧ s.scanner.scanning
      ∧ frame.extractLsb' 16 8 = 0x2D
      ∧ s.scanner.fault = false
      ∧ s.scanner.inputs[8]? = some c
      ∧ c.candidate = some (frame.getLsbD 8)
      ∧ c.agreement = 2
      ∧ (∀ j ∈ List.range 16, j ≠ 8 → s.scanner.value j = (if frame.getLsbD j then .active else .inactive)))
    ∧ (∃ (s : State) (frame : BitVec 24) (c : ContactInput),
      s.Sound
      ∧ s.act.coord.phase = .backoff
      ∧ s.assessor.detector = .calm
      ∧ s.scanner.scanning
      ∧ frame.extractLsb' 16 8 = 0x2D
      ∧ s.scanner.fault = false
      ∧ s.scanner.inputs[8]? = some c
      ∧ c.candidate = some (frame.getLsbD 8)
      ∧ c.agreement = 2
      ∧ (∀ j ∈ List.range 16, j ≠ 8 → s.scanner.value j = (if frame.getLsbD j then .active else .inactive))) :=
  ⟨⟨turn .quietWait .quiesce, ago 600000, sound_of_parts (by decide +kernel), by decide +kernel⟩,
    ⟨turn .backoff .quiesce, now, sound_of_parts (by decide +kernel), by decide +kernel⟩,
    ⟨onCoord (turn .quietWait .quiesce) fun c => { c with quietStart := some (ago 599999) }, by decide +kernel⟩,
    ⟨onCoord (turn .backoff .quiesce) fun c => { c with stagger := some (now + 1) }, by decide +kernel⟩,
    ⟨onCoord (turn .backoff .quiesce) fun c => { c with stagger := none }, 31, 3,
      sound_of_parts (by decide +kernel), by and_intros <;> decide +kernel⟩,
    ⟨turn .backoff .quiesce, 0, 0, sound_of_parts (by decide +kernel), by and_intros <;> decide +kernel⟩,
    ⟨onCoord (turn .backoff .quiesce) fun c => { c with stagger := none }, 31, restPayload,
      sound_of_parts (by decide +kernel), by and_intros <;> decide +kernel⟩,
    ⟨peer (onCoord (turn .backoff .quiesce) fun c => { c with stagger := none }) 31 { heardPeer .live 100 with claim := some (ago 300000) },
      31, .claimPartExpiry 31, sound_of_parts (by decide +kernel), by decide +kernel⟩,
    ⟨onScanner (onCoord (turn .backoff .quiesce) fun c => { c with stagger := none }) fun sc => { sc with inputs := sc.inputs.set 8 ⟨.inactive, some true, 2⟩ },
      0x2D0103, ⟨.inactive, some true, 2⟩, sound_of_parts (by decide +kernel), by and_intros <;> decide +kernel⟩,
    ⟨onScanner (onCoord (turn .backoff .quiesce) fun c => { c with stagger := none }) fun sc => { sc with inputs := sc.inputs.set 8 ⟨.active, some false, 2⟩ },
      0x2D0003, ⟨.active, some false, 2⟩, sound_of_parts (by decide +kernel), by and_intros <;> decide +kernel⟩⟩

/-- States and operands that meet the hypotheses of BidWindowEndsInClaimOrBackoff, clause by clause. -/
theorem witness_BidWindowEndsInClaimOrBackoff :
    (∃ (s : State) (e : Stamp),
      s.act.line.Sound
      ∧ s.act.coord.Sound
      ∧ s.act.coord.phase = .bidding
      ∧ s.act.coord.bidWindow = some e
      ∧ reached s.clock e
      ∧ (claimers s.peers + biddersBelow s.peers (s.straps.rgp.toNat * 32 + s.straps.stn.toNat) < (if s.scanner.active 8 ∨ s.straps.kmx = 0 then 1 else 2)))
    ∧ (∃ (s : State) (e : Stamp),
      s.act.line.Sound
      ∧ s.act.coord.Sound
      ∧ s.act.coord.phase = .bidding
      ∧ s.act.coord.bidWindow = some e
      ∧ reached s.clock e
      ∧ ((if s.scanner.active 8 ∨ s.straps.kmx = 0 then 1 else 2) ≤ claimers s.peers))
    ∧ (∃ (s : State) (e : Stamp),
      s.act.line.Sound
      ∧ s.act.coord.Sound
      ∧ s.act.coord.phase = .bidding
      ∧ s.act.coord.bidWindow = some e
      ∧ reached s.clock e
      ∧ (claimers s.peers < (if s.scanner.active 8 ∨ s.straps.kmx = 0 then 1 else 2))
      ∧ ((if s.scanner.active 8 ∨ s.straps.kmx = 0 then 1 else 2) ≤ claimers s.peers + biddersBelow s.peers (s.straps.rgp.toNat * 32 + s.straps.stn.toNat)))
    ∧ (∃ (s : State),
      (s.act.coord.phase ≠ .bidding ∨ s.act.coord.bidWindow.all fun e => !reached s.clock e)) :=
  ⟨⟨peer (turn .bidding .quiesce) 31 { heardPeer .live 100 with bid := some (ago 100) }, now,
      by and_intros <;> decide +kernel⟩,
    ⟨peer (peer (turn .bidding .quiesce) 31 { heardPeer .live 100 with claim := some (ago 100) }) 0 { heardPeer .live 100 with claim := some (ago 100) },
      now, by and_intros <;> decide +kernel⟩,
    ⟨peer (peer (turn .bidding .quiesce) 31 { heardPeer .live 100 with claim := some (ago 100) }) 0 { heardPeer .live 100 with bid := some (ago 100) },
      now, by and_intros <;> decide +kernel⟩,
    ⟨onCoord (turn .bidding .quiesce) fun c => { c with bidWindow := some (now + 1) }, by decide +kernel⟩⟩

/-- States and operands that meet the hypotheses of ContestEndsInEnergizing, clause by clause. -/
theorem witness_ContestEndsInEnergizing :
    (∃ (s : State) (e : Stamp),
      s.Sound
      ∧ s.act.coord.phase = .contest
      ∧ s.act.coord.contest = some e
      ∧ reached s.clock e)
    ∧ (∃ (s : State) (e : Stamp),
      s.Sound
      ∧ s.act.coord.phase = .contest
      ∧ s.act.coord.contest = some e
      ∧ reached s.clock e
      ∧ s.act.seq.stage = .safe
      ∧ s.act.drv.valve.state = .holding
      ∧ s.act.drv.coolstop.state = .holding
      ∧ s.scanner.active 2
      ∧ s.scanner.active 3
      ∧ s.scanner.fault = false)
    ∧ (∃ (s : State) (e : Stamp),
      s.Sound
      ∧ s.act.coord.phase = .contest
      ∧ s.act.coord.contest = some e
      ∧ reached s.clock e
      ∧ s.act.seq.stage = .isolate
      ∧ s.act.drv.tripA.state = .spent
      ∧ s.act.drv.tripB.state = .spent
      ∧ s.act.drv.closeA.state = .ready
      ∧ s.act.drv.closeB.state = .ready
      ∧ s.act.drv.pulseQueue = []
      ∧ s.act.drv.gapServed s.clock
      ∧ s.scanner.active 0 = false
      ∧ s.scanner.active 1 = false)
    ∧ (∃ (s : State) (e : Stamp),
      s.Sound
      ∧ s.act.coord.phase = .contest
      ∧ s.act.coord.contest = some e
      ∧ reached s.clock e
      ∧ s.act.seq.stage = .quiesce
      ∧ s.act.drv.assertedAbove .quiesce = false)
    ∧ (∃ (s : State) (e : Stamp),
      s.Sound
      ∧ s.act.coord.phase = .contest
      ∧ s.act.coord.contest = some e
      ∧ reached s.clock e
      ∧ s.act.seq.stage = .alert
      ∧ s.act.seq.target = .alert)
    ∧ (∃ (s : State) (e : Stamp),
      s.Sound
      ∧ s.act.coord.phase = .contest
      ∧ s.act.coord.contest = some e
      ∧ reached s.clock e
      ∧ s.act.seq.stage = .alert
      ∧ s.act.seq.target = .watch
      ∧ s.act.drv.assertedAbove .alert = false
      ∧ s.act.drv.pulseQueue = [])
    ∧ (∃ (s : State),
      (s.act.coord.phase ≠ .contest ∨ s.act.coord.contest.all fun e => !reached s.clock e)) :=
  ⟨⟨turn .contest .quiesce, now, sound_of_parts (by decide +kernel), by decide +kernel⟩,
    ⟨input (input (onDrv (turn .contest .safe) fun d => { d with
      valve := ⟨.holding, none, none, false, false⟩, coolstop := ⟨.holding, none, none, false, false⟩ }) 2 .active) 3 .active,
      now, sound_of_parts (by decide +kernel), by and_intros <;> decide +kernel⟩,
    ⟨input (input (onDrv (turn .contest .isolate) fun d => { d with
      tripA := ⟨.spent, none, none, none, false, false⟩, tripB := ⟨.spent, none, none, none, false, false⟩
      gap := some (ago 250) }) 0 .inactive) 1 .unknown, now, sound_of_parts (by decide +kernel),
      by and_intros <;> decide +kernel⟩,
    ⟨turn .contest .quiesce, now, sound_of_parts (by decide +kernel), by decide +kernel⟩,
    ⟨onSeq (onAssessor (onPort (turn .contest .alert) fun p => { p with status := .lost })
      fun a => { a with detector := .blind }) fun q => { q with target := .alert, floor := .watch }, now,
      sound_of_parts (by decide +kernel), by decide +kernel⟩,
    ⟨turn .contest .alert, now, sound_of_parts (by decide +kernel), by and_intros <;> decide +kernel⟩,
    ⟨onCoord (turn .contest .alert) fun c => { c with contest := some (now + 1) }, by decide +kernel⟩⟩

/-- States and operands that meet the hypotheses of EnergizingWaitsLowerTheStage, clause by clause. -/
theorem witness_EnergizingWaitsLowerTheStage :
    (∃ (s : State) (e : Stamp),
      s.Sound
      ∧ s.act.coord.phase = .energizing
      ∧ s.act.coord.step = .settle e
      ∧ reached s.clock e
      ∧ s.act.seq.target.code ≤ 2
      ∧ s.act.seq.floor.code ≤ 2
      ∧ s.act.coord.holdPending)
    ∧ (∃ (s : State) (e : Stamp),
      s.Sound
      ∧ s.act.coord.phase = .energizing
      ∧ s.act.coord.step = .settle e
      ∧ reached s.clock e
      ∧ s.act.seq.target.code ≤ 2
      ∧ s.act.seq.floor.code ≤ 2
      ∧ s.act.coord.holdPending = false
      ∧ s.act.drv.assertedAbove .quiesce = false)
    ∧ (∃ (s : State) (e : Stamp),
      s.Sound
      ∧ s.act.coord.phase = .energizing
      ∧ s.act.coord.step = .releaseWait e
      ∧ reached s.clock e
      ∧ s.act.seq.target = .alert
      ∧ s.act.seq.floor.code ≤ 1
      ∧ s.act.coord.holdPending = false)
    ∧ (∃ (s : State) (e : Stamp),
      s.Sound
      ∧ s.act.coord.phase = .energizing
      ∧ s.act.coord.step = .releaseWait e
      ∧ reached s.clock e
      ∧ s.act.seq.target = .watch
      ∧ s.act.seq.floor = .watch
      ∧ s.act.coord.holdPending = false
      ∧ s.act.drv.assertedAbove .alert = false)
    ∧ (∃ (s : State),
      (∀ e, s.act.coord.step = .settle e → reached s.clock e = false))
    ∧ (∃ (s : State),
      (∀ e, s.act.coord.step = .releaseWait e → reached s.clock e = false))
    ∧ (∃ (s : State) (e : Stamp),
      s.Sound
      ∧ s.act.coord.phase = .energizing
      ∧ s.act.coord.step = .releaseWait e
      ∧ reached s.clock e
      ∧ s.act.seq.target.code ≤ 1
      ∧ s.act.seq.floor.code ≤ 1
      ∧ s.act.coord.holdPending) :=
  ⟨⟨onCoord (turn .energizing .isolate) fun c => { c with step := .settle now, holdPending := true }, now,
      sound_of_parts (by decide +kernel), by and_intros <;> decide +kernel⟩,
    ⟨onCoord (turn .energizing .isolate) fun c => { c with step := .settle now }, now,
      sound_of_parts (by decide +kernel), by and_intros <;> decide +kernel⟩,
    ⟨onSeq (onAssessor (onPort (onCoord (turn .energizing .quiesce) fun c => { c with step := .releaseWait now }) fun p => { p with status := .lost })
      fun a => { a with detector := .blind }) fun q => { q with target := .alert, floor := .alert }, now,
      sound_of_parts (by decide +kernel), by and_intros <;> decide +kernel⟩,
    ⟨onCoord (turn .energizing .quiesce) fun c => { c with step := .releaseWait now }, now,
      sound_of_parts (by decide +kernel), by and_intros <;> decide +kernel⟩,
    ⟨onCoord (turn .energizing .isolate) fun c => { c with step := .settle (now + 1) },
      fun _ h => by cases h; decide +kernel⟩,
    ⟨onCoord (turn .energizing .quiesce) fun c => { c with step := .releaseWait (now + 1) },
      fun _ h => by cases h; decide +kernel⟩,
    ⟨onCoord (turn .energizing .quiesce) fun c => { c with step := .releaseWait now, holdPending := true }, now,
      sound_of_parts (by decide +kernel), by and_intros <;> decide +kernel⟩⟩

/-- States and operands that meet the hypotheses of RejoinWindowEndsInAdoption, clause by clause. -/
theorem witness_RejoinWindowEndsInAdoption :
    (∃ (s : State) (e : Stamp),
      s.startup.state = .listening
      ∧ s.startup.window = some e
      ∧ reached s.clock e
      ∧ s.scanner.known = false)
    ∧ (∃ (s : State) (e : Stamp),
      s.Sound
      ∧ s.startup.state = .listening
      ∧ s.startup.window = some e
      ∧ reached s.clock e
      ∧ s.scanner.known
      ∧ s.act.seq.target.code ≤ (adoptedStage s.view).code
      ∧ s.act.seq.floor.code ≤ (adoptedStage s.view).code)
    ∧ (∃ (s : State) (e : Stamp),
      s.Sound
      ∧ s.startup.state = .listening
      ∧ s.startup.window = some e
      ∧ reached s.clock e
      ∧ s.scanner.known
      ∧ s.act.seq.target.code ≤ (adoptedStage s.view).code
      ∧ s.act.seq.floor.code ≤ (adoptedStage s.view).code)
    ∧ (∃ (s : State),
      (s.startup.state ≠ .listening ∨ s.startup.window.all fun e => !reached s.clock e))
    ∧ (∃ (s : State),
      s.Sound
      ∧ s.startup.state = .awaitingInputs
      ∧ s.scanner.scanning) :=
  ⟨⟨listening, 3000, by decide +kernel⟩,
    ⟨onScanner listening fun _ => calm.scanner, 3000, sound_of_parts (by decide +kernel),
      by and_intros <;> decide +kernel⟩,
    ⟨input (onScanner listening fun _ => calm.scanner) 2 .active, 3000, sound_of_parts (by decide +kernel),
      by and_intros <;> decide +kernel⟩,
    ⟨{ listening with clock := 2999 }, by decide +kernel⟩,
    ⟨onScanner { listening with startup := ⟨.awaitingInputs, none, true⟩ } fun sc => { sc with
      inputs := List.replicate 16 ⟨.unknown, some false, 2⟩, scanning := true },
      sound_of_parts (by decide +kernel), by decide +kernel⟩⟩

/-- States and operands that meet the hypotheses of TakenDirectiveIsRecorded, clause by clause. -/
theorem witness_TakenDirectiveIsRecorded :
    (∃ (s : State) (sender : Byte) (target : Byte),
      s.act.line.Sound
      ∧ s.Takes sender target)
    ∧ (∃ (s : State) (sender : Byte) (target : Byte),
      s.act.line.Sound
      ∧ s.Takes sender target)
    ∧ (∃ (s : State) (sender : Byte) (target : Byte),
      s.act.line.Sound
      ∧ s.Takes sender target)
    ∧ (∃ (s : State) (sender : Byte) (target : Byte),
      s.act.line.Sound
      ∧ s.Takes sender target)
    ∧ (∃ (s : State) (sender : Byte) (target : Byte),
      s.act.line.Hears
      ∧ consoleSender sender
      ∧ targetByte target
      ∧ target ≠ s.sender
      ∧ target ≠ 63) :=
  ⟨⟨calm, 35, 63, by and_intros <;> decide +kernel⟩,
    ⟨calm, 32, 9, by and_intros <;> decide +kernel⟩,
    ⟨calm, 35, 63, by and_intros <;> decide +kernel⟩,
    ⟨calm, 35, 9, by and_intros <;> decide +kernel⟩,
    ⟨calm, 32, 31, by decide +kernel⟩⟩

/-- States and operands that meet the hypotheses of ResumeAndHoldMoveThePermit, clause by clause. -/
theorem witness_ResumeAndHoldMoveThePermit :
    (∃ (s : State) (sender : Byte) (target : Byte),
      s.act.line.Sound
      ∧ s.Takes sender target
      ∧ s.act.coord.phase = .awaitPermit
      ∧ (s.act.line.stuck = false ∨ (s.scanner.active 7 ∧ s.act.coord.keyWithheld = false))
      ∧ s.act.line.mute = none
      ∧ s.scanner.fault = false)
    ∧ (∃ (s : State) (sender : Byte) (target : Byte),
      s.act.line.Sound
      ∧ s.Takes sender target
      ∧ s.act.coord.phase = .awaitPermit
      ∧ (s.act.line.stuck = false ∨ (s.scanner.active 7 ∧ s.act.coord.keyWithheld = false))
      ∧ s.act.line.mute = none
      ∧ s.scanner.fault = false)
    ∧ (∃ (s : State) (sender : Byte) (target : Byte),
      s.Takes sender target
      ∧ s.act.coord.phase = .awaitPermit
      ∧ (s.act.line.mute ≠ none ∨ s.scanner.fault ∨ (s.act.line.stuck ∧ (s.scanner.active 7 = false ∨ s.act.coord.keyWithheld))))
    ∧ (∃ (s : State) (sender : Byte) (target : Byte),
      s.Takes sender target
      ∧ s.act.coord.phase = .awaitPermit
      ∧ (s.act.line.mute ≠ none ∨ s.scanner.fault ∨ (s.act.line.stuck ∧ (s.scanner.active 7 = false ∨ s.act.coord.keyWithheld))))
    ∧ (∃ (s : State) (sender : Byte) (target : Byte),
      s.Takes sender target
      ∧ s.act.coord.phase ≠ .awaitPermit)
    ∧ (∃ (s : State) (sender : Byte) (target : Byte),
      s.Takes sender target
      ∧ (s.act.coord.phase ∈ [.bidding, .contest, .backoff] ∨ (s.act.coord.phase = .energizing ∧ s.act.coord.step.underWay = false)))
    ∧ (∃ (s : State) (sender : Byte) (target : Byte),
      s.Takes sender target
      ∧ (s.act.coord.phase ∈ [.bidding, .contest, .backoff] ∨ (s.act.coord.phase = .energizing ∧ s.act.coord.step.underWay = false)))
    ∧ (∃ (s : State) (sender : Byte) (target : Byte),
      s.Takes sender target
      ∧ (s.act.coord.phase ∈ [.bidding, .contest, .backoff] ∨ (s.act.coord.phase = .energizing ∧ s.act.coord.step.underWay = false)))
    ∧ (∃ (s : State) (sender : Byte) (target : Byte),
      s.Takes sender target
      ∧ s.act.coord.phase = .energizing
      ∧ s.act.coord.step.underWay)
    ∧ (∃ (s : State) (sender : Byte) (target : Byte),
      s.Takes sender target
      ∧ s.act.coord.phase ∈ [.none, .quietWait, .awaitPermit, .rejoin]) :=
  ⟨⟨turn .awaitPermit .quiesce, 32, 9, by and_intros <;> decide +kernel⟩,
    ⟨input (onLine (turn .awaitPermit .quiesce) fun l => { l with stuck := true }) 7 .active, 32, 9,
      by and_intros <;> decide +kernel⟩,
    ⟨onLine (turn .awaitPermit .quiesce) fun l => { l with mute := some ⟨now, 255⟩ }, 32, 9, by decide +kernel⟩,
    ⟨onLine (turn .awaitPermit .quiesce) fun l => { l with stuck := true }, 32, 9, by decide +kernel⟩,
    ⟨calm, 35, 63, by decide +kernel⟩,
    ⟨turn .backoff .quiesce, 32, 9, by decide +kernel⟩,
    ⟨onCoord (turn .energizing .alert) fun c => { c with step := .postponed }, 32, 9, by decide +kernel⟩,
    ⟨turn .energizing .alert, 32, 9, by decide +kernel⟩,
    ⟨onCoord (turn .energizing .quiesce) fun c => { c with step := .releaseWait (now + 1) }, 32, 9,
      by decide +kernel⟩,
    ⟨calm, 35, 63, by decide +kernel⟩⟩

/-- States and operands that meet the hypotheses of TripRaisesFloorAndStage, clause by clause. -/
theorem witness_TripRaisesFloorAndStage :
    (∃ (s : State) (sender : Byte) (target : Byte) (argument : Byte) (stage : Stage),
      s.act.coord.Sound
      ∧ s.Takes sender target
      ∧ stage ≠ .watch
      ∧ argument.toNat = stage.code
      ∧ s.act.seq.rejoinHold = false)
    ∧ (∃ (s : State) (sender : Byte) (target : Byte) (argument : Byte) (stage : Stage),
      s.act.coord.Sound
      ∧ s.Takes sender target
      ∧ stage ≠ .watch
      ∧ argument.toNat = stage.code
      ∧ s.act.seq.rejoinHold = false)
    ∧ (∃ (s : State) (sender : Byte) (target : Byte) (argument : Byte) (stage : Stage),
      s.Takes sender target
      ∧ stage ≠ .watch
      ∧ argument.toNat = stage.code
      ∧ s.act.seq.rejoinHold
      ∧ s.act.coord.phase = .rejoin
      ∧ s.act.seq.grace = .none)
    ∧ (∃ (s : State) (sender : Byte) (target : Byte) (argument : Byte) (stage : Stage),
      s.act.coord.Sound
      ∧ s.act.drv.PulseSound
      ∧ s.Takes sender target
      ∧ stage ≠ .watch
      ∧ argument.toNat = stage.code
      ∧ s.act.seq.rejoinHold = false
      ∧ s.act.seq.stage.code < stage.code)
    ∧ (∃ (s : State) (sender : Byte) (target : Byte) (argument : Byte) (stage : Stage),
      s.act.coord.Sound
      ∧ s.act.drv.PulseSound
      ∧ s.Takes sender target
      ∧ stage ≠ .watch
      ∧ argument.toNat = stage.code
      ∧ s.act.seq.rejoinHold = false
      ∧ s.act.seq.stage.code < stage.code)
    ∧ (∃ (s : State) (sender : Byte) (target : Byte) (argument : Byte) (stage : Stage),
      s.act.coord.Sound
      ∧ s.act.drv.PulseSound
      ∧ s.Takes sender target
      ∧ stage ≠ .watch
      ∧ argument.toNat = stage.code
      ∧ s.act.seq.rejoinHold = false
      ∧ s.act.seq.stage.code < stage.code) :=
  ⟨⟨calm, 35, 63, 4, .safe, by and_intros <;> decide +kernel⟩,
    ⟨turn .energizing .quiesce, 32, 9, 1, .alert, by and_intros <;> decide +kernel⟩,
    ⟨onLine listening fun l => { l with receiver := .ready, condition := .idle, queue := [] }, 32, 63, 4, .safe,
      by and_intros <;> decide +kernel⟩,
    ⟨calm, 32, 9, 3, .isolate, by and_intros <;> decide +kernel⟩,
    ⟨calm, 35, 63, 4, .safe, by and_intros <;> decide +kernel⟩,
    ⟨turn .energizing .alert, 35, 63, 2, .quiesce, by and_intros <;> decide +kernel⟩⟩

/-- States and operands that meet the hypotheses of OtherDirectivesAct, clause by clause. -/
theorem witness_OtherDirectivesAct :
    (∃ (s : State) (sender : Byte) (argument : Byte),
      s.Takes sender s.sender
      ∧ argument ≠ 0)
    ∧ (∃ (s : State) (sender : Byte) (argument : Byte),
      s.Takes sender s.sender
      ∧ argument ≠ 0)
    ∧ (∃ (s : State) (sender : Byte) (argument : Byte),
      s.Takes sender s.sender
      ∧ argument ≠ 0)
    ∧ (∃ (s : State) (sender : Byte) (argument : Byte),
      s.Takes sender s.sender
      ∧ argument ≠ 0)
    ∧ (∃ (s : State) (sender : Byte) (target : Byte) (m : MuteTimer),
      s.Takes sender target
      ∧ s.act.line.mute = some m
      ∧ (s.act.coord.phase ≠ .awaitPermit ∨ s.scanner.fault
        ∨ ((s.act.coord.permit = false ∨ s.act.line.stuck) ∧ (s.scanner.active 7 = false ∨ s.act.coord.keyWithheld))))
    ∧ (∃ (s : State) (sender : Byte) (target : Byte) (m : MuteTimer),
      s.Takes sender target
      ∧ s.act.line.mute = some m
      ∧ (s.act.coord.phase ≠ .awaitPermit ∨ s.scanner.fault
        ∨ ((s.act.coord.permit = false ∨ s.act.line.stuck) ∧ (s.scanner.active 7 = false ∨ s.act.coord.keyWithheld))))
    ∧ (∃ (s : State) (sender : Byte) (target : Byte),
      s.Takes sender target
      ∧ s.assessor.detector = .calm
      ∧ s.act.seq.stage = .watch)
    ∧ (∃ (s : State) (sender : Byte) (target : Byte) (argument : Byte) (ch : LevelId),
      s.Takes sender target
      ∧ testChannel? argument = some ch
      ∧ s.assessor.detector = .calm
      ∧ s.act.seq.stage = .watch
      ∧ s.scanner.active 9)
    ∧ (∃ (s : State) (sender : Byte) (target : Byte),
      s.Takes sender target)
    ∧ (∃ (s : State) (sender : Byte) (target : Byte),
      s.Takes sender target)
    ∧ (∃ (s : State) (sender : Byte) (target : Byte) (m : MuteTimer),
      s.act.line.Sound
      ∧ s.Takes sender target
      ∧ s.act.line.mute = some m
      ∧ s.act.coord.phase = .awaitPermit
      ∧ ((s.act.coord.permit ∧ s.act.line.stuck = false) ∨ (s.scanner.active 7 ∧ s.act.coord.keyWithheld = false))
      ∧ s.scanner.fault = false) :=
  ⟨⟨calm, 32, 255, by decide +kernel⟩,
    ⟨turn .bidding .quiesce, 32, 1, by decide +kernel⟩,
    ⟨turn .backoff .quiesce, 35, 255, by decide +kernel⟩,
    ⟨onLine (turn .backoff .quiesce) fun l => { l with mute := some ⟨ago 1000, 2⟩ }, 32, 255, by decide +kernel⟩,
    ⟨onLine calm fun l => { l with mute := some ⟨now, 255⟩ }, 32, 63, ⟨now, 255⟩, by decide +kernel⟩,
    ⟨onLine (turn .awaitPermit .quiesce) fun l => { l with mute := some ⟨now, 255⟩ }, 35, 9, ⟨now, 255⟩,
      by decide +kernel⟩,
    ⟨calm, 35, 63, by decide +kernel⟩,
    ⟨input calm 9 .active, 35, 63, 3, .haltreq, by decide +kernel⟩,
    ⟨calm, 32, 9, by decide +kernel⟩,
    ⟨calm, 32, 9, by decide +kernel⟩,
    ⟨onLine (onCoord (turn .awaitPermit .quiesce) fun c => { c with permit := true }) fun l => { l with mute := some ⟨now, 255⟩ },
      35, 9, ⟨now, 255⟩, by and_intros <;> decide +kernel⟩⟩

/-- States and operands that meet the hypotheses of ProfileTable, clause by clause. -/
theorem witness_ProfileTable :
    ∃ (c : Instr) (s : State) (t : State),
      exec c s = .next t
      ∧ (∀ straps high, c ≠ .reset straps high) :=
  ⟨.lineIdle, calm, after .lineIdle calm, rfl, fun _ _ h => by cases h⟩

/-- States and operands that meet the hypotheses of StepKeepsPortAndAssessor, clause by clause. -/
theorem witness_StepKeepsPortAndAssessor :
    ∃ (s : State) (t : State),
      (s.port.Sound ∧ s.assessor.Sound)
      ∧ step s = .next t :=
  ⟨oneFrame, stepped oneFrame, by decide +kernel, rfl⟩

/-- States and operands that meet the hypotheses of StepKeepsTheLineUnit, clause by clause. -/
theorem witness_StepKeepsTheLineUnit :
    ∃ (s : State) (t : State),
      (s.act.line.Sound ∧ s.act.line.ReceiverSound)
      ∧ step s = .next t :=
  ⟨oneFrame, stepped oneFrame, by decide +kernel, rfl⟩

/-- States and operands that meet the hypotheses of StepKeepsPeersAndInputs, clause by clause. -/
theorem witness_StepKeepsPeersAndInputs :
    ∃ (s : State) (t : State),
      (s.PeersSound ∧ s.scanner.Sound)
      ∧ step s = .next t :=
  ⟨oneFrame, stepped oneFrame, by decide +kernel, rfl⟩

/-- States and operands that meet the hypotheses of StepKeepsTheChannels, clause by clause. -/
theorem witness_StepKeepsTheChannels :
    ∃ (s : State) (t : State),
      s.Sound
      ∧ step s = .next t :=
  ⟨oneFrame, stepped oneFrame, sound_of_parts (by decide +kernel), rfl⟩

/-- States and operands that meet the hypotheses of StepKeepsTheStateSound, clause by clause. -/
theorem witness_StepKeepsTheStateSound :
    ∃ (s : State) (t : State),
      s.Sound
      ∧ step s = .next t :=
  ⟨oneFrame, stepped oneFrame, sound_of_parts (by decide +kernel), rfl⟩
end Sys2Proof.Tests
end

section
/-! PROOFS. The Sample Port at the end of a frame: what clocking in a frame leaves alone, which frames are repeats, and the
event of a frame end that delivers nothing. -/

namespace Sys2Proof.Machine

/-! ### Clocking bits in touches the framing counters alone (R2) -/

theorem Port.clockBit_eq (p : Port) (bit : Bool) :
    p.clockBit bit = { p with
      wordPos := (p.clockBit bit).wordPos, bitCount := (p.clockBit bit).bitCount
      shift := (p.clockBit bit).shift, words := (p.clockBit bit).words } := by
  unfold Port.clockBit
  split
  · rfl
  · dsimp only
    split <;> rfl

theorem Port.clockBits_eq (p : Port) (bits : List Bool) :
    bits.foldl Port.clockBit p = { p with
      wordPos := (bits.foldl Port.clockBit p).wordPos, bitCount := (bits.foldl Port.clockBit p).bitCount
      shift := (bits.foldl Port.clockBit p).shift, words := (bits.foldl Port.clockBit p).words } := by
  induction bits generalizing p with
  | nil => rfl
  | cons bit bits ih =>
    rw [List.foldl_cons, ih (p.clockBit bit), p.clockBit_eq bit]

/-- A frame clocked in leaves the supervision of the port alone: only the framing counters move. -/
theorem Port.clockFrame_eq (p : Port) (bits : List Bool) :
    p.clockFrame bits = { p with
      wordPos := (p.clockFrame bits).wordPos, bitCount := (p.clockFrame bits).bitCount
      shift := (p.clockFrame bits).shift, words := (p.clockFrame bits).words } :=
  p.openFrame.clockBits_eq bits

section
variable (p : Port) (bits : List Bool)

@[simp] theorem Port.clockFrame_status : (p.clockFrame bits).status = p.status := by rw [p.clockFrame_eq]
@[simp] theorem Port.clockFrame_lastSeq : (p.clockFrame bits).lastSeq = p.lastSeq := by rw [p.clockFrame_eq]
@[simp] theorem Port.clockFrame_lastGood : (p.clockFrame bits).lastGood = p.lastGood := by rw [p.clockFrame_eq]
@[simp] theorem Port.clockFrame_identical : (p.clockFrame bits).identical = p.identical := by rw [p.clockFrame_eq]
@[simp] theorem Port.clockFrame_missing : (p.clockFrame bits).missing = p.missing := by rw [p.clockFrame_eq]
@[simp] theorem Port.clockFrame_frameTimer : (p.clockFrame bits).frameTimer = p.frameTimer := by rw [p.clockFrame_eq]
@[simp] theorem Port.clockFrame_recovery : (p.clockFrame bits).recovery = p.recovery := by rw [p.clockFrame_eq]

end

/-! ### The falling edge of SFS (R3, R6) -/

/-- A frame end that finds a sound frame places it in the converter's sequence. -/
theorem Port.frameEnd_of_sound {p : Port} {bits : List Bool} {f : Frame} (now : Stamp) (hcut : p.awaitLow = false)
    (hframe : (p.clockFrame bits).soundFrame? = some f) :
    p.frameEnd now bits = (p.clockFrame bits).sound now f := by
  simp [Port.frameEnd, hcut, hframe]

/-- R6: the port discards a repeat in TRACKING whole. The sequence difference is 0, whatever the counts. -/
theorem Port.sound_of_repeat {p : Port} {f : Frame} (now : Stamp) (htracking : p.status = .tracking)
    (hseq : p.lastSeq = some f.seq) : p.sound now f = (p, []) := by
  have hdiff : (f.seq - f.seq).toNat = 0 := by simp
  simp only [Port.sound, htracking, hseq, hdiff, if_true]

/-- A frame end at which the port delivers nothing touches the port alone: the driver stands, so the event ends without
the arbiter. -/
theorem exec_frameEnd_of_silent {s : State} {bits : List Bool} {p : Port}
    (h : s.port.frameEnd s.clock bits = (p, [])) : exec (.frameEnd bits) s = .next { s with port := p } := by
  have hport : s.fromPort (s.port.frameEnd s.clock bits) = { s with port := p } := by rw [h, State.fromPort_nil]
  have hevent := s.event_of_drv (fun s => s.fromPort (s.port.frameEnd s.clock bits)) (by rw [hport])
  exact congrArg Host.Outcome.next (hevent.trans hport)

/-- Settles O7: the port answers a repeat with the clocked-in frame and no delivery, and clocking in moves the framing
counters alone. -/
theorem frameEndRepeat : Obligations.FrameEndRepeat := by
  intro s bits f hcut hframe htracking hseq
  have hsilent : s.port.frameEnd s.clock bits = (s.port.clockFrame bits, []) := by
    rw [Port.frameEnd_of_sound s.clock hcut hframe]
    exact Port.sound_of_repeat s.clock (by rw [Port.clockFrame_status, htracking]) (by rw [Port.clockFrame_lastSeq, hseq])
  refine ⟨_, exec_frameEnd_of_silent hsilent, rfl, ?_⟩
  simp [htracking]

end Sys2Proof.Machine
end

section
/-! PROOFS. The Peer Table's quantities and the target stage: the need, which records are able and concur, the counts of able
peers by stage, and T in each detector state. -/

namespace Sys2Proof.Machine

/-! ### The need (R88) -/

/-- R88: the need is A × q / 8 rounded up, n, held within 1 and 4. The two bounds name n as that round-up. -/
theorem needOf_eq_of_ceiling {able q n : Nat} (hle : able * q ≤ 8 * n) (hlt : 8 * n < able * q + 8) :
    needOf able q = if 4 < n then 4 else if n < 1 then 1 else n := by
  have hceil : (able * q + 7) / 8 = n := by omega
  simp only [needOf, hceil]
  split
  · omega
  · split <;> omega

theorem profileRow_q (n : Nat) : (profileRow n).q = 2 ∨ (profileRow n).q = 3 ∨ (profileRow n).q = 4 := by
  unfold profileRow
  split <;> decide

/-! ### Able and concurring records (R87, R89, R90) -/

theorem Detector.inEvent_eq (d : Detector) : d.inEvent = (d = .event || d = .settling) := by
  cases d <;> rfl

theorem Detector.inEvent_iff (d : Detector) : d.inEvent = true ↔ d = .event ∨ d = .settling := by
  simp [Detector.inEvent_eq]

theorem PeerRecord.able_eq (r : PeerRecord) :
    r.able = (r.liveness = .live && r.report.any fun p => p.detector ∈ [.calm, .event, .settling]) := by
  unfold PeerRecord.able
  cases r.liveness <;> cases r.report <;> simp [Detector.inEvent_eq]

theorem PeerRecord.concurs_eq (r : PeerRecord) (own : Stamp) (window : Nat) :
    r.concurs own window = (r.able
      && (r.report.any fun p => (p.detector = .event || p.detector = .settling) && p.grade.any fun h => 2 ≤ h.val)
      && r.event.any fun e => min (e.estimate - own).toNat (own - e.estimate).toNat ≤ window) := by
  unfold PeerRecord.concurs
  cases r.report with
  | none => simp
  | some p =>
    obtain ⟨detector, grade, stage, phase⟩ := p
    cases r.event <;> cases grade <;> simp [Detector.inEvent_eq, distance, elapsed, Bool.and_assoc]

theorem PeerRecord.ableAt_eq (r : PeerRecord) (stage : Stage) :
    r.ableAt stage = (r.able && r.report.any fun p => stage.code ≤ p.stage.code) := by
  unfold PeerRecord.ableAt
  cases r.report <;> rfl

/-- R90: the counts fall as the stage rises. -/
theorem ableAtOrAbove_anti (peers : List PeerRecord) {lower upper : Stage} (h : lower.code ≤ upper.code) :
    ableAtOrAbove peers upper ≤ ableAtOrAbove peers lower := by
  refine List.countP_mono_left fun r _ hr => ?_
  simp only [PeerRecord.ableAt_eq, Bool.and_eq_true, Option.any_eq_true, decide_eq_true_eq] at hr ⊢
  obtain ⟨hable, p, hreport, hstage⟩ := hr
  exact ⟨hable, p, hreport, h.trans hstage⟩

/-! ### What the assessor offers (R35, R41) -/

section
variable {a : Assessor}

theorem Assessor.grade_of_inEvent (h : a.detector.inEvent) : a.grade = some a.event.grade := by
  cases hdet : a.detector <;> simp_all [Assessor.grade, Detector.inEvent]

theorem Assessor.onset_of_inEvent (h : a.detector.inEvent) : a.onset = a.event.onset := if_pos h

theorem Assessor.onset_of_not_inEvent (h : a.detector.inEvent = false) : a.onset = none := if_neg (by simp [h])

end

/-! ### T in each detector state (R96 to R99) -/

section
variable {v : View}

theorem target_of_inEvent {g : Grade} (h : v.assessor.detector.inEvent) (hgrade : v.assessor.grade = some g) :
    target v = if v.able = 0 then targetSolo v g else targetWithPeers v g := by
  cases hdet : v.assessor.detector <;> simp_all [target, Detector.inEvent]

theorem target_of_calm (h : v.assessor.detector = .calm) : target v = .watch := by
  simp [target, h]

theorem target_of_blind (h : v.assessor.detector = .capture ∨ v.assessor.detector = .blind) :
    target v = targetBlind v := by
  obtain h | h := h <;> simp [target, h]

/-- R97 with the assessor's own onset spelled out. -/
theorem targetWithPeers_eq {g : Grade} {onset : Stamp} (h : v.assessor.onset = some onset) :
    targetWithPeers v g =
      if v.need ≤ v.peers.countP (fun r => r.concurs onset v.profile.window) then justified g
      else if 3 ≤ g.val then .alert else .watch := by
  simp only [targetWithPeers, h, concurrence]

/-- R98 with the assessor's own onset spelled out. -/
theorem targetSolo_eq {g : Grade} {onset : Stamp} (h : v.assessor.onset = some onset) :
    targetSolo v g =
      if v.profile.soloGrade ≤ g.val ∧ 1500 ≤ elapsed v.now onset then justified g
      else if (justified g).code ≤ 1 then justified g else .alert := by
  have hran : ranFor v.now v.assessor.onset soloDelay = decide (1500 ≤ elapsed v.now onset) := by rw [h]; rfl
  simp only [targetSolo, hran, Bool.and_eq_true, decide_eq_true_eq]
  rfl

/-- A search of stages in falling order finds the highest: none above the one found passes. -/
theorem Stage.code_le_of_find?_eq_some {p : Stage → Bool} {stages : List Stage} {found stage : Stage}
    (hfalling : stages.Pairwise fun a b => b.code ≤ a.code) (hfind : stages.find? p = some found)
    (hmem : stage ∈ stages) (hpass : p stage) : stage.code ≤ found.code := by
  obtain ⟨-, before, after, rfl, hbefore⟩ := List.find?_eq_some_iff_append.mp hfind
  obtain hin | hin := List.mem_append.mp hmem
  · simpa [hpass] using hbefore stage hin
  · obtain rfl | hin := List.mem_cons.mp hin
    · exact le_rfl
    · exact List.rel_of_pairwise_cons (List.pairwise_append.mp hfalling).2.1 hin

theorem targetBlind_of_not_able (h : v.able = 0) : targetBlind v = .watch := if_pos h

/-- R99: T by blind following reaches a stage above WATCH exactly where the need of able peers stand at it or above. -/
theorem le_code_targetBlind_iff {stage : Stage} (hable : v.able ≠ 0) (hstage : stage ≠ .watch) :
    stage.code ≤ (targetBlind v).code ↔ v.need ≤ ableAtOrAbove v.peers stage := by
  have hmem : stage ∈ [Stage.safe, .isolate, .quiesce, .alert] := by
    cases stage <;> simp at hstage ⊢
  unfold targetBlind
  rw [if_neg hable]
  split
  next found hfind =>
    have hfound : v.need ≤ ableAtOrAbove v.peers found := by simpa using List.find?_some hfind
    refine ⟨fun hle => hfound.trans (ableAtOrAbove_anti v.peers hle), fun hneed => ?_⟩
    exact Stage.code_le_of_find?_eq_some (by decide) hfind hmem (decide_eq_true hneed)
  next hnone =>
    have hfew : ¬ v.need ≤ ableAtOrAbove v.peers stage := by simpa using List.find?_eq_none.mp hnone stage hmem
    have hcode : 0 < stage.code := by cases stage <;> simp [Stage.code] at hstage ⊢
    exact iff_of_false hcode.not_ge hfew

end

/-- Settles O30, clause by clause: the need by its round-up, T in EVENT and SETTLING by the concurring records or by the
solo rule, T in CAPTURE and BLIND by the counts of able peers, which fall as the stage rises. -/
theorem needIsHeldWithinOneAndFour : Obligations.NeedIsHeldWithinOneAndFour := by
  unfold Obligations.NeedIsHeldWithinOneAndFour
  simp only [← Detector.inEvent_iff]
  refine ⟨fun _ _ _ _ hle hlt => needOf_eq_of_ceiling hle hlt, fun straps => profileRow_q straps.prf.toNat,
    fun v r => ⟨rfl, r.able_eq⟩, ?withPeers, ?solo, fun v => target_of_calm, ?blind, ?noOnset, ?soloOnset⟩
  case withPeers =>
    rintro v _ onset hable hevent rfl honset
    have hown := (Assessor.onset_of_inEvent hevent).trans honset
    rw [target_of_inEvent hevent (Assessor.grade_of_inEvent hevent), if_neg (by omega), targetWithPeers_eq hown]
    simp only [PeerRecord.concurs_eq, View.need]
  case solo =>
    intro v g hable hevent hgrade
    rw [target_of_inEvent hevent hgrade, if_pos hable]
  case blind =>
    intro v hblind
    rw [target_of_blind hblind]
    refine ⟨targetBlind_of_not_able, fun hable stage hstage => ?_⟩
    simp only [← PeerRecord.ableAt_eq]
    exact le_code_targetBlind_iff (by omega) hstage
  case noOnset =>
    intro v window hnotEvent hnotSettling
    have hclosed : v.assessor.detector.inEvent = false := by simp [Detector.inEvent_eq, hnotEvent, hnotSettling]
    rw [Assessor.onset_of_not_inEvent hclosed]
    rfl
  case soloOnset =>
    rintro v _ onset hable hevent rfl honset
    have hown := (Assessor.onset_of_inEvent hevent).trans honset
    rw [target_of_inEvent hevent (Assessor.grade_of_inEvent hevent), if_pos hable, targetSolo_eq hown]

end Sys2Proof.Machine
end

section
/-! PROOFS. The justified stage: its table and its rise with the grade, and the assessor's reported grade while no event is
open. -/

namespace Sys2Proof.Machine

/-- R95's table: one justified stage for each grade. -/
theorem justified_table :
    [justified 0, justified 1, justified 2, justified 3, justified 4, justified 5, justified 6, justified 7]
      = [.watch, .watch, .alert, .quiesce, .quiesce, .isolate, .safe, .safe] := rfl

/-- R95: J does not fall as the grade rises, because it falls at none of the seven steps from a grade to the next. -/
theorem justified_code_monotone : Monotone fun g : Grade => (justified g).code :=
  have hstep : ∀ i : Fin 7, (justified i.castSucc).code ≤ (justified i.succ).code := by decide
  Fin.monotone_iff_le_succ.mpr hstep

/-- R35: while no event is open the reported grade is 0 in CALM and unknown in CAPTURE and BLIND. -/
theorem Assessor.grade_of_not_inEvent {a : Assessor} (h : a.detector.inEvent = false) :
    a.grade = if a.detector = .calm then some 0 else none := by
  unfold Assessor.grade
  cases hdet : a.detector with
  | calm | capture | blind => rfl
  | event | settling => simp [hdet, Detector.inEvent] at h

/-- Settles O31: the table of R95, the rise of J with the grade, and the reported grade while no event is open. -/
theorem justifiedStageTable : Obligations.JustifiedStageTable :=
  ⟨fun _ _ hle => ⟨justified_table, justified_code_monotone hle⟩, fun _ => Assessor.grade_of_not_inEvent⟩

end Sys2Proof.Machine
end

section
/-! PROOFS. A trip request and the close channels: what the cut of a close does from each of its states, and that the trip's
own part leaves the close channels, their places in the queue and the gap alone. -/

namespace Sys2Proof.Machine

/-! ### The records and the queue -/

@[simp] theorem Driver.pulse_withQueue_withGap (d : Driver) (queue : List PulseId) (gap : Option Stamp) (id : PulseId) :
    { d with pulseQueue := queue, gap := gap }.pulse id = d.pulse id := by
  rcases id with (_ | _) | (_ | _) <;> rfl

theorem Driver.pulse_close_setPulse_of_ne (d : Driver) {p q : Pdu} (c : PulseChannel) (h : q ≠ p) :
    (d.setPulse (.close p) c).pulse (.close q) = d.pulse (.close q) :=
  d.pulse_setPulse_of_ne c (by simpa using h)

/-- In a sound driver a close channel waits in the queue exactly where it is QUEUED (R128). -/
theorem Driver.PulseSound.close_mem_queue_iff {d : Driver} (h : d.PulseSound) (p : Pdu) :
    .close p ∈ d.pulseQueue ↔ (d.pulse (.close p)).state = .queued := by
  obtain ⟨-, hqueue, -⟩ := h
  exact hqueue (.close p) (by cases p <;> simp [pulseIds])

/-! ### The cut of a close, state by state (R132) -/

section
variable {d : Driver} {p : Pdu} (now : Stamp)

theorem Driver.cutClose_of_queued (h : (d.pulse (.close p)).state = .queued) :
    d.cutClose now p = ({ d.setPulse (.close p) (d.pulse (.close p)).toReady with
      pulseQueue := d.pulseQueue.filter (· ≠ .close p) }, [.closeCut p]) := by
  simp [Driver.cutClose, Driver.stopClose, h]

theorem Driver.cutClose_of_firing (h : (d.pulse (.close p)).state = .firing) :
    d.cutClose now p =
      ({ d.setPulse (.close p) (d.pulse (.close p)).toReady with gap := some now }, [.closeCut p]) := by
  simp [Driver.cutClose, Driver.stopClose, h]

theorem Driver.cutClose_of_checking (h : (d.pulse (.close p)).state = .checking) :
    d.cutClose now p = (d.setPulse (.close p) (d.pulse (.close p)).toReady, [.closeCut p]) := by
  simp [Driver.cutClose, h]

/-- A close that is neither waiting, nor pulsing, nor under check is not cut. -/
theorem Driver.cutClose_of_idle
    (h : (d.pulse (.close p)).state = .ready ∨ (d.pulse (.close p)).state = .spent
      ∨ (d.pulse (.close p)).state = .failed) : d.cutClose now p = (d, []) := by
  obtain h | h | h := h <;> simp [Driver.cutClose, h]

/-- A cut close returns to READY and its cut is told, from each of the three states it is cut in. -/
theorem Driver.cutClose_returns_to_ready
    (h : (d.pulse (.close p)).state = .queued ∨ (d.pulse (.close p)).state = .firing
      ∨ (d.pulse (.close p)).state = .checking) :
    (d.cutClose now p).1.pulse (.close p) = (d.pulse (.close p)).toReady ∧ (d.cutClose now p).2 = [.closeCut p] := by
  obtain h | h | h := h
  · simp [Driver.cutClose_of_queued now h]
  · simp [Driver.cutClose_of_firing now h]
  · simp [Driver.cutClose_of_checking now h]

end

/-- After the cut the close is not in the queue: it was filtered out, or, not being QUEUED, it was not there. -/
theorem Driver.PulseSound.close_not_mem_cutClose {d : Driver} (hd : d.PulseSound) (now : Stamp) (p : Pdu) :
    .close p ∉ (d.cutClose now p).1.pulseQueue := by
  have habsent (h : (d.pulse (.close p)).state ≠ .queued) : .close p ∉ d.pulseQueue :=
    mt (hd.close_mem_queue_iff p).mp h
  cases h : (d.pulse (.close p)).state with
  | queued => simp [Driver.cutClose_of_queued now h]
  | firing => simpa [Driver.cutClose_of_firing now h] using habsent (by simp [h])
  | checking => simpa [Driver.cutClose_of_checking now h] using habsent (by simp [h])
  | ready | spent | failed => simpa [Driver.cutClose_of_idle now, h] using habsent (by simp [h])

/-- The gap runs from now where a pulse was cut, and is not touched otherwise. -/
theorem Driver.gap_cutClose (d : Driver) (now : Stamp) (p : Pdu) :
    (d.cutClose now p).1.gap = if (d.pulse (.close p)).state = .firing then some now else d.gap := by
  cases h : (d.pulse (.close p)).state with
  | queued => simp [Driver.cutClose_of_queued now h]
  | firing => simp [Driver.cutClose_of_firing now h]
  | checking => simp [Driver.cutClose_of_checking now h]
  | ready | spent | failed => simp [Driver.cutClose_of_idle now, h]

/-- The other PDU's close keeps its record and its place in the queue. -/
theorem Driver.cutClose_other (d : Driver) (now : Stamp) {p q : Pdu} (hq : q ≠ p) :
    (d.cutClose now p).1.pulse (.close q) = d.pulse (.close q)
      ∧ (.close q ∈ (d.cutClose now p).1.pulseQueue ↔ .close q ∈ d.pulseQueue) := by
  cases h : (d.pulse (.close p)).state with
  | queued => simp [Driver.cutClose_of_queued now h, d.pulse_close_setPulse_of_ne _ hq, hq]
  | firing => simp [Driver.cutClose_of_firing now h, d.pulse_close_setPulse_of_ne _ hq]
  | checking => simp [Driver.cutClose_of_checking now h, d.pulse_close_setPulse_of_ne _ hq]
  | ready | spent | failed => simp [Driver.cutClose_of_idle now, h]

/-! ### The trip's own part of a request (R129) -/

/-- The close channels, their places in the queue and the gap are the same. -/
def Driver.SameCloses (d e : Driver) : Prop :=
  (∀ q, e.pulse (.close q) = d.pulse (.close q)) ∧ (∀ q, .close q ∈ e.pulseQueue ↔ .close q ∈ d.pulseQueue)
    ∧ e.gap = d.gap

theorem Driver.sameCloses_setPulse_trip (d : Driver) (p : Pdu) (c : PulseChannel) :
    d.SameCloses (d.setPulse (.trip p) c) :=
  ⟨fun _ => d.pulse_setPulse_of_ne c (by simp), fun _ => by simp, d.gap_setPulse _ c⟩

theorem Driver.sameCloses_enqueue_trip (d : Driver) (p : Pdu) (attempt : Attempt) :
    d.SameCloses (d.enqueue (.trip p) attempt) :=
  ⟨fun _ => by simp [Driver.enqueue, Driver.pulse_setPulse], fun _ => by simp [Driver.enqueue],
    d.gap_setPulse _ _⟩

/-- After the cut, a trip request works on the trip channel alone and tells no further cut. -/
theorem Driver.requestTrip_after_cutClose (d : Driver) (sc : Scanner) (now : Stamp) (p : Pdu) :
    (d.cutClose now p).1.SameCloses (d.requestTrip sc now p).1
      ∧ (.closeCut p ∈ (d.requestTrip sc now p).2 ↔ .closeCut p ∈ (d.cutClose now p).2) := by
  rw [Driver.requestTrip, Driven.next_fst, Driven.next_snd]
  generalize d.cutClose now p = cut
  cases cut.1.pulse (.trip p) |>.state with
  | ready =>
    dsimp only
    split
    · exact ⟨cut.1.sameCloses_setPulse_trip p _, by simp⟩
    · exact ⟨cut.1.sameCloses_enqueue_trip p .first, by simp⟩
  | queued | firing | checking | spent | failed => exact ⟨⟨fun _ => rfl, fun _ => .rfl, rfl⟩, by simp⟩

/-- Settles O40: what the cut does to the close channels, the queue and the gap stands at the end of the request, whose
other part is about the trip channel. -/
theorem tripRequestDealsWithTheClose : Obligations.TripRequestDealsWithTheClose := by
  intro d sc now p hd
  obtain ⟨⟨hpulse, hqueue, hgap⟩, hnotice⟩ := d.requestTrip_after_cutClose sc now p
  simp only [hpulse, hqueue, hgap, hnotice]
  refine ⟨fun hcut => ?_, fun hidle => ?_, d.gap_cutClose now p, fun q hq => d.cutClose_other now hq⟩
  · obtain ⟨hready, htold⟩ := Driver.cutClose_returns_to_ready now hcut
    exact ⟨hready, by simp [htold], hd.close_not_mem_cutClose now p⟩
  · simp [Driver.cutClose_of_idle now hidle]

end Sys2Proof.Machine
end

section
/-! PROOFS. The latched straps and the profile row they select: what each shared operation of an event does to them, and that
every command but RESET leaves them as they were. -/

namespace Sys2Proof.Machine

/-! ### The straps across the shared operations -/

section
variable (s : State)

@[simp] theorem State.event_straps (f : State → State) : (s.event f).straps = (f s).straps := by
  rw [s.event_other f]

@[simp] theorem State.fromPort_straps (r : Port × List Delivery) : (s.fromPort r).straps = s.straps := by
  rw [s.fromPort_eq r]

@[simp] theorem State.expirePeer_straps (peer : BitVec 5) (due : PeerRecord → Bool) (f : PeerRecord → PeerRecord) :
    (s.expirePeer peer due f).straps = s.straps := by
  rw [s.expirePeer_eq peer due f]

/-! ### A telegram taken -/

@[simp] theorem State.duplicated_straps : s.duplicated.straps = s.straps := by
  unfold State.duplicated
  split <;> rfl

@[simp] theorem State.takeState_straps (sender : Byte) (p : StatePayload) :
    (s.takeState sender p).straps = s.straps := by
  unfold State.takeState
  split
  · exact s.duplicated_straps
  · rfl

@[simp] theorem State.takeRestart_straps (k : RestartKind) (sender : Byte) (group : BitVec 2) :
    (s.takeRestart k sender group).straps = s.straps := by
  unfold State.takeRestart
  split
  · exact s.duplicated_straps
  · dsimp only
    split <;> rfl

@[simp] theorem State.applyDirective_straps (kind : DirectiveKind) (argument : Byte) :
    (s.applyDirective kind argument).straps = s.straps := by
  cases kind with
  | trip | test => unfold State.applyDirective; dsimp only; split <;> rfl
  | resume | hold | mute | unmute | reseed | ackReset | clearCounts => rfl

@[simp] theorem State.recordDirective_straps (sender : Byte) (kind : DirectiveKind) (result : DirectiveResult) :
    (s.recordDirective sender kind result).straps = s.straps := rfl

@[simp] theorem State.takeDirective_straps (sender target : Byte) (kind : DirectiveKind) (argument : Byte) :
    (s.takeDirective sender target kind argument).straps = s.straps := by
  unfold State.takeDirective
  split
  · dsimp only
    rw [State.recordDirective_straps]
    split
    · exact s.applyDirective_straps kind argument
    · rfl
  · rfl

@[simp] theorem State.onVerdict_straps (v : Verdict) : (s.onVerdict v).straps = s.straps := by
  cases v with
  | pending | discarded => rfl
  | valid content =>
    cases content with
    | state sender payload => exact s.takeState_straps sender payload
    | restart k sender group => exact s.takeRestart_straps k sender group
    | directive sender target kind argument => exact s.takeDirective_straps sender target kind argument

@[simp] theorem State.hearLine_straps (bytes : List RxByte) (startBit : Bool) :
    (s.hearLine bytes startBit).straps = s.straps :=
  State.onVerdict_straps (s.acting _) _

/-! ### Transmission, scan and start-up -/

@[simp] theorem State.beginHead_straps : s.beginHead.straps = s.straps := by
  unfold State.beginHead
  split <;> rfl

@[simp] theorem State.collideHead_straps : s.collideHead.straps = s.straps := by
  unfold State.collideHead
  split
  · split <;> rfl
  · rfl

@[simp] theorem State.completeHead_straps : s.completeHead.straps = s.straps := by
  unfold State.completeHead
  split
  · split <;> rfl
  · rfl

@[simp] theorem State.onKnown_straps : s.onKnown.straps = s.straps := by
  unfold State.onKnown
  split <;> rfl

@[simp] theorem State.completeScan_straps (frame : BitVec 24) : (s.completeScan frame).straps = s.straps := by
  unfold State.completeScan
  dsimp only
  split
  · exact State.onKnown_straps _
  · rfl

@[simp] theorem State.endRejoinWindow_straps : s.endRejoinWindow.straps = s.straps := by
  unfold State.endRejoinWindow
  split <;> rfl

end

/-! ### Every command but RESET -/

/-- A command that is one event leaves the straps alone where its operation does. -/
theorem straps_of_next_event {s t : State} {f : State → State}
    (hexec : (.next (s.event f) : Host.Outcome State Fault Refusal) = .next t) (hkept : (f s).straps = s.straps) :
    t.straps = s.straps := by
  rw [← Host.Outcome.next.inj hexec, State.event_straps, hkept]

/-- A command that is a conditional event leaves the straps alone where its operation does. -/
theorem straps_of_next_eventWhen {s t : State} {occurs : Bool} {f : State → State}
    (hexec : (.next (s.eventWhen occurs f) : Host.Outcome State Fault Refusal) = .next t)
    (hkept : (f s).straps = s.straps) : t.straps = s.straps := by
  cases occurs with
  | false => rw [← Host.Outcome.next.inj hexec, State.eventWhen_false]
  | true => exact straps_of_next_event hexec hkept

/-- R177, R178: the straps latched at reset stand until the next. The port's answer, bytes on the line, a record's expiry,
the sending, the scan and the rejoin window keep them by their own lemmas; every other command works on one block alone. -/
theorem exec_straps_of_ne_reset {c : Instr} {s t : State} (hexec : exec c s = .next t)
    (hc : ∀ straps high, c ≠ .reset straps high) : t.straps = s.straps := by
  cases c with
  | reset straps high => exact absurd rfl (hc straps high)
  | frameEnd => exact straps_of_next_event hexec (s.fromPort_straps _)
  | frameTimerExpiry => exact straps_of_next_eventWhen hexec (s.fromPort_straps _)
  | lineBusy | telegramDiscarded | stateTelegram | bidTelegram | claimTelegram | yieldTelegram | doneTelegram
  | resume | hold | trip | mute | unmute | reseed | test | ackReset | clearCounts =>
    exact straps_of_next_event hexec (s.hearLine_straps _ _)
  | peerQuietExpiry | peerLostExpiry | bidPartExpiry | claimPartExpiry =>
    exact straps_of_next_event hexec (s.expirePeer_straps _ _ _)
  | transmissionStart => exact straps_of_next_event hexec s.beginHead_straps
  | collision => exact straps_of_next_event hexec s.collideHead_straps
  | transmissionComplete => exact straps_of_next_event hexec s.completeHead_straps
  | scanCompletion frame => exact straps_of_next_eventWhen hexec (s.completeScan_straps frame)
  | rejoinWindowExpiry => exact straps_of_next_eventWhen hexec s.endRejoinWindow_straps
  | lineIdle | telegramTorn | lineStuckExpiry | heartbeatExpiry | muteExpiry | graceExpiry | soloDelayExpiry
  | standDownExpiry | testTimerExpiry | pullInExpiry | holdWindowExpiry | pulseGapExpiry | pulseTimerExpiry
  | pulseWindowExpiry | scanTimerExpiry | quietWaitExpiry | bidWindowExpiry | contestIntervalExpiry | staggerExpiry
  | powerSettleExpiry | releaseWaitExpiry => exact straps_of_next_eventWhen hexec rfl

/-- Settles O53: the eight rows compute from the PRF value alone, and every command but RESET keeps the row with the latched
straps. -/
theorem profileTable : Obligations.ProfileTable :=
  ⟨fun _ _ _ => rfl, fun _ _ _ hexec hc => congrArg profileOf (exec_straps_of_ne_reset hexec hc)⟩

end Sys2Proof.Machine
end

section
/-! PROOFS. The stages a station adopts as it starts up: the feedback stage of the contacts, the peer stage of the able
records in restart, and the higher of the two. -/

namespace Sys2Proof.Machine

/-- The higher of two stages bears the greater code. -/
theorem Stage.code_higher (a b : Stage) : (a.higher b).code = max a.code b.code := by
  unfold Stage.higher
  split
  next hle => exact (max_eq_right hle).symm
  next hlt => exact (max_eq_left (by omega)).symm

/-- R142: an input reads active exactly where its debounced value is active; UNKNOWN is not. -/
theorem Scanner.active_iff (sc : Scanner) (i : Nat) : sc.active i = true ↔ sc.value i = .active :=
  decide_eq_true_iff

/-- R181 by the inputs' values: SAFE by input 2 or 3, WATCH with both PDUs closed, ISOLATE otherwise. -/
theorem feedbackStage_eq (sc : Scanner) :
    feedbackStage sc =
      if sc.value 2 = .active ∨ sc.value 3 = .active then .safe
      else if sc.value 0 = .active ∧ sc.value 1 = .active then .watch else .isolate := by
  have hpdus : ¬ (sc.value 0 = .active ∧ sc.value 1 = .active) ↔ (!sc.active 0 || !sc.active 1) = true := by
    simp [← Scanner.active_iff, imp_iff_not_or]
  unfold feedbackStage
  simp only [← hpdus, Bool.or_eq_true, Scanner.active_iff, ite_not]

/-- R181: the contacts show SAFE, ISOLATE or WATCH; the two stages between leave no mark on them. -/
theorem feedbackStage_mem (sc : Scanner) : feedbackStage sc ∈ [Stage.safe, .isolate, .watch] := by
  unfold feedbackStage
  split
  · simp
  · split <;> simp

/-- R90: an able record at a stage or above, in restart. -/
theorem PeerRecord.restartingAt_eq (r : PeerRecord) (stage : Stage) :
    r.restartingAt stage = (r.able && r.report.any fun p => stage.code ≤ p.stage.code && p.phase ≠ .none) := by
  unfold PeerRecord.restartingAt
  rw [PeerRecord.ableAt_eq, Bool.and_assoc]
  cases r.report <;> rfl

/-- R182 with the count of R90 spelled out. -/
theorem peerStage_eq (v : View) :
    peerStage v = if 1 ≤ v.able ∧ needOf v.able v.profile.q ≤ v.peers.countP (fun r =>
        r.able && r.report.any fun p => 2 ≤ p.stage.code && p.phase ≠ .none) then .quiesce else .watch := by
  simp only [peerStage, restartingAtOrAbove, PeerRecord.restartingAt_eq, View.need, Nat.one_le_iff_ne_zero]
  rfl

/-- Settles O54: the feedback stage by the values of inputs 0 to 3, the peer stage by the able records in restart, and the
adopted stage as the higher of them. -/
theorem feedbackStageOfTheContacts : Obligations.FeedbackStageOfTheContacts := by
  refine ⟨fun sc => ⟨feedbackStage_eq sc, ?_, ?_⟩, fun v => ⟨peerStage_eq v, Stage.code_higher _ _⟩⟩
  all_goals exact fun h => absurd (h ▸ feedbackStage_mem sc) (by decide)

end Sys2Proof.Machine
end

section
/-! PROOFS. The transmit queue: its shapes with at most one STATE and one restart entry, and what notices and requests make of
each. -/

namespace Sys2Proof.Machine

/-! ### The shapes of a sound queue (R56) -/

/-- At most one STATE entry and at most one restart entry. -/
def OneOfEach (q : List TxEntry) : Prop :=
  q.countP TxEntry.isState ≤ 1 ∧ q.countP (fun e => !e.isState) ≤ 1

/-- Such a queue is empty, or one entry, or a STATE and a restart entry in either order. -/
theorem OneOfEach.shape {q : List TxEntry} (h : OneOfEach q) :
    q = [] ∨ (∃ e, q = [e]) ∨ ∃ e f, q = [e, f] ∧ f.isState = !e.isState := by
  obtain ⟨hs, hr⟩ := h
  match q with
  | [] => exact .inl rfl
  | [e] => exact .inr (.inl ⟨e, rfl⟩)
  | [e, f] =>
    refine .inr (.inr ⟨e, f, rfl, ?_⟩)
    cases he : e.isState <;> cases hf : f.isState <;> simp_all
  | e :: f :: g :: q =>
    cases he : e.isState <;> cases hf : f.isState <;> cases hg : g.isState <;> simp_all

/-- The entries in transmission and those that wait make up the queue. -/
theorem LineUnit.inTransit_append_waitingEntries (l : LineUnit) : l.inTransit ++ l.waitingEntries = l.queue := by
  unfold LineUnit.inTransit LineUnit.waitingEntries
  cases l.sending
  · rfl
  · exact List.take_append_drop 1 l.queue

@[simp] theorem LineUnit.inTransit_rejudge (l : LineUnit) (now : Stamp) : (l.rejudge now).inTransit = l.inTransit := rfl
@[simp] theorem LineUnit.waitingEntries_rejudge (l : LineUnit) (now : Stamp) :
    (l.rejudge now).waitingEntries = l.waitingEntries := rfl

/-- A STATE entry bears its urgency; no other entry is one. -/
theorem TxEntry.isState_iff (e : TxEntry) : e.isState = true ↔ e.kind = .state true ∨ e.kind = .state false := by
  obtain ⟨_ | _, _, _⟩ := e <;> simp [TxEntry.isState]

/-! ### An urgent notice (R57) -/

/-- What the waiting entries become, urgent and routine STATE told apart. -/
theorem urgentInto_eq {w : List TxEntry} (h : OneOfEach w) :
    urgentInto w = if w.any (fun e => e.kind = .state true) then w
      else ((w.filter TxEntry.isRoutine).map (fun e => ⟨.state true, e.collisions, e.resend⟩)
          ++ (if w.any TxEntry.isState then [] else [⟨.state true, 0, false⟩]))
        ++ w.filter fun e => !e.isState := by
  obtain rfl | ⟨⟨e | k, _, _⟩, rfl⟩ | ⟨⟨e | k, _, _⟩, ⟨f | j, _, _⟩, rfl, hf⟩ := h.shape
  all_goals try (cases hf; done)
  · rfl
  · cases e <;> rfl
  · rfl
  · cases e <;> rfl
  · cases f <;> rfl

/-- An urgent STATE waits after it, whatever waited before. -/
theorem any_urgentInto (w : List TxEntry) : (urgentInto w).any (fun e => e.kind = .state true) = true := by
  unfold urgentInto
  split
  next => rfl
  next e hfind =>
    split
    next => rfl
    next hroutine =>
      have hstate := (TxEntry.isState_iff e).mp (List.find?_some hfind)
      refine List.any_eq_true.mpr ⟨e, List.mem_of_find?_eq_some hfind, ?_⟩
      simp [hstate.resolve_right (by simpa [TxEntry.isRoutine] using hroutine)]

/-- A marked entry is the same but for its mark. -/
@[simp] theorem TxEntry.isState_mark (e : TxEntry) : e.mark.isState = e.isState := rfl

theorem LineUnit.inTransit_of_sending {l : LineUnit} (h : l.sending = true) : l.inTransit = l.queue.take 1 := if_pos h
theorem LineUnit.inTransit_of_idle {l : LineUnit} (h : l.sending = false) : l.inTransit = [] := by
  simp [LineUnit.inTransit, h]
theorem LineUnit.waitingEntries_of_idle {l : LineUnit} (h : l.sending = false) : l.waitingEntries = l.queue := by
  simp [LineUnit.waitingEntries, h]

/-- A queue put together from as many entries in transmission as before and others behind them. -/
theorem LineUnit.split_of_append {l : LineUnit} {transit waiting : List TxEntry} (hsend : l.sending → l.queue ≠ [])
    (hlen : transit.length = l.inTransit.length) :
    { l with queue := transit ++ waiting }.inTransit = transit
      ∧ { l with queue := transit ++ waiting }.waitingEntries = waiting := by
  unfold LineUnit.inTransit LineUnit.waitingEntries
  unfold LineUnit.inTransit at hlen
  cases hs : l.sending
  · simp_all
  · cases hq : l.queue with
    | nil => exact absurd hq (hsend hs)
    | cons e q =>
      obtain ⟨f, rfl⟩ := List.length_eq_one_iff.mp (by simpa [hs, hq] using hlen)
      simp

/-- The queue after an urgent notice. -/
theorem LineUnit.urgent_queue (l : LineUnit) (now : Stamp) :
    (l.urgent now).queue = if l.inTransit.any TxEntry.isState then l.inTransit.map TxEntry.mark ++ l.waitingEntries
      else l.inTransit ++ urgentInto l.waitingEntries := by
  unfold LineUnit.urgent
  split <;> rfl

/-- After an urgent notice an urgent STATE is due (R57). -/
theorem LineUnit.urgentDue_urgent (l : LineUnit) (now : Stamp) (hsend : l.sending → l.queue ≠ []) :
    (l.urgent now).urgentDue = true := by
  unfold LineUnit.urgent LineUnit.urgentDue
  split
  next hstate =>
    obtain ⟨htransit, -⟩ := LineUnit.split_of_append (waiting := l.waitingEntries) hsend
      (List.length_map (as := l.inTransit) TxEntry.mark)
    rw [LineUnit.inTransit_rejudge, htransit]
    obtain ⟨e, he, hise⟩ := List.any_eq_true.mp hstate
    refine Bool.or_eq_true_iff.mpr (.inr (List.any_eq_true.mpr ⟨e.mark, List.mem_map_of_mem he, ?_⟩))
    rw [TxEntry.isState_mark, hise]
    rfl
  next =>
    obtain ⟨-, hwaiting⟩ := LineUnit.split_of_append (waiting := urgentInto l.waitingEntries) hsend rfl
    rw [LineUnit.waitingEntries_rejudge, hwaiting, any_urgentInto, Bool.true_or]

theorem OneOfEach.of_append_right {p q : List TxEntry} (h : OneOfEach (p ++ q)) : OneOfEach q := by
  unfold OneOfEach at h ⊢
  simp only [List.countP_append] at h
  omega

theorem LineUnit.oneOfEach_waitingEntries {l : LineUnit} (h : l.QueueSound) : OneOfEach l.waitingEntries :=
  OneOfEach.of_append_right (p := l.inTransit) (l.inTransit_append_waitingEntries ▸ h)

/-- Settles O23: what an urgent notice makes of the entries that wait, and that it and a routine one touch the queue and the
two waits alone. -/
theorem noticesMarkTheQueue : Obligations.NoticesMarkTheQueue := by
  intro l now hq hsend
  refine ⟨l.urgentDue_urgent now hsend, ?_, ?_, ?_, ?_⟩
  · rw [l.urgent_queue, urgentInto_eq (LineUnit.oneOfEach_waitingEntries hq), apply_ite (l.inTransit ++ ·),
      l.inTransit_append_waitingEntries]
    simp only [List.append_assoc]
  · unfold LineUnit.urgent
    split <;> rfl
  · unfold LineUnit.routine
    split <;> rfl
  · unfold LineUnit.routine
    split <;> rfl

/-! ### A request for a restart telegram (R58, R59) -/

/-- A restart entry stands for a restart telegram; no STATE does. -/
theorem TxEntry.restart?_eq_none_iff (e : TxEntry) : e.restart? = none ↔ e.isState = true := by
  obtain ⟨_ | _, _, _⟩ := e <;> simp [TxEntry.isState, TxEntry.restart?]

/-- What a request makes of the waiting entries: behind an urgent STATE and ahead of a routine one, a YIELD gone with the
CLAIM it takes back, or in the waiting restart entry's place. -/
theorem requestInto_eq {w : List TxEntry} (h : OneOfEach w) (k : RestartKind) :
    requestInto w k = if w.all TxEntry.isState then
        w.filter (fun e => e.kind = .state true) ++ [⟨.restart k, 0, false⟩] ++ w.filter TxEntry.isRoutine
      else if k = .yield ∧ w.any (fun e => e.restart? = some .claim) then w.filter TxEntry.isState
      else w.map fun e => if e.isState then e else ⟨.restart k, 0, false⟩ := by
  obtain rfl | ⟨⟨e | j, _, _⟩, rfl⟩ | ⟨⟨e | j, _, _⟩, ⟨f | i, _, _⟩, rfl, hf⟩ := h.shape
  all_goals try (cases hf; done)
  · rfl
  · cases e <;> rfl
  all_goals
    simp [requestInto, List.findSome?, TxEntry.restart?, TxEntry.isState, TxEntry.new, and_comm]

/-- Settles O24: the request joins the waiting entries, or is deferred where a restart telegram is in transmission. -/
theorem requestsKeepOneRestartTelegram : Obligations.RequestsKeepOneRestartTelegram := by
  intro l now k hq
  refine ⟨l.queueOnly_request now k, ?_, ?_⟩
  · unfold LineUnit.request
    split <;> rfl
  · unfold LineUnit.request
    split
    · rfl
    · rw [LineUnit.rejudge_queue, requestInto_eq (LineUnit.oneOfEach_waitingEntries hq) k]
      split
      · rfl
      · split <;> rfl

end Sys2Proof.Machine
end

section
/-! PROOFS. The Line Unit sound: what its queue holds in transmission and waiting, and that every service and every event of the
line keeps it. -/

namespace Sys2Proof.Machine

/-! ### The queue in transmission and waiting (R54, R56, R57, R59) -/

/-- The entries in transmission, those behind them and the deferred request, as 03 section 3.5 allows them together. -/
structure QueueParts (transit waiting : List TxEntry) (deferred : Option RestartKind) : Prop where
  oneOfEach : OneOfEach (transit ++ waiting)
  collisions : ∀ e ∈ transit ++ waiting, e.collisions ≤ 255
  unmarked : ∀ e ∈ waiting, e.resend = false
  marked : ∀ e ∈ transit, e.resend → e.isState
  deferred : deferred.isSome → ∃ e ∈ transit, e.restart?.isSome

/-- The two waits run only where R61 and R66 have them run. -/
def LineUnit.WaitsSound (l : LineUnit) : Prop :=
  (l.idleCount.isSome ↔ (l.waiting ∧ l.condition = .idle ∧ ¬ l.muted ∧ ¬ l.stuck))
    ∧ (l.stuckTimer.isSome → l.waiting ∧ l.condition = .busy ∧ ¬ l.muted)

/-- The Line Unit sound but for its waits. -/
structure LineUnit.Composed (l : LineUnit) : Prop where
  parts : QueueParts l.inTransit l.waitingEntries l.deferred
  errors : l.errors ≤ 255
  nonempty : l.sending → l.queue ≠ []

theorem LineUnit.sound_iff (l : LineUnit) : l.Sound ↔ l.Composed ∧ l.WaitsSound := by
  constructor
  · rintro ⟨hq, hc, he, hn, hu, hm, hd, hw⟩
    rw [← l.inTransit_append_waitingEntries] at hc
    exact ⟨⟨⟨by rw [OneOfEach, l.inTransit_append_waitingEntries]; exact hq, hc, hu, hm, hd⟩, he, hn⟩, hw⟩
  · rintro ⟨⟨⟨hq, hc, hu, hm, hd⟩, he, hn⟩, hw⟩
    rw [OneOfEach, l.inTransit_append_waitingEntries] at hq
    rw [l.inTransit_append_waitingEntries] at hc
    exact ⟨hq, hc, he, hn, hu, hm, hd, hw⟩

theorem LineUnit.Sound.composed {l : LineUnit} (h : l.Sound) : l.Composed := (l.sound_iff.mp h).1

/-- Judged afresh, the waits stand as they should. -/
theorem LineUnit.waitsSound_rejudge (l : LineUnit) (now : Stamp) : (l.rejudge now).WaitsSound := by
  have key : ∀ {α : Type} (b : Bool) (x : α), (if b then some x else none).isSome = b := by
    intro _ b _
    cases b <;> rfl
  unfold LineUnit.WaitsSound LineUnit.rejudge
  simp only [key]
  simp [LineUnit.waiting, LineUnit.muted, and_assoc]

theorem LineUnit.Composed.sound_rejudge {l : LineUnit} (h : l.Composed) (now : Stamp) : (l.rejudge now).Sound :=
  (LineUnit.sound_iff _).mpr ⟨⟨h.parts, h.errors, h.nonempty⟩, l.waitsSound_rejudge now⟩

/-- A queue put together of sound parts, as many entries in transmission as before. -/
theorem LineUnit.Composed.of_parts {l : LineUnit} (h : l.Composed) {transit waiting : List TxEntry}
    {deferred : Option RestartKind} (hparts : QueueParts transit waiting deferred)
    (hlen : transit.length = l.inTransit.length) :
    { l with queue := transit ++ waiting, deferred := deferred }.Composed := by
  obtain ⟨ht, hw⟩ := LineUnit.split_of_append (waiting := waiting) h.nonempty hlen
  refine ⟨?_, h.errors, fun hs => ?_⟩
  · have ht' : { l with queue := transit ++ waiting, deferred := deferred }.inTransit = transit := ht
    have hw' : { l with queue := transit ++ waiting, deferred := deferred }.waitingEntries = waiting := hw
    rw [ht', hw']
    exact hparts
  · intro hnil
    obtain ⟨rfl, -⟩ := List.append_eq_nil_iff.mp hnil
    have hne := h.nonempty hs
    rw [LineUnit.inTransit_of_sending (l := l) hs] at hlen
    simp only [List.length_nil, List.length_take] at hlen
    have := List.length_pos_iff.mpr hne
    omega

/-! ### Entries that come, go and change -/

/-- A fresh entry has no collisions and no mark. -/
theorem TxEntry.new_fresh (kind : TxKind) : (TxEntry.new kind).collisions ≤ 255 ∧ (TxEntry.new kind).resend = false :=
  ⟨Nat.zero_le _, rfl⟩

/-- The waiting entries put in the place of others: as good as those were, and no more of a kind than allowed. -/
theorem QueueParts.replace {transit waiting waiting' : List TxEntry} {deferred : Option RestartKind}
    (h : QueueParts transit waiting deferred) (hone : OneOfEach (transit ++ waiting'))
    (hgood : ∀ e ∈ waiting', e.collisions ≤ 255 ∧ e.resend = false) : QueueParts transit waiting' deferred where
  oneOfEach := hone
  collisions e he := by
    obtain he | he := List.mem_append.mp he
    · exact h.collisions e (List.mem_append_left _ he)
    · exact (hgood e he).1
  unmarked e he := (hgood e he).2
  marked := h.marked
  deferred := h.deferred

theorem QueueParts.good {transit waiting : List TxEntry} {deferred : Option RestartKind}
    (h : QueueParts transit waiting deferred) {e : TxEntry} (he : e ∈ waiting) : e.collisions ≤ 255 ∧ e.resend = false :=
  ⟨h.collisions e (List.mem_append_right _ he), h.unmarked e he⟩

/-! ### An urgent and a routine notice (R57) -/

theorem countP_isState_urgentInto {w : List TxEntry} (h : OneOfEach w) :
    (urgentInto w).countP TxEntry.isState = 1
      ∧ (urgentInto w).countP (fun e => !e.isState) = w.countP fun e => !e.isState := by
  obtain rfl | ⟨⟨e | k, _, _⟩, rfl⟩ | ⟨⟨e | k, _, _⟩, ⟨f | j, _, _⟩, rfl, hf⟩ := h.shape
  all_goals try (cases hf; done)
  · exact ⟨rfl, rfl⟩
  · cases e <;> exact ⟨rfl, rfl⟩
  · exact ⟨rfl, rfl⟩
  · cases e <;> exact ⟨rfl, rfl⟩
  · cases f <;> exact ⟨rfl, rfl⟩

theorem good_urgentInto {w : List TxEntry} (h : ∀ e ∈ w, e.collisions ≤ 255 ∧ e.resend = false) :
    ∀ e ∈ urgentInto w, e.collisions ≤ 255 ∧ e.resend = false := by
  unfold urgentInto
  split
  next => simpa [TxEntry.new] using h
  next f hf =>
    have hmem := h f (List.mem_of_find?_eq_some hf)
    split
    · intro e he
      obtain rfl | he := List.mem_cons.mp he
      · exact hmem
      · exact h e (List.mem_of_mem_filter he)
    · exact h

/-- No STATE is in transmission where none is found there. -/
theorem countP_isState_eq_zero {q : List TxEntry} (h : ¬ q.any TxEntry.isState = true) : q.countP TxEntry.isState = 0 := by
  simpa [List.countP_eq_zero] using h

theorem countP_restart_eq_zero {q : List TxEntry} (h : ¬ q.any (fun e => !e.isState) = true) :
    q.countP (fun e => !e.isState) = 0 := by
  simpa [List.countP_eq_zero] using h

theorem LineUnit.Composed.sound_urgent {l : LineUnit} (h : l.Composed) (now : Stamp) : (l.urgent now).Sound := by
  obtain ⟨hone, hcoll, hunmarked, hmarked, hdeferred⟩ := h.parts
  unfold LineUnit.urgent
  split
  next hstate =>
    refine LineUnit.Composed.sound_rejudge (h.of_parts (deferred := l.deferred) ⟨?_, ?_, hunmarked, ?_, ?_⟩ (by simp)) now
    · have hsame : (l.inTransit.map TxEntry.mark).countP TxEntry.isState = l.inTransit.countP TxEntry.isState
          ∧ (l.inTransit.map TxEntry.mark).countP (fun e => !e.isState) = l.inTransit.countP fun e => !e.isState := by
        simp only [List.countP_map]
        exact ⟨rfl, rfl⟩
      simpa only [OneOfEach, List.countP_append, hsame] using hone
    · intro e he
      obtain he | he := List.mem_append.mp he
      · obtain ⟨f, hf, rfl⟩ := List.mem_map.mp he
        exact hcoll f (List.mem_append_left _ hf)
      · exact hcoll e (List.mem_append_right _ he)
    · intro e he _
      obtain ⟨f, hf, rfl⟩ := List.mem_map.mp he
      have hsingle : l.inTransit.all TxEntry.isState = true := by
        unfold LineUnit.inTransit at hstate ⊢
        cases hs : l.sending <;> cases hq : l.queue <;> simp_all
      exact List.all_eq_true.mp hsingle f hf
    · intro hd
      obtain ⟨f, hf, hr⟩ := hdeferred hd
      exact ⟨f.mark, List.mem_map_of_mem hf, hr⟩
  next hstate =>
    refine LineUnit.Composed.sound_rejudge (h.of_parts (deferred := l.deferred)
      (h.parts.replace ?_ (good_urgentInto fun e he => h.parts.good he)) rfl) now
    have hcount := countP_isState_urgentInto hone.of_append_right
    have hzero := countP_isState_eq_zero hstate
    simp only [OneOfEach, List.countP_append] at hone ⊢
    omega

theorem LineUnit.Composed.sound_routine {l : LineUnit} (h : l.Composed) (now : Stamp) : (l.routine now).Sound := by
  unfold LineUnit.routine
  split
  next => exact h.sound_rejudge now
  next hstate =>
    have hzero := countP_isState_eq_zero hstate
    have hcomposed := h.of_parts (deferred := l.deferred) (waiting := l.waitingEntries ++ [.new (.state false)])
      (h.parts.replace ?_ ?_) rfl
    · rw [← List.append_assoc, l.inTransit_append_waitingEntries] at hcomposed
      exact hcomposed.sound_rejudge now
    · have hone := h.parts.oneOfEach
      rw [← List.append_assoc, l.inTransit_append_waitingEntries]
      rw [l.inTransit_append_waitingEntries] at hone
      simp only [OneOfEach, List.countP_append, hzero] at hone ⊢
      simpa [TxEntry.new, TxEntry.isState] using hone.2
    · intro e he
      obtain he | he := List.mem_append.mp he
      · exact h.parts.good he
      · obtain rfl := List.mem_singleton.mp he
        exact TxEntry.new_fresh _

/-! ### A request (R58, R59) -/

theorem countP_requestInto {w : List TxEntry} (h : OneOfEach w) (k : RestartKind) :
    (requestInto w k).countP TxEntry.isState = w.countP TxEntry.isState
      ∧ (requestInto w k).countP (fun e => !e.isState) ≤ 1 := by
  rw [requestInto_eq h]
  obtain rfl | ⟨⟨e | i, _, _⟩, rfl⟩ | ⟨⟨e | i, _, _⟩, ⟨f | j, _, _⟩, rfl, hf⟩ := h.shape
  all_goals try (cases hf; done)
  · exact ⟨rfl, le_rfl⟩
  · cases e <;> exact ⟨rfl, le_rfl⟩
  · cases k <;> cases i <;> exact ⟨rfl, Nat.le_of_ble_eq_true rfl⟩
  · cases k <;> cases j <;> exact ⟨rfl, Nat.le_of_ble_eq_true rfl⟩
  · cases k <;> cases i <;> exact ⟨rfl, Nat.le_of_ble_eq_true rfl⟩

theorem good_requestInto {w : List TxEntry} (h : ∀ e ∈ w, e.collisions ≤ 255 ∧ e.resend = false) (k : RestartKind) :
    ∀ e ∈ requestInto w k, e.collisions ≤ 255 ∧ e.resend = false := by
  have hfresh := TxEntry.new_fresh (.restart k)
  have happend : ∀ e ∈ w ++ [TxEntry.new (.restart k)], e.collisions ≤ 255 ∧ e.resend = false := by
    intro e he
    obtain he | he := List.mem_append.mp he
    · exact h e he
    · exact List.mem_singleton.mp he ▸ hfresh
  unfold requestInto addRestart
  split
  · split
    · split
      · exact List.forall_mem_cons.mpr ⟨hfresh, h⟩
      · exact happend
    · exact happend
  · split
    · exact fun e he => h e (List.mem_of_mem_filter he)
    · intro e he
      obtain ⟨f, hf, rfl⟩ := List.mem_map.mp he
      split
      · exact h f hf
      · exact hfresh

theorem LineUnit.Composed.sound_request {l : LineUnit} (h : l.Composed) (now : Stamp) (k : RestartKind) :
    (l.request now k).Sound := by
  unfold LineUnit.request
  split
  next hrestart =>
    refine LineUnit.Composed.sound_rejudge (l := { l with deferred := deferInto l.deferred k }) ⟨⟨h.parts.oneOfEach,
      h.parts.collisions, h.parts.unmarked, h.parts.marked, fun _ => ?_⟩, h.errors, h.nonempty⟩ now
    obtain ⟨e, he, hr⟩ := List.any_eq_true.mp hrestart
    refine ⟨e, he, Option.isSome_iff_ne_none.mpr fun hnone => ?_⟩
    rw [(e.restart?_eq_none_iff).mp hnone] at hr
    cases hr
  next hrestart =>
    refine LineUnit.Composed.sound_rejudge (h.of_parts (deferred := l.deferred)
      (h.parts.replace ?_ (good_requestInto (fun e he => h.parts.good he) k)) rfl) now
    have hone := h.parts.oneOfEach
    have hcount := countP_requestInto hone.of_append_right k
    have hzero := countP_restart_eq_zero hrestart
    simp only [OneOfEach, List.countP_append] at hone ⊢
    omega

/-! ### The cadence (R68) -/

theorem LineUnit.Composed.sound_setCadence {l : LineUnit} (h : l.Composed) (hw : l.WaitsSound) (now : Stamp) (fast : Bool) :
    (l.setCadence now fast).Sound := by
  unfold LineUnit.setCadence
  split
  · dsimp only
    refine LineUnit.Composed.sound_urgent ?_ now
    split
    · exact (LineUnit.Composed.sound_routine (l := { l with fast := true, heartbeat := none })
        ⟨h.parts, h.errors, h.nonempty⟩ now).composed
    · exact ⟨h.parts, h.errors, h.nonempty⟩
  · exact (LineUnit.sound_iff _).mpr ⟨⟨h.parts, h.errors, h.nonempty⟩, hw⟩

/-! ### What the other blocks may ask of the Line Unit -/

/-- One Line Unit comes of another by notices, requests and cadences asked for at one moment. -/
inductive LineUnit.Served (now : Stamp) : LineUnit → LineUnit → Prop
  | refl (l) : Served now l l
  | urgent {l m} : Served now l m → Served now l (m.urgent now)
  | request {l m} (k) : Served now l m → Served now l (m.request now k)
  | cadence {l m} (fast) : Served now l m → Served now l (m.setCadence now fast)

theorem LineUnit.Served.trans {now : Stamp} {l m n : LineUnit} (h : l.Served now m) (k : m.Served now n) :
    l.Served now n := by
  induction k with
  | refl => exact h
  | urgent _ ih => exact ih.urgent
  | request k _ ih => exact ih.request k
  | cadence fast _ ih => exact ih.cadence fast

theorem LineUnit.Served.sound {now : Stamp} {l m : LineUnit} (h : l.Served now m) (hl : l.Sound) : m.Sound := by
  induction h with
  | refl => exact hl
  | urgent _ ih => exact ih.composed.sound_urgent now
  | request k _ ih => exact ih.composed.sound_request now k
  | cadence fast _ ih => exact ih.composed.sound_setCadence ((LineUnit.sound_iff _).mp ih).2 now fast

/-- Nothing a served Line Unit has differs but the queue, the deferred request, the waits, the cadence and the heartbeat. -/
theorem LineUnit.Served.kept {now : Stamp} {l m : LineUnit} (h : l.Served now m) :
    m = { l with queue := m.queue, deferred := m.deferred, idleCount := m.idleCount, stuckTimer := m.stuckTimer
                 fast := m.fast, heartbeat := m.heartbeat } := by
  induction h with
  | refl => rfl
  | @urgent m _ ih => rw [m.queueOnly_urgent now, ih]
  | @request m k _ ih => rw [m.queueOnly_request now k, ih]
  | @cadence m fast _ ih => rw [m.setCadence_eq now fast, ih]

theorem LineUnit.Served.receiverSound {now : Stamp} {l m : LineUnit} (h : l.Served now m) (hl : l.ReceiverSound) :
    m.ReceiverSound := by
  rw [h.kept]
  exact hl

end Sys2Proof.Machine
end

section
/-! PROOFS. The Channel Driver by moves: each operation replaces records and moves channels through the queue in a few ways, and
every such way keeps the driver sound. -/

namespace Sys2Proof.Machine

/-! ### A sound driver, over every channel -/

theorem mem_pulseIds (id : PulseId) : id ∈ pulseIds := by
  rcases id with (_ | _) | (_ | _) <;> decide

theorem mem_levelIds (id : LevelId) : id ∈ levelIds := by
  cases id <;> decide

theorem mem_holdIds (id : HoldId) : id ∈ holdIds := by
  cases id <;> decide

/-- At most one of the four coils is energized where any two energized ones are the same. -/
theorem Driver.countP_firing_le_one_iff (d : Driver) :
    pulseIds.countP d.firing ≤ 1 ↔ ∀ i j, d.firing i = true → d.firing j = true → i = j := by
  constructor
  · intro h i j hi hj
    by_contra hne
    have hsub : [i, j].countP d.firing ≤ pulseIds.countP d.firing := by
      refine List.Subperm.countP_le _ (List.subperm_of_subset ?_ fun k _ => mem_pulseIds k)
      simpa using hne
    simp [hi, hj] at hsub
    omega
  · intro h
    have hnodup : (pulseIds.filter d.firing).Nodup := List.Nodup.filter _ (by decide)
    rw [List.countP_eq_length_filter]
    match hf : pulseIds.filter d.firing with
    | [] => simp
    | [_] => simp
    | i :: j :: _ =>
      have hi : d.firing i = true := (List.mem_filter.mp (hf ▸ List.mem_cons_self)).2
      have hj : d.firing j = true := (List.mem_filter.mp (hf ▸ List.mem_cons_of_mem _ List.mem_cons_self)).2
      rw [hf] at hnodup
      simp [h i j hi hj] at hnodup

/-- The queue, the coils and the records, each sound (06, sections 6.2 and 6.7). -/
structure Driver.Good (d : Driver) : Prop where
  nodup : d.pulseQueue.Nodup
  queued : ∀ id, id ∈ d.pulseQueue ↔ (d.pulse id).state = .queued
  oneCoil : ∀ i j, d.firing i = true → d.firing j = true → i = j
  pulse : ∀ id, (d.pulse id).Sound
  level : ∀ id, (d.level id).Sound
  hold : ∀ id, (d.hold id).Sound

theorem Driver.good_iff (d : Driver) : d.Good ↔ d.PulseSound ∧ d.RecordsSound := by
  constructor
  · rintro ⟨hn, hq, ho, hp, hl, hh⟩
    exact ⟨⟨hn, fun id _ => hq id, d.countP_firing_le_one_iff.mpr ho⟩, fun id _ => hp id, fun id _ => hl id, fun id _ => hh id⟩
  · rintro ⟨⟨hn, hq, ho⟩, hp, hl, hh⟩
    exact ⟨hn, fun id => hq id (mem_pulseIds id), d.countP_firing_le_one_iff.mp ho, fun id => hp id (mem_pulseIds id),
      fun id => hl id (mem_levelIds id), fun id => hh id (mem_holdIds id)⟩

/-! ### The moves -/

@[simp] theorem Driver.pulse_withQueue (d : Driver) (q : List PulseId) (id : PulseId) :
    { d with pulseQueue := q }.pulse id = d.pulse id := by
  rcases id with (_ | _) | (_ | _) <;> rfl
@[simp] theorem Driver.pulse_withGap (d : Driver) (g : Option Stamp) (id : PulseId) :
    { d with gap := g }.pulse id = d.pulse id := by
  rcases id with (_ | _) | (_ | _) <;> rfl
@[simp] theorem Driver.level_withQueue (d : Driver) (q : List PulseId) (id : LevelId) :
    { d with pulseQueue := q }.level id = d.level id := by
  cases id <;> rfl
@[simp] theorem Driver.level_withGap (d : Driver) (g : Option Stamp) (id : LevelId) :
    { d with gap := g }.level id = d.level id := by
  cases id <;> rfl
@[simp] theorem Driver.hold_withQueue (d : Driver) (q : List PulseId) (id : HoldId) :
    { d with pulseQueue := q }.hold id = d.hold id := by
  cases id <;> rfl
@[simp] theorem Driver.hold_withGap (d : Driver) (g : Option Stamp) (id : HoldId) :
    { d with gap := g }.hold id = d.hold id := by
  cases id <;> rfl

theorem Driver.setPulse_withQueue (d : Driver) (id : PulseId) (c : PulseChannel) (q : List PulseId) :
    { d with pulseQueue := q }.setPulse id c = { d.setPulse id c with pulseQueue := q } := by
  rcases id with (_ | _) | (_ | _) <;> rfl

theorem Driver.firing_iff (d : Driver) (id : PulseId) : d.firing id = true ↔ (d.pulse id).state = .firing :=
  decide_eq_true_iff

/-- Some coil is energized where one of the four is. -/
theorem Driver.anyFiring_eq_false_iff (d : Driver) : d.anyFiring = false ↔ ∀ id, d.firing id = false := by
  constructor
  · intro h id
    simp only [Driver.anyFiring, Bool.or_eq_false_iff] at h
    rcases id with (_ | _) | (_ | _) <;> simp [h]
  · intro h
    simp [Driver.anyFiring, h]

/-- The ways in which the operations change a driver; a pulse begins only as the head leaves the queue, with no coil energized,
and a close pulse only in ENERGIZING (R128, R131). -/
inductive Driver.Moves (energizing : Bool) : Driver → Driver → Prop
  | refl (d) : Moves energizing d d
  | trans {d e f} : Moves energizing d e → Moves energizing e f → Moves energizing d f
  /-- A LEVEL record replaced by a sound one. -/
  | level (d : Driver) (id c) (hc : (d.level id).Sound → c.Sound)
      (hx : (d.level id).failed = true → c.failed = true := by simp) : Moves energizing d (d.setLevel id c)
  /-- A HOLD record replaced by a sound one. -/
  | hold (d : Driver) (id c) (hc : (d.hold id).Sound → c.Sound)
      (hx : (d.hold id).failed = true → c.failed = true := by simp) : Moves energizing d (d.setHold id c)
  /-- The arbiter's gap set or served. -/
  | gap (d : Driver) (g) : Moves energizing d { d with gap := g }
  /-- A PULSE record replaced, its place in the queue kept and no pulse begun. -/
  | pulse (d : Driver) (id c) (hc : (d.pulse id).Sound → c.Sound)
      (hq : c.state = .queued ↔ (d.pulse id).state = .queued) (hf : c.state = .firing → (d.pulse id).state = .firing)
      (hx : (d.pulse id).failed = true → c.failed = true := by simp) :
      Moves energizing d (d.setPulse id c)
  /-- A channel that is not queued joins at the tail. -/
  | enqueue (d : Driver) (id attempt) (h : (d.pulse id).state ≠ .queued) : Moves energizing d (d.enqueue id attempt)
  /-- A queued channel taken out of the queue. -/
  | withdraw (d : Driver) (id c) (hc : c.Sound) (hq : c.state ≠ .queued) (hf : c.state ≠ .firing)
      (hx : (d.pulse id).failed = true → c.failed = true := by simp) :
      Moves energizing d { d.setPulse id c with pulseQueue := d.pulseQueue.filter (· ≠ id) }
  /-- The head leaves the queue; it may begin its pulse. -/
  | pop (d : Driver) (id rest c) (hd : d.pulseQueue = id :: rest)
      (hc : (d.pulse id).Sound → (d.pulse id).state = .queued → c.Sound) (hq : c.state ≠ .queued)
      (hf : c.state = .firing → d.anyFiring = false ∧ ((∃ p, id = .close p) → energizing = true))
      (hx : (d.pulse id).failed = true → c.failed = true := by simp) :
      Moves energizing d { d.setPulse id c with pulseQueue := rest }

/-- A LEVEL record after one is replaced. -/
theorem Driver.level_setLevel (d : Driver) (id other : LevelId) (c : LevelChannel) :
    (d.setLevel id c).level other = if other = id then c else d.level other := by
  split
  · next h => rw [h, Driver.level_setLevel_self]
  · next h => exact d.level_setLevel_of_ne c h

/-- A HOLD record after one is replaced. -/
theorem Driver.hold_setHold (d : Driver) (id other : HoldId) (c : HoldChannel) :
    (d.setHold id c).hold other = if other = id then c else d.hold other := by
  split
  · next h => rw [h, Driver.hold_setHold_self]
  · next h => exact d.hold_setHold_of_ne c h

/-- A record in the queue for an attempt is sound. -/
theorem PulseChannel.sound_toQueued (c : PulseChannel) (attempt : Attempt) : (c.toQueued attempt).Sound := by
  simp [PulseChannel.toQueued, PulseChannel.Sound]

theorem PulseChannel.sound_toReady (c : PulseChannel) : c.toReady.Sound := by simp [PulseChannel.toReady, PulseChannel.Sound]

theorem PulseChannel.sound_toSpent (c : PulseChannel) (u : Bool) : (c.toSpent u).Sound := by simp [PulseChannel.toSpent, PulseChannel.Sound]

/-- Every move keeps the driver sound. -/
theorem Driver.Moves.good {energizing : Bool} {d e : Driver} (h : d.Moves energizing e) (hd : d.Good) : e.Good := by
  induction h with
  | refl => exact hd
  | trans _ _ ih₁ ih₂ => exact ih₂ (ih₁ hd)
  | level d id c hc hx =>
    refine ⟨by simpa using hd.nodup, by simpa using hd.queued, by simpa [Driver.firing] using hd.oneCoil,
      by simpa using hd.pulse, fun i => ?_, by simpa using hd.hold⟩
    rw [Driver.level_setLevel]
    split
    · exact hc (hd.level id)
    · exact hd.level i
  | hold d id c hc hx =>
    refine ⟨by simpa using hd.nodup, by simpa using hd.queued, by simpa [Driver.firing] using hd.oneCoil,
      by simpa using hd.pulse, by simpa using hd.level, fun i => ?_⟩
    rw [Driver.hold_setHold]
    split
    · exact hc (hd.hold id)
    · exact hd.hold i
  | gap d g =>
    exact ⟨hd.nodup, by simpa using hd.queued, by simpa [Driver.firing] using hd.oneCoil, by simpa using hd.pulse,
      by simpa using hd.level, by simpa using hd.hold⟩
  | pulse d id c hc hq hf hx =>
    refine ⟨by simpa using hd.nodup, fun i => ?_, fun i j => ?_, fun i => ?_, by simpa using hd.level,
      by simpa using hd.hold⟩
    · rw [Driver.pulseQueue_setPulse, Driver.pulse_setPulse, hd.queued]
      split
      · next h => rw [h, hq]
      · rfl
    · have hone := hd.oneCoil i j
      simp only [Driver.firing_iff, Driver.pulse_setPulse] at hone ⊢
      grind
    · rw [Driver.pulse_setPulse]
      split
      · exact hc (hd.pulse id)
      · exact hd.pulse i
  | enqueue d id attempt h =>
    have hnot : id ∉ d.pulseQueue := mt (hd.queued id).mp h
    refine ⟨?_, fun i => ?_, fun i j => ?_, fun i => ?_, ?_, ?_⟩
    · exact List.nodup_append.mpr ⟨hd.nodup, by simp, by simpa using fun a ha (h : a = id) => hnot (h ▸ ha)⟩
    · simp only [Driver.enqueue, List.mem_append, List.mem_singleton, Driver.pulse_withQueue, Driver.pulse_setPulse,
        hd.queued]
      split
      · next h => simp [h]
      · next h => simp [h]
    · have hone := hd.oneCoil i j
      simp only [Driver.firing_iff, Driver.enqueue, Driver.pulse_withQueue, Driver.pulse_setPulse] at hone ⊢
      have hstate := PulseChannel.toQueued_state (d.pulse id) attempt
      grind
    · simp only [Driver.enqueue, Driver.pulse_withQueue, Driver.pulse_setPulse]
      split
      · exact PulseChannel.sound_toQueued ..
      · exact hd.pulse i
    · exact fun i => by simpa only [Driver.enqueue, Driver.level_withQueue, Driver.level_setPulse] using hd.level i
    · exact fun i => by simpa only [Driver.enqueue, Driver.hold_withQueue, Driver.hold_setPulse] using hd.hold i
  | withdraw d id c hc hq hf hx =>
    refine ⟨hd.nodup.filter _, fun i => ?_, fun i j => ?_, fun i => ?_, fun i => ?_, fun i => ?_⟩
    · simp only [List.mem_filter, decide_eq_true_eq, Driver.pulse_withQueue, Driver.pulse_setPulse, hd.queued]
      split
      · next h => simp [h, hq]
      · next h => simp [h]
    · have hone := hd.oneCoil i j
      simp only [Driver.firing_iff, Driver.pulse_withQueue, Driver.pulse_setPulse] at hone ⊢
      grind
    · simp only [Driver.pulse_withQueue, Driver.pulse_setPulse]
      split
      · exact hc
      · exact hd.pulse i
    · simpa only [Driver.level_withQueue, Driver.level_setPulse] using hd.level i
    · simpa only [Driver.hold_withQueue, Driver.hold_setPulse] using hd.hold i
  | pop d id rest c hqueue hc hq hf hx =>
    have hnodup := hd.nodup
    rw [hqueue, List.nodup_cons] at hnodup
    refine ⟨hnodup.2, fun i => ?_, fun i j => ?_, fun i => ?_, fun i => ?_, fun i => ?_⟩
    · have hmem := hd.queued i
      rw [hqueue, List.mem_cons] at hmem
      simp only [Driver.pulse_withQueue, Driver.pulse_setPulse]
      split
      · next h => simp [h, hq, hnodup.1]
      · next h => simpa [h] using hmem
    · have hone := hd.oneCoil i j
      rw [Driver.anyFiring_eq_false_iff] at hf
      simp only [Bool.eq_false_iff, ne_eq, Driver.firing_iff, Driver.pulse_withQueue, Driver.pulse_setPulse] at hone hf ⊢
      grind
    · simp only [Driver.pulse_withQueue, Driver.pulse_setPulse]
      split
      · exact hc (hd.pulse id) ((hd.queued id).mp (hqueue ▸ List.mem_cons_self))
      · exact hd.pulse i
    · simpa only [Driver.level_withQueue, Driver.level_setPulse] using hd.level i
    · simpa only [Driver.hold_withQueue, Driver.hold_setPulse] using hd.hold i

/-- What may move outside ENERGIZING may move in it. -/
theorem Driver.Moves.mono {energizing : Bool} {d e : Driver} (h : d.Moves energizing e) : d.Moves true e := by
  induction h with
  | refl d => exact .refl d
  | trans _ _ ih₁ ih₂ => exact ih₁.trans ih₂
  | level d id c hc hx => exact .level d id c hc hx
  | hold d id c hc hx => exact .hold d id c hc hx
  | gap d g => exact .gap d g
  | pulse d id c hc hq hf hx => exact .pulse d id c hc hq hf hx
  | enqueue d id attempt h => exact .enqueue d id attempt h
  | withdraw d id c hc hq hf hx => exact .withdraw d id c hc hq hf hx
  | pop d id rest c hqueue hc hq hf hx => exact .pop d id rest c hqueue hc hq (fun h => ⟨(hf h).1, fun _ => rfl⟩) hx

/-- Outside ENERGIZING no move energizes a close coil (R131, R135). -/
theorem Driver.Moves.close_not_firing {energizing : Bool} {d e : Driver} (h : d.Moves energizing e)
    (hen : energizing = false) {p : Pdu} (hd : d.firing (.close p) = false) : e.firing (.close p) = false := by
  induction h with
  | refl => exact hd
  | trans _ _ ih₁ ih₂ => exact ih₂ (ih₁ hd)
  | level | hold | gap => simpa [Driver.firing] using hd
  | pulse d id c hc hq hf hx =>
    simp only [Driver.firing, Driver.pulse_setPulse, decide_eq_false_iff_not] at hd ⊢
    split
    · next h => exact fun hfire => hd (h ▸ hf hfire)
    · exact hd
  | enqueue d id attempt h =>
    simp only [Driver.firing, Driver.enqueue, Driver.pulse_withQueue, Driver.pulse_setPulse, decide_eq_false_iff_not] at hd ⊢
    split
    · simp
    · assumption
  | withdraw d id c hc hq hf hx =>
    simp only [Driver.firing, Driver.pulse_withQueue, Driver.pulse_setPulse, decide_eq_false_iff_not] at hd ⊢
    split <;> assumption
  | pop d id rest c hqueue hc hq hf hx =>
    simp only [Driver.firing, Driver.pulse_withQueue, Driver.pulse_setPulse, decide_eq_false_iff_not] at hd ⊢
    split
    · next h => exact fun hfire => by simpa [hen] using (hf hfire).2 ⟨p, h.symm⟩
    · exact hd

/-- Every failed flag set in the first driver is set in the second (06, section 6.2: only reset clears one). -/
structure Driver.FailedKept (d e : Driver) : Prop where
  pulse : ∀ id, (d.pulse id).failed = true → (e.pulse id).failed = true
  level : ∀ id, (d.level id).failed = true → (e.level id).failed = true
  hold : ∀ id, (d.hold id).failed = true → (e.hold id).failed = true

theorem Driver.FailedKept.refl (d : Driver) : d.FailedKept d := ⟨fun _ => id, fun _ => id, fun _ => id⟩

theorem Driver.FailedKept.trans {d e f : Driver} (h : d.FailedKept e) (k : e.FailedKept f) : d.FailedKept f :=
  ⟨fun id => k.pulse id ∘ h.pulse id, fun id => k.level id ∘ h.level id, fun id => k.hold id ∘ h.hold id⟩

theorem Driver.failedKept_setPulse (d : Driver) (id : PulseId) (c : PulseChannel)
    (hx : (d.pulse id).failed = true → c.failed = true) : d.FailedKept (d.setPulse id c) := by
  refine ⟨fun i => ?_, by simp, by simp⟩
  rw [Driver.pulse_setPulse]
  split
  · next h => exact h ▸ hx
  · exact fun h => h

/-- Queue and gap are no part of the flags. -/
theorem Driver.FailedKept.withQueue {d e : Driver} (h : d.FailedKept e) (q : List PulseId) :
    d.FailedKept { e with pulseQueue := q } := by
  refine ⟨fun i => ?_, fun i => ?_, fun i => ?_⟩
  · exact (e.pulse_withQueue q i).symm ▸ h.pulse i
  · exact (e.level_withQueue q i).symm ▸ h.level i
  · exact (e.hold_withQueue q i).symm ▸ h.hold i

/-- No move clears a failed flag. -/
theorem Driver.Moves.failedKept {energizing : Bool} {d e : Driver} (h : d.Moves energizing e) : d.FailedKept e := by
  induction h with
  | refl d => exact .refl d
  | trans _ _ ih₁ ih₂ => exact ih₁.trans ih₂
  | level d id c hc hx =>
    refine ⟨by simp, fun i => ?_, by simp⟩
    rw [Driver.level_setLevel]
    split
    · next h => exact h ▸ hx
    · exact fun h => h
  | hold d id c hc hx =>
    refine ⟨by simp, by simp, fun i => ?_⟩
    rw [Driver.hold_setHold]
    split
    · next h => exact h ▸ hx
    · exact fun h => h
  | gap d g => exact ⟨by simp, by simp, by simp⟩
  | pulse d id c hc hq hf hx => exact d.failedKept_setPulse id c hx
  | enqueue d id attempt h => exact (d.failedKept_setPulse id _ (by simp)).withQueue _
  | withdraw d id c hc hq hf hx => exact (d.failedKept_setPulse id c hx).withQueue _
  | pop d id rest c hqueue hc hq hf hx => exact (d.failedKept_setPulse id c hx).withQueue _

/-! ### LEVEL and HOLD operations as moves (R121 to R125) -/

section
variable {energizing : Bool} (d : Driver) (sc : Scanner) (now : Stamp)

theorem Driver.moves_assertLevel (id : LevelId) : d.Moves energizing (d.assertLevel id) :=
  .level d id _ fun h => ⟨by simp, h.2⟩

theorem Driver.moves_releaseLevel (id : LevelId) : d.Moves energizing (d.releaseLevel id).1 := by
  unfold Driver.releaseLevel
  split
  · exact .refl d
  · exact .level d id _ fun h => ⟨by simp, h.2⟩

theorem Driver.moves_testLevel (id : LevelId) : d.Moves energizing (d.testLevel id now) := by
  unfold Driver.testLevel
  split
  · exact .refl d
  · exact .level d id _ fun h => ⟨by simp, h.2⟩

theorem Driver.moves_endTest (id : LevelId) : d.Moves energizing (d.endTest id) :=
  .level d id _ fun h => ⟨by simp, h.2⟩

theorem Driver.moves_assertHold (id : HoldId) : d.Moves energizing (d.assertHold sc now id) := by
  unfold Driver.assertHold
  dsimp only
  split
  · exact .refl d
  · exact .hold d id _ fun _ => by simp [HoldChannel.Sound]

theorem Driver.moves_releaseHold (id : HoldId) : d.Moves energizing (d.releaseHold sc now id).1 := by
  unfold Driver.releaseHold
  dsimp only
  split <;> try exact .refl d
  all_goals
    split
    · exact .hold d id _ fun _ => by simp [HoldChannel.Sound]
    · split <;> exact .hold d id _ fun _ => by simp [HoldChannel.Sound]

theorem Driver.moves_endPullIn (id : HoldId) : d.Moves energizing (d.endPullIn id) :=
  .hold d id _ fun _ => by simp [HoldChannel.Sound]

theorem Driver.moves_failHold (id : HoldId) : d.Moves energizing (d.failHold id).1 := by
  unfold Driver.failHold
  dsimp only
  split
  · exact .hold d id _ fun _ => by simp [HoldChannel.Sound]
  · exact .hold d id _ fun _ => by simp [HoldChannel.Sound]
  · next h => exact .hold d id _ fun hs => by simpa [HoldChannel.Sound, h] using hs.1
  all_goals exact .refl d

theorem Driver.moves_holdInput (id : HoldId) (active : Bool) : d.Moves energizing (d.holdInput id active).1 := by
  unfold Driver.holdInput
  dsimp only
  split
  · next h => exact .hold d id _ fun hs => by simpa [HoldChannel.Sound, h] using hs.1
  · next h => exact .hold d id _ fun hs => by simpa [HoldChannel.Sound, h] using hs.1
  · next h => exact .hold d id _ fun hs => by simpa [HoldChannel.Sound, h] using hs.1
  · exact .refl d

theorem Driver.moves_holdFault (id : HoldId) : d.Moves energizing (d.holdFault id).1 := by
  unfold Driver.holdFault
  dsimp only
  split
  · next h =>
    split
    · exact .hold d id _ fun hs => by simpa [HoldChannel.Sound, h] using hs.1
    · exact .refl d
  · next h =>
    split
    · exact .hold d id _ fun hs => by simpa [HoldChannel.Sound, h] using hs.1
    · exact .refl d
  · next h => exact .hold d id _ fun hs => by simpa [HoldChannel.Sound, h] using hs.1
  all_goals exact .refl d

theorem Driver.moves_judgeHold (id : HoldId) : d.Moves energizing (d.judgeHold sc id).1 := by
  unfold Driver.judgeHold
  dsimp only
  split
  · exact .refl d
  · exact .hold d id _ (fun hs => hs) fun h => by simp [h]

theorem Driver.moves_adoptHold (id : HoldId) : d.Moves energizing (d.adoptHold sc now id) := by
  unfold Driver.adoptHold
  split
  · exact .hold d id _ fun _ => by simp [HoldChannel.Sound]
  · exact d.moves_assertHold sc now id

/-! ### PULSE operations as moves (R128 to R137) -/

/-- A record settled as SPENT from a state that is not queued. -/
theorem Driver.moves_toSpent (id : PulseId) (u : Bool) (h : (d.pulse id).state ≠ .queued) :
    d.Moves energizing (d.setPulse id ((d.pulse id).toSpent u)) :=
  .pulse d id _ (fun _ => PulseChannel.sound_toSpent ..) (by simp [h]) (by simp)

theorem Driver.moves_toReady (id : PulseId) (h : (d.pulse id).state ≠ .queued) :
    d.Moves energizing (d.setPulse id (d.pulse id).toReady) :=
  .pulse d id _ (fun _ => PulseChannel.sound_toReady ..) (by simp [h]) (by simp)

theorem Driver.moves_stopClose (p : Pdu) : d.Moves energizing (d.stopClose now p) := by
  unfold Driver.stopClose
  split
  · exact .withdraw d _ _ (PulseChannel.sound_toReady _) (by simp) (by simp)
  · next h => exact .trans (d.moves_toReady _ (by simp [h])) (.gap _ _)
  all_goals exact .refl d

theorem Driver.moves_cutClose (p : Pdu) : d.Moves energizing (d.cutClose now p).1 := by
  unfold Driver.cutClose
  split
  · exact d.moves_stopClose now p
  · exact d.moves_stopClose now p
  · next h => exact d.moves_toReady _ (by simp [h])
  all_goals exact .refl d

theorem Driver.moves_requestTrip (p : Pdu) : d.Moves energizing (d.requestTrip sc now p).1 := by
  rw [Driver.requestTrip, Driven.next_fst]
  refine .trans (d.moves_cutClose now p) ?_
  generalize (d.cutClose now p).1 = e
  split
  · next h =>
    split
    · exact e.moves_toSpent _ _ (by simp [h])
    · exact .enqueue e _ _ (by simp [h])
  all_goals exact .refl e

theorem Driver.moves_rearm (p : Pdu) : d.Moves energizing (d.rearm p) := by
  unfold Driver.rearm
  split
  · next h => exact .pulse d _ _ (fun _ => by simp [PulseChannel.Sound]) (by simp [h]) (by simp)
  · next h => exact .pulse d _ _ (fun _ => by simp [PulseChannel.Sound]) (by simp [h]) (by simp)
  all_goals exact .refl d

theorem Driver.moves_rearmAfterClose (told : Bool) (p : Pdu) :
    d.Moves energizing (d.rearmAfterClose sc now told p).1 := by
  unfold Driver.rearmAfterClose
  split
  · exact d.moves_rearm p
  · exact .trans (d.moves_rearm p) ((d.rearm p).moves_requestTrip sc now p)

theorem Driver.moves_finishClose (told : Bool) (p : Pdu) (h : (d.pulse (.close p)).state ≠ .queued) :
    d.Moves energizing (d.finishClose sc now told p).1 := by
  unfold Driver.finishClose
  dsimp only
  split
  · exact d.moves_toSpent _ _ h
  · exact .trans (d.moves_toSpent _ _ h) (Driver.moves_rearmAfterClose ..)

theorem Driver.moves_requestClose (told : Bool) (p : Pdu) : d.Moves energizing (d.requestClose sc now told p).1 := by
  unfold Driver.requestClose
  split <;> try exact .refl d
  all_goals
    split <;> try exact .refl d
    all_goals
      next h =>
      split
      · exact .enqueue d _ _ (by simp [h])
      · exact d.moves_finishClose sc now told p (by simp [h])

theorem Driver.moves_confirmPulse (told : Bool) (id : PulseId) (h : (d.pulse id).state ≠ .queued) :
    d.Moves energizing (d.confirmPulse sc now told id).1 := by
  cases id with
  | trip p => exact d.moves_toSpent _ _ h
  | close p => exact .trans (d.moves_toSpent _ _ h) (Driver.moves_rearmAfterClose ..)

theorem Driver.moves_abandonCheck (id : PulseId) (h : (d.pulse id).state ≠ .queued) :
    d.Moves energizing (d.abandonCheck id).1 := by
  cases id <;> exact d.moves_toSpent _ _ h

theorem Driver.moves_endPulse (told : Bool) (id : PulseId) (h : (d.pulse id).state = .firing) :
    d.Moves energizing (d.endPulse sc now told id).1 := by
  have hgap : ({ d with gap := some now } : Driver).pulse id = d.pulse id := d.pulse_withGap _ id
  refine .trans (.gap d (some now)) ?_
  unfold Driver.endPulse
  dsimp only
  split
  · exact Driver.moves_abandonCheck _ id (by simp [hgap, h])
  · split
    · exact Driver.moves_confirmPulse _ sc now told id (by simp [hgap, h])
    · refine .pulse _ id _ (fun hs => ?_) (by simp [hgap, h]) (by simp)
      simpa [PulseChannel.Sound, hgap, h] using hs.1

theorem Driver.moves_missWindow (id : PulseId) (h : (d.pulse id).state = .checking) :
    d.Moves energizing (d.missWindow id).1 := by
  unfold Driver.missWindow
  dsimp only
  split
  · exact .enqueue d _ _ (by simp [h])
  · refine .pulse d id _ (fun hs => ?_) (by simp [h]) (by simp)
    simpa [PulseChannel.Sound, h] using hs.2.1

theorem Driver.moves_pduInput (told : Bool) (p : Pdu) : d.Moves energizing (d.pduInput sc now told p).1 := by
  have one : ∀ (id : PulseId) (e : Driver), e.Moves energizing
      (if (e.pulse id).state = .checking && awaitedHolds sc id then e.confirmPulse sc now told id else (e, [])).1 := by
    intro id e
    split
    · next h =>
      have hc : (e.pulse id).state = .checking := by simpa using (Bool.and_eq_true_iff.mp h).1
      exact e.moves_confirmPulse sc now told id (by simp [hc])
    · exact .refl e
  exact .trans (one (.trip p) d) (one (.close p) _)

theorem Driver.moves_leaveEnergizing : d.Moves energizing (d.leaveEnergizing now).1 := by
  have one : ∀ (p : Pdu) (e : Driver), e.Moves energizing
      (match (e.pulse (.close p)).state with
        | .queued | .firing => (e.stopClose now p, [Notice.closeWithdrawn p])
        | .ready | .checking | .spent | .failed => (e, [])).1 := by
    intro p e
    split
    · exact e.moves_stopClose now p
    · exact e.moves_stopClose now p
    all_goals exact .refl e
  exact .trans (one .a d) (one .b _)

theorem Driver.moves_pulseFault (id : PulseId) : d.Moves energizing (d.pulseFault id).1 := by
  unfold Driver.pulseFault
  split
  · next h => exact d.moves_abandonCheck id (by simp [h])
  · exact .refl d

theorem Driver.moves_faultBegins : d.Moves energizing d.faultBegins.1 :=
  (d.moves_pulseFault (.trip .a)).trans <| (Driver.moves_pulseFault _ (.trip .b)).trans <|
    (Driver.moves_holdFault _ .valve).trans <| (Driver.moves_holdFault _ .coolstop).trans <|
    (Driver.moves_pulseFault _ (.close .a)).trans (Driver.moves_pulseFault _ (.close .b))

theorem Driver.moves_judgePulse (told : Bool) (id : PulseId) : d.Moves energizing (d.judgePulse sc now told id).1 := by
  unfold Driver.judgePulse
  dsimp only
  split
  · exact .refl d
  · split
    · exact .pulse d id _ (fun hs => hs) Iff.rfl fun h => h
    · next h =>
      have hspent : (d.pulse id).state = .spent := by simpa using h
      split
      · have hmove : d.Moves energizing (d.setPulse id { d.pulse id with unconfirmed := false }) :=
          .pulse d id _ (fun hs => hs) Iff.rfl (by simp [hspent])
        split
        · exact hmove
        · exact hmove.trans (Driver.moves_rearmAfterClose ..)
      · exact .pulse d id _ (fun hs => hs) Iff.rfl (by simp [hspent])

theorem Driver.moves_faultEnds (told : Bool) : d.Moves energizing (d.faultEnds sc now told).1 :=
  (d.moves_judgePulse sc now told (.trip .a)).trans <| (Driver.moves_judgePulse _ sc now told (.trip .b)).trans <|
    (Driver.moves_judgeHold _ sc .valve).trans <| (Driver.moves_judgeHold _ sc .coolstop).trans <|
    (Driver.moves_judgePulse _ sc now told (.close .a)).trans (Driver.moves_judgePulse _ sc now told (.close .b))

/-- The head popped by the arbiter and judged (R131). -/
theorem Driver.moves_judgeHead (id : PulseId) (rest : List PulseId) (hq : d.pulseQueue = id :: rest)
    (hfree : d.anyFiring = false) :
    d.Moves energizing (({ d with pulseQueue := rest } : Driver).judgeHead sc now energizing id).1 := by
  have hsettle : ∀ c : PulseChannel, c.Sound → c.state ≠ .queued → c.state ≠ .firing → c.failed = (d.pulse id).failed →
      d.Moves energizing (({ d with pulseQueue := rest } : Driver).setPulse id c) := by
    intro c hc hcq hcf hcx
    rw [Driver.setPulse_withQueue]
    exact .pop d id rest c hq (fun _ _ => hc) hcq (fun h => absurd h hcf) fun h => hcx ▸ h
  have hfire : ((∃ p, id = .close p) → energizing = true) →
      d.Moves energizing (({ d with pulseQueue := rest } : Driver).fire now id) := by
    intro hen
    rw [Driver.fire, Driver.setPulse_withQueue, Driver.pulse_withQueue]
    refine .pop d id rest _ hq (fun hs hstate => ?_) (by simp) fun _ => ⟨hfree, hen⟩
    simpa [PulseChannel.Sound, hstate] using And.intro hs.1 hs.2.2
  cases id with
  | trip p =>
    unfold Driver.judgeHead
    dsimp only
    split
    · exact hsettle _ (PulseChannel.sound_toSpent ..) (by simp) (by simp) (by simp)
    · exact hfire (by simp)
  | close p =>
    unfold Driver.judgeHead
    dsimp only
    split
    · exact hsettle _ (PulseChannel.sound_toReady ..) (by simp) (by simp) (by simp)
    · next hen =>
      split
      · exact hfire fun _ => by simpa using hen
      · unfold Driver.finishClose
        dsimp only
        have hspent := hsettle _ (PulseChannel.sound_toSpent
          (({ d with pulseQueue := rest } : Driver).pulse (.close p)) sc.fault) (by simp) (by simp) (by simp)
        split
        · exact hspent
        · exact hspent.trans (Driver.moves_rearmAfterClose ..)

/-- The arbiter (R131). -/
theorem Driver.moves_serve (n : Nat) : d.Moves energizing (Driver.serve sc now energizing n d).1 := by
  induction n generalizing d with
  | zero => exact .refl d
  | succ n ih =>
    unfold Driver.serve
    split
    · exact .refl d
    · next h =>
      have hfree : d.anyFiring = false := by
        simp only [Bool.or_eq_true, not_or, Bool.not_eq_true] at h
        exact h.1
      split
      · exact .refl d
      · next id rest hq => exact .trans (d.moves_judgeHead sc now id rest hq hfree) (ih _)

theorem Driver.moves_adoptTrip (p : Pdu) (h : (d.pulse (.trip p)).state ≠ .queued) :
    d.Moves energizing (d.adoptTrip sc p).1 := by
  unfold Driver.adoptTrip
  split
  · exact d.moves_toSpent _ _ h
  · exact .refl d

end

end Sys2Proof.Machine
end

section
/-! PROOFS. What the acting blocks' calls of one another may do at all: the Line Unit is asked for notices, requests and cadences,
the driver makes its moves, the sequencer's floor, target, solo delay and rejoin hold stand, and outside ENERGIZING, with no step
left over, the stage does not fall. -/

namespace Sys2Proof.Machine

/-! ### The frame of a call -/

/-- What no call among the acting blocks does otherwise: the Line Unit is served, the driver moves, no close coil is left
energized outside ENERGIZING, and floor, target, solo delay and rejoin hold stand. -/
structure Actors.Touch (v : View) (a b : Actors) : Prop where
  line : a.line.Served v.now b.line
  drv : a.drv.Moves true b.drv
  close : a.CloseSound → b.CloseSound
  floor : b.seq.floor = a.seq.floor
  target : b.seq.target = a.seq.target
  solo : b.seq.solo = a.seq.solo
  rejoinHold : b.seq.rejoinHold = a.seq.rejoinHold

/-- The restart phase is not ENERGIZING, and no step of it is left. -/
def Actors.Quiescent (a : Actors) : Prop := a.coord.phase ≠ .energizing ∧ a.coord.step = .none

/-- A call that, outside ENERGIZING, neither enters it nor lowers the stage. -/
structure Actors.Reach (v : View) (a b : Actors) : Prop extends Actors.Touch v a b where
  grows : a.Quiescent → b.Quiescent ∧ a.seq.stage.code ≤ b.seq.stage.code

section
variable {v : View} {a b c : Actors}

theorem Actors.Touch.refl (v : View) (a : Actors) : a.Touch v a := ⟨.refl _, .refl _, id, rfl, rfl, rfl, rfl⟩

theorem Actors.Touch.trans (h : a.Touch v b) (k : b.Touch v c) : a.Touch v c :=
  ⟨h.line.trans k.line, h.drv.trans k.drv, k.close ∘ h.close, k.floor.trans h.floor, k.target.trans h.target,
    k.solo.trans h.solo, k.rejoinHold.trans h.rejoinHold⟩

theorem Actors.Reach.refl (v : View) (a : Actors) : a.Reach v a := ⟨.refl v a, fun h => ⟨h, le_rfl⟩⟩

theorem Actors.Reach.trans (h : a.Reach v b) (k : b.Reach v c) : a.Reach v c where
  toTouch := h.toTouch.trans k.toTouch
  grows hq := by
    obtain ⟨hqb, hab⟩ := h.grows hq
    obtain ⟨hqc, hbc⟩ := k.grows hqb
    exact ⟨hqc, hab.trans hbc⟩

/-- In ENERGIZING, or with a step left, nothing more is asked of a call. -/
theorem Actors.Touch.reach (h : a.Touch v b) (hq : ¬ a.Quiescent) : a.Reach v b := ⟨h, fun k => absurd k hq⟩

/-- A call that works on the coordinator alone, its phase and step kept. -/
theorem Actors.Reach.of_coord (a : Actors) (v : View) (k : Coordinator) (hphase : k.phase = a.coord.phase)
    (hstep : k.step = a.coord.step) : a.Reach v (a.withCoord k) where
  toTouch := ⟨.refl _, .refl _, fun h hp => h (hphase ▸ hp), rfl, rfl, rfl, rfl⟩
  grows h := ⟨⟨hphase ▸ h.1, hstep ▸ h.2⟩, le_rfl⟩

/-- A call that works on the sequencer alone, what stands there kept and the stage not lowered. -/
theorem Actors.Reach.of_seq (a : Actors) (v : View) (q : Sequencer) (hfloor : q.floor = a.seq.floor)
    (htarget : q.target = a.seq.target) (hsolo : q.solo = a.seq.solo) (hhold : q.rejoinHold = a.seq.rejoinHold)
    (hstage : a.seq.stage.code ≤ q.stage.code) : a.Reach v (a.withSeq q) where
  toTouch := ⟨.refl _, .refl _, id, hfloor, htarget, hsolo, hhold⟩
  grows h := ⟨h, hstage⟩

/-- A call that works on the driver alone. -/
theorem Actors.Reach.of_drv (a : Actors) (v : View) (d : Driver) (hd : a.drv.Moves a.energizing d) :
    a.Reach v (a.withDrv d) where
  toTouch := by
    refine ⟨.refl _, ?_, fun h hp => ?_, rfl, rfl, rfl, rfl⟩
    · exact hd.mono
    · have hen : a.energizing = false := decide_eq_false hp
      obtain ⟨ha, hb⟩ := h hp
      exact ⟨hd.close_not_firing hen ha, hd.close_not_firing hen hb⟩
  grows h := ⟨h, le_rfl⟩

end

/-! ### Line Unit and sequencer (R57, R58, R68, R114) -/

section
variable (a : Actors) (v : View)

theorem Actors.reach_urgent : a.Reach v (a.urgent v) :=
  ⟨⟨.urgent (.refl _), .refl _, id, rfl, rfl, rfl, rfl⟩, fun h => ⟨h, le_rfl⟩⟩

theorem Actors.reach_request (k : RestartKind) : a.Reach v (a.request v k) :=
  ⟨⟨.request k (.refl _), .refl _, id, rfl, rfl, rfl, rfl⟩, fun h => ⟨h, le_rfl⟩⟩

theorem Actors.reach_judge : a.Reach v (a.judge v) :=
  ⟨⟨.cadence _ (.refl _), .refl _, id, rfl, rfl, rfl, rfl⟩, fun h => ⟨h, le_rfl⟩⟩

/-! ### Driver operations (R101, R104, R107, R138) -/

theorem Actors.reach_tripOutcome : a.Reach v (a.tripOutcome v) := by
  unfold Actors.tripOutcome
  split
  · exact Actors.Reach.trans (b := a.withDrv (a.drv.assertSafe v))
      (.of_drv a v _ ((Driver.moves_assertHold ..).trans (Driver.moves_assertHold ..)))
      (.of_seq _ v _ rfl rfl rfl rfl le_rfl)
  · exact .refl v a

theorem Actors.reach_hear (n : Notice) : a.Reach v (a.hear v n) := by
  cases n with
  | tripOutcome => exact a.reach_tripOutcome v
  | failedFlag => exact a.reach_urgent v
  | closeConfirmed | closeUnconfirmed | closeFailed | closeRefused | closeCut | closeWithdrawn | releaseConfirmed
  | releaseUnconfirmed | releaseFailed => exact .refl v a

theorem Actors.reach_drive (f : Driver → Driven) (hf : a.drv.Moves a.energizing (f a.drv).1) : a.Reach v (a.drive v f) := by
  refine (Actors.Reach.of_drv a v _ hf).trans ?_
  unfold Actors.drive
  generalize a.withDrv (f a.drv).1 = b
  induction (f a.drv).2 generalizing b with
  | nil => exact .refl v b
  | cons n ns ih => exact (b.reach_hear v n).trans (ih _)

theorem Actors.reach_tripReady : a.Reach v (a.tripReady v) := by
  have one : ∀ (p : Pdu) (b : Actors), b.Reach v
      (if (b.drv.pulse (.trip p)).state = .ready then b.drive v (·.requestTrip v.scanner v.now p) else b) := by
    intro p b
    split
    · exact b.reach_drive v _ (Driver.moves_requestTrip ..)
    · exact .refl v b
  exact (one .a a).trans (one .b _)

/-! ### Bringing the zone up (R101, R103, R104, R107) -/

theorem Actors.reach_endGrace : a.Reach v (a.endGrace v) := by
  unfold Actors.endGrace
  split
  · exact (Actors.Reach.of_seq a v { a.seq with grace := .ended } rfl rfl rfl rfl le_rfl).trans (Actors.reach_tripReady _ v)
  all_goals exact .refl v a

theorem Actors.reach_bringOne (stage : Stage) : a.Reach v (a.bringOne v stage) := by
  cases stage with
  | watch => exact .refl v a
  | alert => exact .of_drv a v _ ((Driver.moves_assertLevel ..).trans (Driver.moves_assertLevel ..))
  | quiesce => exact .of_drv a v _ ((Driver.moves_assertLevel ..).trans (Driver.moves_assertLevel ..))
  | isolate =>
    unfold Actors.bringOne Actors.bringIsolate Actors.cutAtStart
    dsimp only
    split
    · refine (Actors.Reach.of_seq a v { a.seq with grace := .running (later v.now v.profile.grace) } rfl rfl rfl rfl
        le_rfl).trans ?_
      split
      · exact Actors.reach_endGrace _ v
      · exact .refl v _
    · exact .refl v a
    · exact a.reach_tripReady v
  | safe =>
    unfold Actors.bringOne Actors.bringSafe
    dsimp only
    split
    · exact .refl v a
    · split
      · exact .of_drv a v _ ((Driver.moves_assertHold ..).trans (Driver.moves_assertHold ..))
      · exact .of_seq a v _ rfl rfl rfl rfl le_rfl

theorem Actors.reach_bringUp (stage : Stage) : a.Reach v (a.bringUp v stage) := by
  unfold Actors.bringUp
  induction stagesTo stage generalizing a with
  | nil => exact .refl v a
  | cons s l ih => exact (a.reach_bringOne v s).trans (ih _)

/-! ### Changes of restart phase (R152) -/

theorem Actors.reach_withdrawClaim : a.Reach v (a.withdrawClaim v) := by
  unfold Actors.withdrawClaim
  dsimp only
  split
  · exact (a.reach_request v .yield).trans (.of_coord _ v _ rfl rfl)
  · exact .of_coord a v _ rfl rfl

/-- A close channel taken back at ENERGIZING's end is not energized (R135). -/
theorem Driver.leaveEnergizing_not_firing (d : Driver) (now : Stamp) (p : Pdu) :
    (d.leaveEnergizing now).1.firing (.close p) = false := by
  have one : ∀ (q : Pdu) (e : Driver), (q ≠ p → e.firing (.close p) = false) →
      (match (e.pulse (.close q)).state with
        | .queued | .firing => (e.stopClose now q, [Notice.closeWithdrawn q])
        | .ready | .checking | .spent | .failed => (e, [])).1.firing (.close p) = false := by
    intro q e he
    simp only [Driver.firing, decide_eq_false_iff_not] at he ⊢
    by_cases hq : q = p
    · subst hq
      split <;> simp_all [Driver.stopClose]
    · have hne : PulseId.close p ≠ .close q := by simpa using fun h => hq h.symm
      split <;> simp_all [Driver.stopClose, Driver.pulse_setPulse]
  cases p with
  | a => exact (one .b _ fun _ => one .a d fun h => absurd rfl h)
  | b => exact (one .b _ fun h => absurd rfl h)

/-- The notices at ENERGIZING's end are the coordinator's own (R135). -/
theorem Actors.leaveEnergizing_eq : a.leaveEnergizing v =
    { a with drv := (a.drv.leaveEnergizing v.now).1, coord := { a.coord with step := .none, holdPending := false } } := by
  have hquiet : ∀ n ∈ (a.drv.leaveEnergizing v.now).2, ∃ p, n = .closeWithdrawn p := by
    unfold Driver.leaveEnergizing
    rw [Driven.next_snd]
    intro n hn
    obtain hn | hn := List.mem_append.mp hn
    all_goals
      revert hn
      dsimp only
      split <;> simp +contextual
  have hfold : ∀ (ns : List Notice) (b : Actors), (∀ n ∈ ns, ∃ p, n = .closeWithdrawn p) →
      ns.foldl (fun a n => a.hear v n) b = b := by
    intro ns
    induction ns with
    | nil => exact fun b _ => rfl
    | cons n ns ih =>
      intro b h
      obtain ⟨p, rfl⟩ := h n List.mem_cons_self
      exact ih b fun n hn => h n (List.mem_cons_of_mem _ hn)
  unfold Actors.leaveEnergizing Actors.drive
  rw [hfold _ _ hquiet]
  rfl

/-- The coordinator after a change of phase (R152). -/
def Coordinator.moved (c : Coordinator) (phase : Phase) : Coordinator :=
  if c.phase = phase then c
  else
    let c₁ := if c.phase.inTurn && phase.standsAside then
      { c with claimOutstanding := false, claimPending := false, bidWindow := none, contest := none } else c
    let c₂ := if c.phase = .energizing then { c₁ with step := .none, holdPending := false } else c₁
    c₂.enter phase

theorem Actors.setPhase_coord (phase : Phase) : (a.setPhase v phase).coord = a.coord.moved phase := by
  unfold Actors.setPhase Coordinator.moved
  split
  · rfl
  · dsimp only
    rw [Actors.urgent_coord, Actors.judge_coord, Actors.withCoord_coord]
    congr 1
    split <;> split <;> simp only [Actors.leaveEnergizing_coord, Actors.withdrawClaim_coord]

/-- The driver after a change of phase: told only where ENERGIZING is left (R135). -/
theorem Actors.setPhase_drv_eq (phase : Phase) : (a.setPhase v phase).drv =
    if a.coord.phase = .energizing ∧ phase ≠ .energizing then (a.drv.leaveEnergizing v.now).1 else a.drv := by
  unfold Actors.setPhase
  have hkeep : (if a.coord.phase.inTurn && phase.standsAside then a.withdrawClaim v else a).drv = a.drv := by
    split
    · exact (a.withdrawClaim_seq v).2
    · rfl
  split
  · next h => rw [if_neg (by rw [h]; simp)]
  · next h =>
    dsimp only
    rw [Actors.urgent_drv, Actors.judge_drv, Actors.withCoord_drv]
    generalize (if a.coord.phase.inTurn && phase.standsAside then a.withdrawClaim v else a) = b at hkeep ⊢
    by_cases hen : a.coord.phase = .energizing
    · rw [if_pos hen, if_pos ⟨hen, fun hp => h (hen.trans hp.symm)⟩, Actors.leaveEnergizing_eq, hkeep]
    · rw [if_neg hen, if_neg fun hp => hen hp.1, hkeep]

/-- The sequencer after a change of phase: the stand-down timer judged afresh (R114). -/
theorem Actors.setPhase_seq (phase : Phase) :
    (a.setPhase v phase).seq = { a.seq with standDown := (a.setPhase v phase).seq.standDown } := by
  unfold Actors.setPhase
  have hkeep : (if a.coord.phase.inTurn && phase.standsAside then a.withdrawClaim v else a).seq = a.seq := by
    split
    · exact (a.withdrawClaim_seq v).1
    · rfl
  split
  · rfl
  · dsimp only
    rw [Actors.urgent_seq, Actors.judge_seq, Actors.withCoord_seq]
    split
    · rw [Actors.leaveEnergizing_eq, hkeep]
    · rw [hkeep]

/-- What a change of phase asks of the Line Unit. -/
theorem Actors.setPhase_served (phase : Phase) : a.line.Served v.now (a.setPhase v phase).line := by
  unfold Actors.setPhase
  split
  · exact .refl _
  · dsimp only
    refine .urgent (.cadence _ ?_)
    rw [Actors.withCoord_line]
    have hserved : a.line.Served v.now (if a.coord.phase.inTurn && phase.standsAside then a.withdrawClaim v else a).line := by
      split
      · exact (a.reach_withdrawClaim v).line
      · exact .refl _
    split
    · rwa [Actors.leaveEnergizing_eq]
    · exact hserved

theorem Actors.touch_setPhase (phase : Phase) : a.Touch v (a.setPhase v phase) := by
  have hseq := a.setPhase_seq v phase
  have hdrv := a.setPhase_drv_eq v phase
  refine ⟨a.setPhase_served v phase, ?_, fun h hp => ?_, by rw [hseq], by rw [hseq], by rw [hseq], by rw [hseq]⟩
  · rw [hdrv]
    split
    · exact Driver.moves_leaveEnergizing ..
    · exact .refl _
  · rw [a.setPhase_phase v phase] at hp
    rw [hdrv]
    split
    · exact ⟨Driver.leaveEnergizing_not_firing .., Driver.leaveEnergizing_not_firing ..⟩
    · next hstay =>
      exact h fun hen => hstay ⟨hen, hp⟩

theorem Actors.reach_setPhase (phase : Phase) (hphase : phase ≠ .energizing) : a.Reach v (a.setPhase v phase) where
  toTouch := a.touch_setPhase v phase
  grows h := by
    refine ⟨⟨by rwa [Actors.setPhase_phase], ?_⟩, by rw [Actors.setPhase_seq]⟩
    rw [Actors.setPhase_coord]
    unfold Coordinator.moved
    split
    · exact h.2
    · dsimp only
      rw [if_neg h.1]
      split <;> exact h.2

theorem Actors.reach_restartWait : a.Reach v (a.restartWait v) := .of_coord a v _ rfl rfl

theorem Actors.reach_enterQuietWait : a.Reach v (a.enterQuietWait v) :=
  (a.reach_setPhase v .quietWait (by decide)).trans (Actors.reach_restartWait _ v)

theorem Actors.reach_abort : a.Reach v (a.abort v) := (a.reach_enterQuietWait v).trans (Actors.reach_bringUp _ v _)

theorem Actors.reach_onRise (new : Stage) : a.Reach v (a.onRise v new) := by
  unfold Actors.onRise
  split
  · split
    · exact a.reach_enterQuietWait v
    · exact .refl v a
  all_goals first | exact a.reach_enterQuietWait v | exact a.reach_abort v | exact .refl v a

theorem Actors.reach_onTrip : a.Reach v (a.onTrip v) := by
  unfold Actors.onTrip
  split
  all_goals first | exact a.reach_enterQuietWait v | exact a.reach_abort v | exact .refl v a

theorem Actors.reach_onLeftCalm : a.Reach v (a.onLeftCalm v) := by
  unfold Actors.onLeftCalm
  split
  all_goals first | exact a.reach_enterQuietWait v | exact .refl v a

theorem Actors.reach_onEnteredCalm : a.Reach v (a.onEnteredCalm v) := by
  unfold Actors.onEnteredCalm
  split
  · exact .of_coord a v _ rfl rfl
  · exact .refl v a

/-! ### Leave to restart and turn-taking (R157 to R164) -/

theorem Actors.reach_enterBidding : a.Reach v (a.enterBidding v) :=
  (a.reach_setPhase v .bidding (by decide)).trans (Actors.reach_request _ v .bid)

theorem Actors.reach_checkAuthority : a.Reach v (a.checkAuthority v) := by
  unfold Actors.checkAuthority
  split
  · exact a.reach_enterBidding v
  · exact .refl v a

theorem Actors.reach_enterAwaitPermit : a.Reach v (a.enterAwaitPermit v) :=
  (a.reach_setPhase v .awaitPermit (by decide)).trans (Actors.reach_checkAuthority _ v)

theorem Actors.reach_endStagger : a.Reach v (a.endStagger v) := by
  unfold Actors.endStagger
  split
  · exact a.reach_enterBidding v
  · exact a.reach_enterAwaitPermit v

theorem Actors.reach_compareBackoff : a.Reach v (a.compareBackoff v) := by
  unfold Actors.compareBackoff
  split
  · exact .refl v a
  · split
    · exact .of_coord a v _ rfl rfl
    · split
      · exact .refl v a
      · split
        · exact a.reach_endStagger v
        · exact .of_coord a v _ rfl rfl

theorem Actors.reach_enterBackoff : a.Reach v (a.enterBackoff v) :=
  (a.reach_setPhase v .backoff (by decide)).trans (Actors.reach_compareBackoff _ v)

theorem Actors.reach_endBidWindow : a.Reach v (a.endBidWindow v) := by
  unfold Actors.endBidWindow
  dsimp only
  split
  · exact a.reach_enterBackoff v
  · split
    · exact (Actors.Reach.of_coord a v { a.coord with bidWindow := none, claimOutstanding := true, claimPending := true }
        rfl rfl).trans (Actors.reach_request _ v .claim)
    · exact a.reach_enterBackoff v

theorem Actors.reach_onClaim (key : Nat) : a.Reach v (a.onClaim v key) := by
  unfold Actors.onClaim
  dsimp only
  split
  · exact a.reach_enterBackoff v
  · exact .refl v a

theorem Actors.reach_onSent (k : RestartKind) : a.Reach v (a.onSent v k) := by
  unfold Actors.onSent
  split
  · split
    · exact .of_coord a v _ rfl rfl
    · exact .refl v a
  · split
    · exact (a.reach_setPhase v .contest (by decide)).trans (.of_coord _ v _ rfl rfl)
    · exact .refl v a
  all_goals exact .refl v a

theorem Actors.reach_stop : a.Reach v (a.stop v) :=
  (Actors.Reach.of_coord a v { a.coord with permit := false, keyWithheld := a.coord.keyWithheld || v.keyTurned } rfl
    rfl).trans (Actors.reach_enterAwaitPermit _ v)

theorem Actors.reach_onMute : a.Reach v (a.onMute v) := by
  unfold Actors.onMute
  split
  all_goals first | exact a.reach_enterAwaitPermit v | exact .refl v a

theorem Actors.reach_onFault : a.Reach v (a.onFault v) := by
  unfold Actors.onFault
  split
  all_goals first | exact a.reach_enterAwaitPermit v | exact a.reach_stop v | exact .refl v a

theorem Actors.reach_onHold : a.Reach v (a.onHold v) := by
  unfold Actors.onHold
  refine (Actors.Reach.of_coord a v { a.coord with permit := false, keyWithheld := a.coord.keyWithheld || v.keyTurned } rfl
    rfl).trans ?_
  dsimp only
  split
  case h_4 =>
    split
    · exact .of_coord _ v _ rfl rfl
    · exact Actors.reach_enterAwaitPermit _ v
  all_goals first | exact Actors.reach_enterAwaitPermit _ v | exact .refl v _

theorem Actors.reach_onResume : a.Reach v (a.onResume v) := by
  unfold Actors.onResume
  refine (Actors.Reach.of_coord a v { a.coord with permit := true, holdPending := false } rfl rfl).trans ?_
  dsimp only
  split
  · exact (Actors.reach_urgent _ v).trans (Actors.reach_checkAuthority _ v)
  · exact Actors.reach_checkAuthority _ v

theorem Actors.reach_onKey (active : Bool) : a.Reach v (a.onKey v active) := by
  unfold Actors.onKey
  split
  · exact a.reach_checkAuthority v
  · exact .of_coord a v _ rfl rfl

/-! ### Raising (R100 to R102) -/

theorem Actors.reach_setStage (stage : Stage) (h : a.seq.stage.code ≤ stage.code) : a.Reach v (a.setStage v stage) :=
  (Actors.Reach.of_seq a v { a.seq with stage := stage } rfl rfl rfl rfl h).trans (Actors.reach_judge _ v)

/-- Lowered or not, a stage set touches nothing else. -/
theorem Actors.touch_setStage (stage : Stage) : a.Touch v (a.setStage v stage) :=
  Actors.Touch.trans (b := a.withSeq { a.seq with stage := stage }) ⟨.refl _, .refl _, id, rfl, rfl, rfl, rfl⟩
    (Actors.reach_judge _ v).toTouch

theorem Actors.reach_raise (new : Stage) (h : a.seq.stage.code ≤ new.code) : a.Reach v (a.raise v new) :=
  (((a.reach_setStage v new h).trans (Actors.reach_bringUp _ v new)).trans (Actors.reach_urgent _ v)).trans
    (Actors.reach_onRise _ v new)

theorem Actors.reach_compare : a.Reach v (a.compare v) := by
  unfold Actors.compare
  split
  · exact .refl v a
  · split
    · next h => exact a.reach_raise v _ h.le
    · exact .refl v a

/-! ### Energizing (R112, R167 to R171) -/

/-- A step set in ENERGIZING, or with one under way before. -/
theorem Actors.touch_inStep (step : EnergizeStep) : a.Touch v (a.inStep step) :=
  ⟨.refl _, .refl _, id, rfl, rfl, rfl, rfl⟩

theorem Actors.touch_withSeq (q : Sequencer) (hfloor : q.floor = a.seq.floor) (htarget : q.target = a.seq.target)
    (hsolo : q.solo = a.seq.solo) (hhold : q.rejoinHold = a.seq.rejoinHold) : a.Touch v (a.withSeq q) :=
  ⟨.refl _, .refl _, id, hfloor, htarget, hsolo, hhold⟩

/-- A stage lowered (R112). -/
theorem Actors.touch_lower : a.Touch v (a.lower v) :=
  ((((a.touch_withSeq v { a.seq with
      safeWait := a.seq.safeWait && a.seq.stage.lowered = .safe
      grace := if a.seq.stage.lowered.code < 3 then .none else a.seq.grace } rfl rfl rfl rfl).trans
    (Actors.touch_setStage _ v a.seq.stage.lowered)).trans (Actors.reach_urgent _ v).toTouch).trans
    (Actors.reach_compare _ v).toTouch)

theorem Actors.touch_beginA : a.Touch v (a.beginA v).1 :=
  (Actors.Reach.of_drv a v _ ((Driver.moves_releaseHold ..).trans (Driver.moves_releaseHold ..))).toTouch.trans
    (Actors.touch_inStep _ v _)

theorem Actors.touch_settleIfClosed : a.Touch v (a.settleIfClosed v) := by
  unfold Actors.settleIfClosed
  split
  · exact a.touch_inStep v _
  · exact .refl v a

theorem Actors.touch_beginB : a.Touch v (a.beginB v).1 := by
  have close : ∀ (need : Bool) (p : Pdu) (d : Driver), d.Moves a.energizing
      (if need then d.requestClose v.scanner v.now true p else ((d, []) : Driven)).1 := by
    intro need p d
    split
    · exact Driver.moves_requestClose ..
    · exact .refl d
  unfold Actors.beginB
  dsimp only
  split
  · exact .refl v a
  · exact ((Actors.Reach.of_drv a v _ ((close _ .a _).trans (close _ .b _))).toTouch.trans (Actors.touch_inStep _ v _)).trans
      (Actors.touch_settleIfClosed _ v)

/-- Two LEVEL channels asked to be released, one after the other. -/
def Actors.released (a : Actors) (first second : LevelId) : Actors :=
  a.withDrv ((a.drv.releaseLevel first).1.releaseLevel second).1

/-- Neither of two releases is refused (R127). -/
def Driver.bothReleased (d : Driver) (first second : LevelId) : Bool :=
  (d.releaseLevel first).2 && ((d.releaseLevel first).1.releaseLevel second).2

/-- The turn ends with step D (R171): permit consumed, a turned key withheld, a DONE asked, no claim left, phase NONE. -/
def Actors.endTurn (a : Actors) (v : View) : Actors :=
  let b := (a.withCoord { a.coord with
    permit := false, keyWithheld := a.coord.keyWithheld || v.keyTurned }).request v .done
  (b.withCoord { b.coord with claimOutstanding := false }).setPhase v .none

theorem Actors.beginC_eq : a.beginC v = if a.drv.bothReleased .freeze .haltreq then
      (a.released .freeze .haltreq).inStep (.releaseWait (later v.now releaseWaitTime))
    else (a.released .freeze .haltreq).stop v := rfl

theorem Actors.runD_eq : a.runD v = if a.drv.bothReleased .advise .lift then
      if (((a.released .advise .lift).inStep .none).lower v).coord.phase = .energizing then
        (((a.released .advise .lift).inStep .none).lower v).endTurn v
      else ((a.released .advise .lift).inStep .none).lower v
    else (a.released .advise .lift).stop v := rfl

theorem Actors.reach_released (first second : LevelId) : a.Reach v (a.released first second) :=
  .of_drv a v _ ((Driver.moves_releaseLevel ..).trans (Driver.moves_releaseLevel ..))

theorem Actors.touch_beginC : a.Touch v (a.beginC v) := by
  rw [Actors.beginC_eq]
  refine (a.reach_released v .freeze .haltreq).toTouch.trans ?_
  split
  · exact Actors.touch_inStep _ v _
  · exact (Actors.reach_stop _ v).toTouch

theorem Actors.touch_endTurn : a.Touch v (a.endTurn v) := by
  unfold Actors.endTurn
  refine Actors.Touch.trans ?_ (Actors.reach_setPhase _ v .none (by decide)).toTouch
  refine Actors.Touch.trans ?_ (Actors.Reach.of_coord _ v _ (by rfl) (by rfl)).toTouch
  refine Actors.Touch.trans ?_ (Actors.reach_request _ v .done).toTouch
  exact (Actors.Reach.of_coord a v _ (by rfl) (by rfl)).toTouch

theorem Actors.touch_runD : a.Touch v (a.runD v) := by
  rw [Actors.runD_eq]
  refine (a.reach_released v .advise .lift).toTouch.trans ?_
  split
  · refine ((Actors.touch_inStep _ v .none).trans (Actors.touch_lower _ v)).trans ?_
    split
    · exact Actors.touch_endTurn _ v
    · exact .refl v _
  · exact (Actors.reach_stop _ v).toTouch

theorem Actors.touch_beginStep : a.Touch v (a.beginStep v).1 := by
  unfold Actors.beginStep
  split
  · exact a.touch_beginA v
  · exact a.touch_beginB v
  · exact a.touch_beginC v
  · unfold Actors.beginD
    split
    · exact a.touch_runD v
    · exact a.touch_inStep v _
  · exact a.touch_inStep v _

theorem Actors.touch_completeStep (next : Actors → Actors) (hnext : ∀ b : Actors, b.Touch v (next b)) :
    a.Touch v (a.completeStep v next) := by
  unfold Actors.completeStep
  refine ((a.touch_inStep v .none).trans (Actors.touch_lower _ v)).trans ?_
  dsimp only
  split
  · split
    · exact (Actors.reach_enterAwaitPermit _ v).toTouch
    · exact hnext _
  · exact .refl v _

theorem Actors.touch_runSteps (n : Nat) : a.Touch v (Actors.runSteps v n a) := by
  induction n generalizing a with
  | zero => exact .refl v a
  | succ n ih =>
    unfold Actors.runSteps
    refine (a.touch_beginStep v).trans ?_
    dsimp only
    split
    · exact Actors.touch_completeStep _ v _ ih
    · exact .refl v _

theorem Actors.touch_stepDone : a.Touch v (a.stepDone v) := a.touch_completeStep v _ fun b => b.touch_runSteps v 4

/-! ### Reports of the driver (R138, R168, R169, R173) -/

theorem Actors.touch_progress : a.Touch v (a.progress v) := by
  unfold Actors.progress
  split
  · exact a.touch_stepDone v
  · exact a.touch_settleIfClosed v
  · exact .refl v a

/-- With a step under way a call is held to its frame alone. -/
theorem Actors.not_quiescent_of_step (h : a.coord.step ≠ .none) : ¬ a.Quiescent := fun hq => h hq.2

theorem Actors.not_quiescent_of_phase (h : a.coord.phase = .energizing) : ¬ a.Quiescent := fun hq => hq.1 h

theorem Actors.reach_onReleased (h : HoldId) : a.Reach v (a.onReleased v h) := by
  unfold Actors.onReleased
  split
  · next hstep =>
    exact ((a.touch_inStep v _).trans (Actors.touch_progress _ v)).reach (a.not_quiescent_of_step (by simp [hstep]))
  · next hstep =>
    exact ((a.touch_inStep v _).trans (Actors.touch_progress _ v)).reach (a.not_quiescent_of_step (by simp [hstep]))
  · exact .refl v a

theorem Actors.reach_onClosed (p : Pdu) : a.Reach v (a.onClosed v p) := by
  unfold Actors.onClosed
  split
  · next hstep =>
    exact ((a.touch_inStep v _).trans (Actors.touch_progress _ v)).reach (a.not_quiescent_of_step (by simp [hstep]))
  · next hstep =>
    exact ((a.touch_inStep v _).trans (Actors.touch_progress _ v)).reach (a.not_quiescent_of_step (by simp [hstep]))
  · exact .refl v a

theorem Actors.reach_onReleaseFailed (h : HoldId) : a.Reach v (a.onReleaseFailed v h) := by
  unfold Actors.onReleaseFailed
  split
  · exact a.reach_stop v
  · exact a.reach_stop v
  · exact .refl v a

theorem Actors.reach_onCloseFailed (p : Pdu) : a.Reach v (a.onCloseFailed v p) := by
  unfold Actors.onCloseFailed
  split
  · exact a.reach_stop v
  · exact a.reach_stop v
  · exact .refl v a

theorem Actors.reach_report (n : Notice) : a.Reach v (a.report v n) := by
  cases n with
  | releaseConfirmed h => exact a.reach_onReleased v h
  | closeConfirmed p => exact a.reach_onClosed v p
  | releaseFailed h => exact a.reach_onReleaseFailed v h
  | closeFailed p => exact a.reach_onCloseFailed v p
  | tripOutcome p => exact a.reach_hear v (.tripOutcome p)
  | failedFlag => exact a.reach_hear v .failedFlag
  | closeUnconfirmed | closeRefused | closeCut | closeWithdrawn | releaseUnconfirmed => exact .refl v a

theorem Actors.reach_operate (f : Driver → Driven) (hf : a.drv.Moves a.energizing (f a.drv).1) :
    a.Reach v (a.operate v f) := by
  refine (Actors.Reach.of_drv a v _ hf).trans ?_
  unfold Actors.operate
  generalize a.withDrv (f a.drv).1 = b
  induction (f a.drv).2 generalizing b with
  | nil => exact .refl v b
  | cons n ns ih => exact (b.reach_report v n).trans (ih _)

theorem Actors.reach_serve : a.Reach v (a.serve v) := a.reach_operate v _ (Driver.moves_serve ..)

/-! ### Forming T (R96) -/

theorem Actors.reach_onTarget : a.Reach v (a.onTarget v) := by
  unfold Actors.onTarget
  split
  · next hen =>
    split
    · exact a.reach_abort v
    · split
      · exact (a.touch_runD v).reach (a.not_quiescent_of_phase hen)
      · exact .refl v a
  · exact .refl v a

theorem Actors.reach_cutByGrade : a.Reach v (a.cutByGrade v) := by
  unfold Actors.cutByGrade
  split
  · exact a.reach_endGrace v
  · exact .refl v a

/-- T formed is held; what follows is a call like the others. -/
theorem Actors.reach_formTarget :
    (a.withSeq { a.seq with target := Machine.target v }).Reach v (a.formTarget v) := by
  unfold Actors.formTarget
  dsimp only
  split
  · exact .refl v _
  · exact ((Actors.reach_compare _ v).trans (Actors.reach_cutByGrade _ v)).trans (Actors.reach_onTarget _ v)

theorem Actors.formTarget_target : (a.formTarget v).seq.target = Machine.target v := (a.reach_formTarget v).target

end

end Sys2Proof.Machine
end

section
/-! PROOFS. The Sample Port and the Motion Assessor stay in their ranges: framing, supervision, the averages, the runs and the
event record. -/

namespace Sys2Proof.Machine

/-! ### The Sample Port (01, section 1.2) -/

theorem Port.clockBit_inRange (p : Port) (bit : Bool) (h : p.wordPos ≤ 5 ∧ p.bitCount ≤ 15) :
    (p.clockBit bit).wordPos ≤ 5 ∧ (p.clockBit bit).bitCount ≤ 15 := by
  unfold Port.clockBit
  split
  · exact ⟨le_rfl, h.2⟩
  · dsimp only
    split
    · exact ⟨by dsimp only; omega, Nat.zero_le _⟩
    · exact ⟨h.1, by dsimp only; omega⟩

/-- Clocking bits in keeps the two counters in their ranges (R2). -/
theorem Port.clockFrame_inRange (p : Port) (bits : List Bool) :
    (p.clockFrame bits).wordPos ≤ 5 ∧ (p.clockFrame bits).bitCount ≤ 15 := by
  unfold Port.clockFrame
  have hopen : p.openFrame.wordPos ≤ 5 ∧ p.openFrame.bitCount ≤ 15 := ⟨Nat.zero_le _, Nat.zero_le _⟩
  generalize p.openFrame = q at hopen
  induction bits generalizing q with
  | nil => exact hopen
  | cons bit bits ih => exact ih _ (q.clockBit_inRange bit hopen)

theorem Port.sound_clockFrame {p : Port} (h : p.Sound) (bits : List Bool) : (p.clockFrame bits).Sound := by
  obtain ⟨-, -, hrest⟩ := h
  obtain ⟨hword, hbit⟩ := p.clockFrame_inRange bits
  refine ⟨hword, hbit, ?_⟩
  simpa using hrest

/-- The identical count after a comparison lies between 1 and 2048 (R12). -/
theorem Port.identicalAfter_inRange (p : Port) (counts : Sample) :
    1 ≤ p.identicalAfter counts ∧ p.identicalAfter counts ≤ 2048 := by
  unfold Port.identicalAfter
  split
  · split
    · omega
    · omega
  · omega

/-- A sound port that has taken a frame and stands LOST or TRACKING. -/
theorem Port.sound_lose_take {p : Port} (h : p.Sound) (f : Frame) {run : Nat} (hrun : run ≤ 199) :
    ((p.take f).lose run).Sound := by
  obtain ⟨hw, hb, -⟩ := h
  have hid := p.identicalAfter_inRange f.counts
  simp [Port.Sound, hw, hb, hid, hrun]

theorem Port.sound_track_take {p : Port} (h : p.Sound) (now : Stamp) (f : Frame) (hid : p.identicalAfter f.counts < 2048) :
    ((p.take f).track now).Sound := by
  obtain ⟨hw, hb, -⟩ := h
  have hlow := (p.identicalAfter_inRange f.counts).1
  simp [Port.Sound, hw, hb, hlow, hid, hid.le]

theorem Port.sound_arrive {p : Port} (h : p.Sound) (now : Stamp) (f : Frame) (held : List Delivery) :
    (p.arrive now f held).1.Sound := by
  unfold Port.arrive
  dsimp only
  split
  · exact Port.sound_lose_take h f (Nat.zero_le _)
  · exact Port.sound_track_take h now f (by simp_all)

/-- The recovery run is no part of the ranges but its own. -/
theorem Port.sound_recover {p : Port} (h : p.Sound) (hlost : p.status = .lost) (now : Stamp) (f : Frame) (good : Bool) :
    (p.recover now f good).1.Sound := by
  obtain ⟨hw, hb, -, -, hrec, -, -, -, -, hmiss⟩ := id h
  have hid := p.identicalAfter_inRange f.counts
  have hrun : (p.take f).nextRun good ≤ 200 := by
    unfold Port.nextRun
    split
    · omega
    · split
      · rw [Port.take_recovery]
        omega
      · omega
  unfold Port.recover
  dsimp only
  split
  next hfull =>
    refine Port.sound_track_take h now f ?_
    unfold Port.nextRun at hfull
    split at hfull
    · omega
    · next hfew => simpa using hfew
  next hshort =>
    simp [Port.Sound, hw, hb, hid, hlost, hmiss hlost]
    omega

theorem Port.sound_sound {p : Port} (h : p.Sound) (now : Stamp) (f : Frame) : (p.sound now f).1.Sound := by
  unfold Port.sound
  split
  · exact Port.sound_arrive h now f _
  · exact Port.sound_arrive h now f _
  · dsimp only
    split
    · exact h
    · split
      · exact Port.sound_arrive h now f _
      · exact Port.sound_lose_take h f (run := if 2048 ≤ (p.take f).identical then 0 else 1) (by split <;> omega)
  · next hlost _ => exact Port.sound_recover h hlost now f _
  · next hlost _ =>
    split
    · simp_all [Port.Sound]
    · exact Port.sound_recover h hlost now f _

/-- A loss from any status. -/
theorem Port.sound_lose {p : Port} (h : p.Sound) {run : Nat} (hrun : run ≤ 199) : (p.lose run).Sound := by
  obtain ⟨hw, hb, -, hid, -, hseq, -⟩ := h
  refine ⟨hw, hb, Nat.zero_le _, hid, hrun, hseq, ?_⟩
  simp

theorem Port.sound_missed {p : Port} (h : p.Sound) : p.missed.1.Sound := by
  unfold Port.missed
  split
  · simp_all [Port.Sound]
  all_goals
    split
    · exact Port.sound_lose h (Nat.zero_le _)
    · next hstatus hfew =>
      obtain ⟨hw, hb, -, hid, hrec, hseq, hstart, htrack, hrun, -⟩ := h
      exact ⟨hw, hb, by dsimp only; omega, hid, hrec, hseq, hstart, htrack, hrun, fun hlost => by simp [hstatus] at hlost⟩

theorem Port.sound_frameEnd {p : Port} (h : p.Sound) (now : Stamp) (bits : List Bool) : (p.frameEnd now bits).1.Sound := by
  unfold Port.frameEnd
  split
  · exact h
  · dsimp only
    split
    · exact Port.sound_sound (Port.sound_clockFrame h bits) now _
    · exact Port.sound_missed (Port.sound_clockFrame h bits)

theorem Port.sound_timeout {p : Port} (h : p.Sound) : p.timeout.1.Sound := by
  unfold Port.timeout
  split
  · simp_all [Port.Sound]
  all_goals exact Port.sound_lose h (Nat.zero_le _)

/-! ### Magnitudes, averages and baselines (R19 to R23) -/

theorem natAbs_dynamic_le (count : Word16) (base : Int) : (dynamic count base).natAbs ≤ 32767 := by
  unfold dynamic
  omega

theorem magnitude_le (s : Sample) (base : Axes) : magnitude s base ≤ 57341 := by
  have hx := natAbs_dynamic_le s.x base.x
  have hy := natAbs_dynamic_le s.y base.y
  have hz := natAbs_dynamic_le s.z base.z
  unfold magnitude magnitudeOf
  dsimp only
  omega

/-- A step toward a target stays in any range that holds both (R21 to R23). -/
theorem approach_mem {x target low high : Int} (shift : Nat) (hx : low ≤ x ∧ x ≤ high) (ht : low ≤ target ∧ target ≤ high) :
    low ≤ approach x target shift ∧ approach x target shift ≤ high := by
  have hpos : (0 : Int) < 2 ^ shift := by positivity
  unfold approach
  rcases le_total x target with hle | hle
  · have hnonneg : 0 ≤ (target - x) / 2 ^ shift := Int.ediv_nonneg (by omega) hpos.le
    have hself : (target - x) / 2 ^ shift ≤ target - x := Int.ediv_le_self _ (by omega)
    omega
  · have hnonpos : (target - x) / 2 ^ shift ≤ 0 := Int.ediv_nonpos_of_nonpos_of_neg (by omega) hpos
    have hself : target - x ≤ (target - x) / 2 ^ shift := by
      rw [Int.le_ediv_iff_mul_le hpos]
      have : (1 : Int) ≤ 2 ^ shift := hpos
      nlinarith
    omega

theorem shortStep_mem {short : Int} {m : Nat} (h : 0 ≤ short ∧ short ≤ 917456) (hm : m ≤ 57341) :
    0 ≤ approach short (16 * m) 3 ∧ approach short (16 * m) 3 ≤ 917456 :=
  approach_mem 3 h (by omega)

theorem longAfter_mem {long : Int} {m : Nat} (shift : Nat) (h : 128 ≤ long ∧ long ≤ 917456) (hm : m ≤ 57341) :
    128 ≤ longAfter long m shift ∧ longAfter long m shift ≤ 917456 := by
  have happroach := approach_mem (low := 0) (high := 917456) (x := long) (target := 16 * m) shift (by omega) (by omega)
  unfold longAfter
  omega

/-- Three baselines, each in its range. -/
def Axes.InRange (b : Axes) : Prop := baselineInRange b.x ∧ baselineInRange b.y ∧ baselineInRange b.z

theorem scaledCount_mem (c : Word16) : baselineInRange (c.toInt * 256) := by
  have hlow := BitVec.le_toInt c
  have hhigh := BitVec.toInt_lt (x := c)
  norm_num at hlow hhigh
  constructor <;> omega

theorem Axes.inRange_seed (s : Sample) : (Axes.seed s).InRange :=
  ⟨scaledCount_mem s.x, scaledCount_mem s.y, scaledCount_mem s.z⟩

theorem Axes.inRange_follow {b : Axes} (h : b.InRange) (s : Sample) (shift : Nat) : (b.follow s shift).InRange :=
  ⟨approach_mem shift h.1 (scaledCount_mem s.x), approach_mem shift h.2.1 (scaledCount_mem s.y),
    approach_mem shift h.2.2 (scaledCount_mem s.z)⟩

/-! ### The Motion Assessor (02, section 2.1) -/

section
variable {a : Assessor}

/-- Averages and baselines replaced within their ranges. -/
theorem Assessor.Sound.withLevels (h : a.Sound) {base : Axes} {short long : Int} (hbase : base.InRange)
    (hshort : 0 ≤ short ∧ short ≤ 917456) (hlong : 128 ≤ long ∧ long ≤ 917456) :
    { a with base := base, short := short, long := long }.Sound := by
  obtain ⟨-, -, -, -, -, hrest⟩ := h
  exact ⟨hbase.1, hbase.2.1, hbase.2.2, hshort, hlong, hrest⟩

theorem Assessor.Sound.base (h : a.Sound) : a.base.InRange := ⟨h.1, h.2.1, h.2.2.1⟩

theorem Assessor.Sound.levels (h : a.Sound) : (0 ≤ a.short ∧ a.short ≤ 917456) ∧ 128 ≤ a.long ∧ a.long ≤ 917456 :=
  ⟨h.2.2.2.1, h.2.2.2.2.1⟩

theorem Assessor.Sound.withShort (h : a.Sound) {m : Nat} (hm : m ≤ 57341) : (a.withShort m).Sound :=
  h.withLevels h.base (shortStep_mem h.levels.1 hm) h.levels.2

theorem Assessor.Sound.noRun (h : a.Sound) : a.noRun.Sound := by
  obtain ⟨hbx, hby, hbz, hs, hl, hcc, -, -, hrel, hset, hpeak, hgrade, hcap, hsettling, -, honset⟩ := h
  exact ⟨hbx, hby, hbz, hs, hl, hcc, Nat.zero_le _, Nat.zero_le _, hrel, hset, hpeak, hgrade, hcap, hsettling,
    fun _ hrun => absurd hrun (by simp), honset⟩

theorem Assessor.Sound.testCalm (h : a.Sound) (hcalm : a.detector = .calm) (prof : Profile) (s : Sample) (stamp : Stamp)
    {m : Nat} (hm : m ≤ 57341) : (a.testCalm prof s stamp m).Sound := by
  unfold Assessor.testCalm
  split
  · dsimp only
    unfold Assessor.extendRun
    obtain ⟨hbx, hby, hbz, hs, hl, hcc, hq, hrp, hrel, hset, hpeak, hgrade, -, -, honset, -⟩ := id h
    split
    · rw [if_neg (by dsimp only; omega)]
      simp_all [Assessor.Sound, baselineInRange, Detector.inEvent]
    · next hrun =>
      have hsome := honset hcalm (by omega)
      split
      · simp_all [Assessor.Sound, baselineInRange, Assessor.openEvent, Detector.inEvent]
      · simp_all [Assessor.Sound, baselineInRange, Detector.inEvent]
  · exact h.noRun

theorem Assessor.Sound.testEvent (h : a.Sound) (hev : a.detector = .event) (prof : Profile) : (a.testEvent prof).Sound := by
  unfold Assessor.testEvent
  split
  · split
    · simp_all [Assessor.Sound, baselineInRange, Detector.inEvent]
    · simp_all [Assessor.Sound, baselineInRange, Detector.inEvent]
  · simp_all [Assessor.Sound, baselineInRange, Detector.inEvent]

theorem Assessor.Sound.settle (h : a.Sound) (hset : a.detector = .settling) : a.settle.Sound := by
  unfold Assessor.settle
  split
  · simp_all [Assessor.Sound, baselineInRange, Detector.inEvent]
    omega
  · simp_all [Assessor.Sound, baselineInRange, Detector.inEvent]
    omega

theorem Assessor.Sound.testSettling (h : a.Sound) (hset : a.detector = .settling) (prof : Profile) :
    (a.testSettling prof).Sound := by
  unfold Assessor.testSettling
  split
  · split
    · simp_all [Assessor.Sound, baselineInRange, Detector.inEvent]
    · refine Assessor.Sound.settle (a := { a with qualifying := a.qualifying + 1 }) ?_ hset
      simp_all [Assessor.Sound, baselineInRange, Detector.inEvent]
  · refine Assessor.Sound.settle (a := { a with qualifying := 0 }) ?_ hset
    simp_all [Assessor.Sound, baselineInRange, Detector.inEvent]

theorem Assessor.Sound.takeEvent (h : a.Sound) (s : Sample) {m : Nat} (hm : m ≤ 57341) :
    { a with event := a.event.take s m }.Sound := by
  obtain ⟨hbx, hby, hbz, hs, hl, hcc, hq, hrp, hrel, hset, hpeak, -, hrest⟩ := h
  refine ⟨hbx, hby, hbz, hs, hl, hcc, hq, hrp, hrel, hset, ?_, rfl, hrest⟩
  dsimp only [EventRecord.take]
  omega

theorem Assessor.Sound.disturbance (h : a.Sound) (s : Sample) (stamp : Stamp) : (a.disturbance s stamp).Sound := by
  unfold Assessor.disturbance
  split
  · have hseed := Axes.inRange_seed s
    have hlevels := h.levels
    have hlong : 128 ≤ max 128 a.short ∧ max 128 a.short ≤ 917456 := by omega
    have hquiet : { a.noRun with detector := .calm, releasing := 0, settling := 0 }.Sound := by
      simp_all [Assessor.Sound, baselineInRange, Detector.inEvent]
    exact hquiet.withLevels hseed hlevels.1 hlong
  · exact h

theorem Assessor.Sound.seed (h : a.Sound) (s : Sample) : (a.seed s).Sound :=
  h.withLevels (Axes.inRange_seed s) (short := 0) (long := 128) (by omega) (by omega)

theorem Assessor.Sound.endCapture (h : a.Sound) (hcap : a.detector = .capture) (s : Sample) {m : Nat} (hm : m ≤ 57341) :
    (a.endCapture s m).Sound := by
  have hlevels := h.withLevels (Axes.inRange_follow h.base s 6) h.levels.1 (longAfter_mem 6 h.levels.2 hm)
  unfold Assessor.endCapture
  generalize a.base.follow s 6 = base at hlevels ⊢
  generalize longAfter a.long m 6 = long at hlevels ⊢
  dsimp only
  split
  · simp_all [Assessor.Sound, baselineInRange, Detector.inEvent]
    omega
  · simp_all [Assessor.Sound, baselineInRange, Detector.inEvent]
    omega

theorem Assessor.Sound.sample (h : a.Sound) (prof : Profile) (s : Sample) (stamp : Stamp) : (a.sample prof s stamp).Sound := by
  have hm := magnitude_le s a.base
  unfold Assessor.sample
  split
  · next hcap =>
    dsimp only
    have hseeded : (if a.awaitingSeed then a.seed s else a).Sound ∧ (if a.awaitingSeed then a.seed s else a).detector = .capture := by
      split
      · exact ⟨h.seed s, hcap⟩
      · exact ⟨h, hcap⟩
    generalize (if a.awaitingSeed then a.seed s else a) = b at hseeded
    exact (hseeded.1.withShort (magnitude_le s b.base)).endCapture hseeded.2 s (magnitude_le s b.base)
  · next hcalm =>
    refine Assessor.Sound.disturbance ?_ s stamp
    have htest := (h.withShort hm).testCalm hcalm prof s stamp hm
    exact htest.withLevels (Axes.inRange_follow h.base s 10) htest.levels.1 (longAfter_mem 9 h.levels.2 hm)
  · next hev => exact (((h.withShort hm).testEvent hev prof).takeEvent s hm).disturbance s stamp
  · next hset => exact (((h.withShort hm).testSettling hset prof).takeEvent s hm).disturbance s stamp
  · exact h

theorem Assessor.Sound.enterCapture (h : a.Sound) : a.enterCapture.Sound := by
  unfold Assessor.enterCapture
  simp_all [Assessor.Sound, baselineInRange, Detector.inEvent]

theorem Assessor.Sound.lose (h : a.Sound) : a.lose.Sound := by
  unfold Assessor.lose
  split <;> simp_all [Assessor.Sound, baselineInRange, Detector.inEvent]

theorem Assessor.Sound.take (h : a.Sound) (prof : Profile) (d : Delivery) : (a.take prof d).Sound := by
  cases d with
  | sample s stamp held => exact h.sample prof s stamp
  | loss => exact h.lose
  | restoration => exact h.enterCapture

/-- A run of deliveries. -/
theorem Assessor.Sound.takes (h : a.Sound) (prof : Profile) (ds : List Delivery) :
    (ds.foldl (fun a d => a.take prof d) a).Sound := by
  induction ds generalizing a with
  | nil => exact h
  | cons d ds ih => exact ih (h.take prof d)

end

end Sys2Proof.Machine
end

section
/-! PROOFS. The Peer Table's records and the Contact Scanner stay sound: telegrams, expiries, and the judging of scans. -/

namespace Sys2Proof.Machine

/-! ### Records (R71, R73 to R84) -/

theorem PeerRecord.sound_never : PeerRecord.never.Sound := by decide

theorem PeerRecord.Sound.hear {r : PeerRecord} (h : r.Sound) (stamp : Stamp) (group : BitVec 2) :
    (r.hear stamp group).Sound ∧ (r.hear stamp group).liveness = .live := by
  unfold PeerRecord.hear
  split <;> simp_all [PeerRecord.Sound, PeerRecord.never]

theorem PeerRecord.Sound.takeState {r : PeerRecord} (h : r.Sound) (hlive : r.liveness = .live) (stamp : Stamp)
    (p : StatePayload) : (r.takeState stamp p).Sound := by
  obtain ⟨-, hheard, -, -, -, hspent, -⟩ := h
  have hbid : (if p.phase = .bidding then r.bid else none).isSome → r.claimAfter stamp p.phase = none := by
    cases hphase : p.phase <;> simp [PeerRecord.claimAfter, Phase.claiming]
  have hmark : (r.spent && p.phase.claiming) = true → r.claimAfter stamp p.phase = none := by
    intro hm
    obtain ⟨hs, hc⟩ := Bool.and_eq_true_iff.mp hm
    simp [PeerRecord.claimAfter, hc, hs, hspent hs]
  have hevent : (r.eventAfter stamp p).isSome → p.detector.inEvent = true := by
    unfold PeerRecord.eventAfter
    split
    · exact fun _ => ‹_›
    · simp
  exact ⟨fun hn => by simp [PeerRecord.takeState, hlive] at hn, fun _ => hheard (by simp [hlive]),
    fun hq => by simp [PeerRecord.takeState, hlive] at hq, fun hl => by simp [PeerRecord.takeState, hlive] at hl,
    hbid, hmark, hevent⟩

theorem PeerRecord.Sound.takeRestart {r : PeerRecord} (h : r.Sound) (hlive : r.liveness = .live) (stamp : Stamp)
    (k : RestartKind) : (r.takeRestart stamp k).Sound := by
  cases k <;> simp_all [PeerRecord.Sound, PeerRecord.takeRestart]

theorem PeerRecord.Sound.toQuiet {r : PeerRecord} (h : r.Sound) (hlive : r.liveness = .live) : r.toQuiet.Sound := by
  simp_all [PeerRecord.Sound]

theorem PeerRecord.Sound.toLost {r : PeerRecord} (h : r.Sound) (hquiet : r.liveness = .quiet) : r.toLost.Sound := by
  simp_all [PeerRecord.Sound]

theorem PeerRecord.Sound.dropBid {r : PeerRecord} (h : r.Sound) : r.dropBid.Sound := by
  obtain ⟨hnever, hrest⟩ := h
  refine ⟨fun hn => ?_, by simp_all⟩
  rw [hnever hn]
  rfl

theorem PeerRecord.Sound.spendClaim {r : PeerRecord} (h : r.Sound) (hclaim : r.claim.isSome) : r.spendClaim.Sound := by
  obtain ⟨hnever, hheard, hquiet, hlost, hbid, hspent, hevent⟩ := h
  have hn : r.liveness ≠ .never := fun hn => by
    rw [hnever hn] at hclaim
    cases hclaim
  have hl : r.liveness ≠ .lost := fun hl => by
    rw [(hlost hl).2.2.2.1] at hclaim
    cases hclaim
  exact ⟨fun h => absurd h hn, hheard, hquiet, fun h => absurd h hl, fun _ => rfl, fun _ => rfl, hevent⟩

/-- Any record of a sound table is sound; a number without one counts as never heard. -/
theorem State.PeersSound.recordOf {s : State} (h : s.PeersSound) (n : Nat) : (recordOf s.peers n).Sound := by
  unfold Machine.recordOf
  split
  · next r hr => exact h.2.1 r (List.mem_of_getElem? hr)
  · exact PeerRecord.sound_never

/-- A sound record written for a station number other than the own. -/
theorem State.PeersSound.set {s : State} (h : s.PeersSound) {n : Nat} {r : PeerRecord} (hr : r.Sound)
    (hn : n ≠ s.straps.stn.toNat) :
    (s.peers.set n r).length = Config.stations ∧ (∀ q ∈ s.peers.set n r, q.Sound)
      ∧ Machine.recordOf (s.peers.set n r) s.straps.stn.toNat = .never := by
  obtain ⟨hlen, hall, hown⟩ := h
  refine ⟨by rw [List.length_set, hlen], fun q hq => ?_, by rw [recordOf_set_of_ne _ _ hn, hown]⟩
  obtain hq | rfl := List.mem_or_eq_of_mem_set hq
  · exact hall q hq
  · exact hr

/-! ### Contact inputs (R143 to R146) -/

/-- One reading compared keeps the input sound and adds at most one agreement. -/
theorem ContactInput.Sound.compare {c : ContactInput} (h : c.Sound) (level : Bool) :
    (c.compare level).Sound ∧ (c.compare level).agreement ≤ c.agreement + 1 := by
  unfold ContactInput.compare
  split
  · simp [ContactInput.Sound]
  · next hne =>
    split
    · next hsame =>
      refine ⟨⟨by simp [hsame], h.2⟩, le_rfl⟩
    · refine ⟨⟨by simp, ?_⟩, Nat.le_add_left 1 _⟩
      rintro _ ⟨rfl⟩
      exact hne

/-- After the count of 3 has made its value, no count exceeds 2. -/
theorem ContactInput.Sound.adopt {c : ContactInput} (h : c.Sound) : c.adopt.Sound ∧ c.adopt.agreement ≤ 2 := by
  unfold ContactInput.adopt
  split
  · split
    · exact ⟨⟨by simp, by simp⟩, Nat.zero_le _⟩
    · exact ⟨h, by omega⟩
  · next hnone => exact ⟨h, by rw [h.1.mp hnone]; exact Nat.zero_le _⟩

theorem ContactInput.sound_drop (c : ContactInput) : c.drop.Sound ∧ c.drop.agreement = 0 := by
  simp [ContactInput.Sound, ContactInput.drop]

@[simp] theorem length_inputLevels (frame : BitVec 24) : (inputLevels frame).length = 16 := by
  simp [inputLevels]

/-- All inputs of a good scan compared (R143). -/
theorem compareAll_sound {inputs : List ContactInput} (frame : BitVec 24) (hlen : inputs.length = Config.contactInputs)
    (hall : ∀ c ∈ inputs, c.Sound) {n : Nat} (hcount : ∀ c ∈ inputs, c.agreement ≤ n) :
    (compareAll inputs frame).length = Config.contactInputs
      ∧ ∀ c ∈ compareAll inputs frame, c.Sound ∧ c.agreement ≤ n + 1 := by
  unfold compareAll
  refine ⟨by simp [hlen, Config.contactInputs], fun c hc => ?_⟩
  obtain ⟨i, hi, rfl⟩ := List.mem_iff_getElem.mp hc
  rw [List.getElem_zipWith]
  have hmem : inputs[i]'(by simp at hi; omega) ∈ inputs := List.getElem_mem _
  obtain ⟨hsound, hone⟩ := (hall _ hmem).compare ((inputLevels frame)[i]'(by simp at hi ⊢; omega))
  have := hcount _ hmem
  exact ⟨hsound, by omega⟩

/-! ### The scanner (R144 to R148) -/

/-- The scanner's counts and its fault, before the known condition is latched. -/
structure Scanner.Counted (sc : Scanner) : Prop where
  length : sc.inputs.length = Config.contactInputs
  inputs : ∀ c ∈ sc.inputs, c.Sound
  fault : sc.fault = true ↔ sc.badScans = 3
  badScans : sc.badScans ≤ 3
  recovery : sc.recovery ≤ 2
  calm : sc.fault = false → sc.recovery = 0 ∧ ∀ c ∈ sc.inputs, c.agreement ≤ 2
  faulty : sc.fault = true → ∀ c ∈ sc.inputs, c.agreement ≤ sc.recovery

theorem Scanner.Sound.counted {sc : Scanner} (h : sc.Sound) : sc.Counted :=
  ⟨h.1, h.2.1, h.2.2.1, h.2.2.2.1, h.2.2.2.2.1, h.2.2.2.2.2.1, h.2.2.2.2.2.2.1⟩

/-- The known condition latched makes the scanner sound (R148). -/
theorem Scanner.Counted.sound_latchKnown {sc : Scanner} (h : sc.Counted) : sc.latchKnown.Sound := by
  refine ⟨h.length, h.inputs, h.fault, h.badScans, h.recovery, h.calm, h.faulty, fun hf => ?_, fun hall => ?_⟩
  · simp only [Scanner.latchKnown] at hf ⊢
    simp [hf]
  · simp only [Scanner.latchKnown] at hall ⊢
    simpa using .inr hall

theorem Scanner.Counted.debounce {sc : Scanner} (h : sc.Counted) (hf : sc.fault = false) (frame : BitVec 24) :
    (sc.debounce frame).Counted := by
  obtain ⟨hrec, hcount⟩ := h.calm hf
  obtain ⟨hlen, hall⟩ := compareAll_sound frame h.length h.inputs hcount
  refine ⟨by simpa [Scanner.debounce] using hlen, ?_, by simp [Scanner.debounce, hf], Nat.zero_le _, h.recovery,
    fun _ => ⟨hrec, ?_⟩, fun ht => by simp [Scanner.debounce, hf] at ht⟩
  all_goals
    intro c hc
    obtain ⟨e, he, rfl⟩ := List.mem_map.mp hc
  · exact (hall e he).1.adopt.1
  · exact (hall e he).1.adopt.2

theorem Scanner.Counted.countBad {sc : Scanner} (h : sc.Counted) (hf : sc.fault = false) : sc.countBad.Counted := by
  have hbad := h.badScans
  have hne : sc.badScans ≠ 3 := fun h3 => by simp [h.fault.mpr h3] at hf
  have hzero : ∀ c ∈ sc.inputs.map ContactInput.drop, c.Sound ∧ c.agreement = 0 := by
    intro c hc
    obtain ⟨e, -, rfl⟩ := List.mem_map.mp hc
    exact e.sound_drop
  unfold Scanner.countBad
  dsimp only
  split
  · exact ⟨by simpa using h.length, fun c hc => (hzero c hc).1, by simp, le_rfl, Nat.zero_le _, by simp,
      fun _ c hc => (hzero c hc).2.le⟩
  · refine ⟨by simpa using h.length, fun c hc => (hzero c hc).1, ?_, by dsimp only; omega, h.recovery,
      fun _ => ⟨(h.calm hf).1, fun c hc => by simp [(hzero c hc).2]⟩, fun ht => by simp [hf] at ht⟩
    simp only [hf, Bool.false_eq_true, false_iff]
    omega

theorem Scanner.Counted.recover {sc : Scanner} (h : sc.Counted) (hf : sc.fault = true) (frame : BitVec 24) :
    (sc.recover frame).Counted := by
  obtain ⟨hlen, hall⟩ := compareAll_sound frame h.length h.inputs (h.faulty hf)
  unfold Scanner.recover
  dsimp only
  split
  · refine ⟨by simpa using hlen, ?_, by simp, Nat.zero_le _, Nat.zero_le _, fun _ => ⟨rfl, ?_⟩, by simp⟩
    all_goals
      intro c hc
      obtain ⟨e, he, rfl⟩ := List.mem_map.mp hc
    · exact (hall e he).1.adopt.1
    · exact (hall e he).1.adopt.2
  · exact ⟨hlen, fun c hc => (hall c hc).1, h.fault, h.badScans, by dsimp only; omega, fun hn => by simp [hf] at hn,
      fun _ c hc => (hall c hc).2⟩

theorem Scanner.Counted.breakRecovery {sc : Scanner} (h : sc.Counted) (hf : sc.fault = true) : sc.breakRecovery.Counted := by
  have hzero : ∀ c ∈ sc.inputs.map ContactInput.drop, c.Sound ∧ c.agreement = 0 := by
    intro c hc
    obtain ⟨e, -, rfl⟩ := List.mem_map.mp hc
    exact e.sound_drop
  exact ⟨by simpa [Scanner.breakRecovery] using h.length, fun c hc => (hzero c hc).1, h.fault, h.badScans, Nat.zero_le _,
    fun hn => by simp [Scanner.breakRecovery, hf] at hn, fun _ c hc => (hzero c hc).2.le⟩

/-- A scan completion keeps the scanner sound (R141, R143 to R148). -/
theorem Scanner.Sound.complete {sc : Scanner} (h : sc.Sound) (frame : BitVec 24) : (sc.complete frame).Sound := by
  have hbegun : { sc with scanning := false }.Counted := ⟨h.counted.1, h.counted.2, h.counted.3, h.counted.4, h.counted.5,
    h.counted.6, h.counted.7⟩
  unfold Scanner.complete
  refine Scanner.Counted.sound_latchKnown ?_
  split
  · next hf _ => exact hbegun.debounce hf frame
  · next hf _ => exact hbegun.countBad hf
  · next hf _ => exact hbegun.recover hf frame
  · next hf _ => exact hbegun.breakRecovery hf

theorem Scanner.Sound.beginScan {sc : Scanner} (h : sc.Sound) : sc.beginScan.Sound := h

/-- The known condition, once held, stands (R148). -/
theorem Scanner.known_complete {sc : Scanner} (h : sc.known = true) (frame : BitVec 24) : (sc.complete frame).known = true := by
  have hkept : ∀ x : Scanner, x.known = true → x.latchKnown.known = true := by
    intro x hx
    simp [Scanner.latchKnown, hx]
  unfold Scanner.complete
  refine hkept _ ?_
  split
  · exact h
  · unfold Scanner.countBad
    dsimp only
    split <;> exact h
  · unfold Scanner.recover
    dsimp only
    split <;> exact h
  · exact h

end Sys2Proof.Machine
end

section
/-! PROOFS. The Line Unit's own events keep it sound: bytes heard, the line idle, a transmission begun, completed or aborted, and
its timers. -/

namespace Sys2Proof.Machine

/-- The Line Unit and its receiver, both sound (03, section 3.2). -/
def LineUnit.Fit (l : LineUnit) : Prop := l.Sound ∧ l.ReceiverSound

theorem LineUnit.Served.fit {now : Stamp} {l m : LineUnit} (h : l.Served now m) (hl : l.Fit) : m.Fit :=
  ⟨h.sound hl.1, h.receiverSound hl.2⟩

section
variable {l : LineUnit}

/-- Sound but for its waits, judged afresh, and with its receiver sound. -/
theorem LineUnit.Composed.fit_rejudge (h : l.Composed) (hr : l.ReceiverSound) (now : Stamp) : (l.rejudge now).Fit :=
  ⟨h.sound_rejudge now, hr⟩

/-- Queue, transmission and deferred request the same, the Line Unit is as sound. -/
theorem LineUnit.Composed.congr (h : l.Composed) {m : LineUnit} (hq : m.queue = l.queue) (hs : m.sending = l.sending)
    (hd : m.deferred = l.deferred) (he : m.errors ≤ 255) : m.Composed := by
  have ht : m.inTransit = l.inTransit := by unfold LineUnit.inTransit; rw [hq, hs]
  have hw : m.waitingEntries = l.waitingEntries := by unfold LineUnit.waitingEntries; rw [hq, hs]
  exact ⟨by rw [ht, hw, hd]; exact h.parts, he, by rw [hq, hs]; exact h.nonempty⟩

/-! ### Bytes heard (R50) -/

/-- A receiver in SKIP stays there with nothing stored. -/
theorem receiveBytes_of_skip (bytes : List RxByte) : (receiveBytes .skip [] bytes).receiver = .skip
    ∧ (receiveBytes .skip [] bytes).buf = [] := by
  induction bytes with
  | nil => exact ⟨rfl, rfl⟩
  | cons b bs ih => exact ih

/-- One byte leaves a receiver that holds bytes exactly in ASSEMBLE. -/
theorem receiveByte_assembles (receiver : Receiver) (buf : List Byte) (b : RxByte) :
    (receiveByte receiver buf b).receiver = .assemble ↔ (receiveByte receiver buf b).buf ≠ [] := by
  unfold receiveByte store
  cases receiver with
  | skip => simp
  | ready =>
    dsimp only
    split
    · simp
    · split <;> simp
  | assemble =>
    dsimp only
    split
    · simp
    · split <;> simp

/-- A run of bytes leaves such a receiver too. -/
theorem receiveBytes_assembles {receiver : Receiver} {buf : List Byte} (h : receiver = .assemble ↔ buf ≠ [])
    (bytes : List RxByte) :
    (receiveBytes receiver buf bytes).receiver = .assemble ↔ (receiveBytes receiver buf bytes).buf ≠ [] := by
  induction bytes generalizing receiver buf with
  | nil => exact h
  | cons b bs ih =>
    have hone := receiveByte_assembles receiver buf b
    unfold receiveBytes
    dsimp only
    split
    · exact ih hone
    · exact hone

/-- A sending station's receiver stands in SKIP with nothing stored. -/
theorem LineUnit.ReceiverSound.rxBuf_of_sending (h : l.ReceiverSound) (hs : l.sending = true) : l.rxBuf = [] := by
  by_contra hne
  have hskip := h.2.2.1 hs
  rw [h.1.mpr hne] at hskip
  cases hskip

/-- Bytes heard on the line. -/
theorem LineUnit.Fit.hear (h : l.Fit) (now : Stamp) (bytes : List RxByte) (startBit : Bool) (quiet : Nat) :
    ((l.withReception (receiveBytes l.receiver l.rxBuf bytes) (!bytes.isEmpty) startBit).busy now quiet).Fit := by
  obtain ⟨hsound, hrec⟩ := h
  have hc := hsound.composed
  refine LineUnit.Composed.fit_rejudge ?_ ?_ now
  · exact hc.congr rfl rfl rfl hc.errors
  refine ⟨receiveBytes_assembles hrec.1 bytes, fun _ => rfl, fun hs => ?_, fun hin => ?_⟩
  · have hs' : l.sending = true := hs
    show (receiveBytes l.receiver l.rxBuf bytes).receiver = .skip
    rw [hrec.2.2.1 hs', hrec.rxBuf_of_sending hs']
    exact (receiveBytes_of_skip bytes).1
  · have hin' : ((startBit || (l.inByte && !!bytes.isEmpty))
        && (receiveBytes l.receiver l.rxBuf bytes).receiver ≠ .skip) = true := hin
    simpa using (Bool.and_eq_true_iff.mp hin').2

/-! ### The line idle, errors and timers (R44, R54, R66, R68, R70) -/

theorem LineUnit.Fit.becomeIdle (h : l.Fit) (now : Stamp) : (l.becomeIdle now).Fit := by
  obtain ⟨hsound, hrec⟩ := h
  have hc := hsound.composed
  refine LineUnit.Composed.fit_rejudge ?_ ?_ now
  · exact hc.congr rfl rfl rfl hc.errors
  cases hs : l.sending
  · simp [LineUnit.ReceiverSound]
  · have hskip := hrec.2.2.1 hs
    simp [LineUnit.ReceiverSound, hskip]

theorem LineUnit.Fit.countError (h : l.Fit) : l.countError.Fit := by
  obtain ⟨hsound, hrec⟩ := h
  obtain ⟨hc, hw⟩ := (LineUnit.sound_iff l).mp hsound
  exact ⟨(LineUnit.sound_iff _).mpr ⟨⟨hc.parts, Nat.min_le_left .., hc.nonempty⟩, hw⟩, hrec⟩

theorem LineUnit.Fit.clearErrors (h : l.Fit) : { l with errors := 0 }.Fit := by
  obtain ⟨hsound, hrec⟩ := h
  obtain ⟨hc, hw⟩ := (LineUnit.sound_iff l).mp hsound
  exact ⟨(LineUnit.sound_iff _).mpr ⟨⟨hc.parts, Nat.zero_le _, hc.nonempty⟩, hw⟩, hrec⟩

theorem LineUnit.Fit.becomeStuck (h : l.Fit) (now : Stamp) : ({ l with stuck := true }.rejudge now).Fit := by
  refine LineUnit.Composed.fit_rejudge ?_ ?_ now
  · exact h.1.composed.congr rfl rfl rfl h.1.composed.errors
  · exact h.2

theorem LineUnit.Fit.setMute (h : l.Fit) (now : Stamp) (mute : Option MuteTimer) : ({ l with mute := mute }.rejudge now).Fit := by
  refine LineUnit.Composed.fit_rejudge ?_ ?_ now
  · exact h.1.composed.congr rfl rfl rfl h.1.composed.errors
  · exact h.2

theorem LineUnit.Fit.beat (h : l.Fit) (now : Stamp) : (l.beat now).Fit := by
  have hc := h.1.composed
  refine ⟨LineUnit.Composed.sound_routine (l := { l with heartbeat := none }) ⟨hc.parts, hc.errors, hc.nonempty⟩ now, ?_⟩
  rw [LineUnit.beat, LineUnit.queueOnly_routine { l with heartbeat := none } now]
  exact h.2

theorem LineUnit.Fit.tick (h : l.Fit) : l.tick.Fit := by
  obtain ⟨hsound, hrec⟩ := h
  obtain ⟨hc, hw⟩ := (LineUnit.sound_iff l).mp hsound
  refine ⟨(LineUnit.sound_iff _).mpr ⟨hc.congr rfl rfl rfl hc.errors, ?_, hw.2⟩, hrec⟩
  show (l.idleCount.map (· + 1)).isSome ↔ _
  rw [Option.isSome_map]
  exact hw.1

/-! ### A transmission (R59, R62 to R64) -/

/-- Nothing is in transmission and no request deferred while the station does not send. -/
theorem LineUnit.Composed.deferred_of_idle (h : l.Composed) (hs : l.sending = false) : l.deferred = none := by
  by_contra hne
  obtain ⟨e, he, -⟩ := h.parts.deferred (Option.isSome_iff_ne_none.mpr hne)
  rw [LineUnit.inTransit_of_idle hs] at he
  cases he

theorem LineUnit.Fit.begin (h : l.Fit) (now : Stamp) (bytes : List Byte) (hs : l.sending = false) (hq : l.queue ≠ []) :
    (l.begin now bytes).Fit := by
  have hc := h.1.composed
  refine LineUnit.Composed.fit_rejudge ?_ ?_ now
  case refine_2 => exact ⟨by simp, fun _ => rfl, fun _ => rfl, fun hin => by cases hin⟩
  refine ⟨?_, hc.errors, fun _ => hq⟩
  obtain ⟨hone, hcoll, hunmarked, -, -⟩ := hc.parts
  rw [LineUnit.inTransit_of_idle hs, LineUnit.waitingEntries_of_idle hs] at *
  refine ⟨?_, ?_, fun e he => hunmarked e (List.mem_of_mem_drop he), fun e he hm => ?_, fun hd => ?_⟩
  · rw [LineUnit.inTransit_append_waitingEntries]
    exact hone
  · rw [LineUnit.inTransit_append_waitingEntries]
    exact hcoll
  · rw [hunmarked e (List.mem_of_mem_take he)] at hm
    cases hm
  · have hnone : l.deferred = none := hc.deferred_of_idle hs
    rw [show LineUnit.deferred _ = l.deferred from rfl, hnone] at hd
    cases hd

/-- Not sending, and sound but for a request still deferred (R59). -/
def LineUnit.Loose (l : LineUnit) : Prop := l.sending = false ∧ { l with deferred := none }.Fit

/-- An urgent notice, case by case (R57). -/
theorem LineUnit.urgent_of_state {now : Stamp} (h : l.inTransit.any TxEntry.isState = true) :
    l.urgent now = { l with queue := l.inTransit.map TxEntry.mark ++ l.waitingEntries }.rejudge now := by
  unfold LineUnit.urgent
  rw [if_pos h]

theorem LineUnit.urgent_of_no_state {now : Stamp} (h : ¬ l.inTransit.any TxEntry.isState = true) :
    l.urgent now = { l with queue := l.inTransit ++ urgentInto l.waitingEntries }.rejudge now := by
  unfold LineUnit.urgent
  rw [if_neg h]

/-- An urgent notice, a routine one and a cadence look at no deferred request. -/
theorem LineUnit.urgent_withDeferred (m : LineUnit) (now : Stamp) (d : Option RestartKind) :
    { m with deferred := d }.urgent now = { m.urgent now with deferred := d } := by
  by_cases h : m.inTransit.any TxEntry.isState = true
  · rw [LineUnit.urgent_of_state h, LineUnit.urgent_of_state (l := { m with deferred := d }) h]
    rfl
  · rw [LineUnit.urgent_of_no_state h, LineUnit.urgent_of_no_state (l := { m with deferred := d }) h]
    rfl

theorem LineUnit.beat_withDeferred (m : LineUnit) (now : Stamp) (d : Option RestartKind) :
    { m with deferred := d }.beat now = { m.beat now with deferred := d } := by
  unfold LineUnit.beat LineUnit.routine
  dsimp only
  split <;> rfl

theorem LineUnit.setCadence_withDeferred (m : LineUnit) (now : Stamp) (fast : Bool) (d : Option RestartKind) :
    { m with deferred := d }.setCadence now fast = { m.setCadence now fast with deferred := d } := by
  unfold LineUnit.setCadence
  by_cases hturn : (fast && !m.fast) = true
  · rw [if_pos hturn, if_pos hturn]
    dsimp only
    split
    · exact (congrArg (LineUnit.urgent · now) (LineUnit.beat_withDeferred { m with fast := true } now d)).trans
        (LineUnit.urgent_withDeferred ..)
    · exact LineUnit.urgent_withDeferred { m with fast := true } now d
  · rw [if_neg hturn, if_neg hturn]

/-- A request while the station does not send is never deferred. -/
theorem LineUnit.request_withDeferred {m : LineUnit} (hm : m.sending = false) (now : Stamp) (k : RestartKind)
    (d : Option RestartKind) : { m with deferred := d }.request now k = { m.request now k with deferred := d } := by
  unfold LineUnit.request
  rw [LineUnit.inTransit_of_idle hm, LineUnit.inTransit_of_idle (l := { m with deferred := d }) hm]
  rfl

/-- What the other blocks ask keeps it so: nothing is deferred while the station does not send. -/
theorem LineUnit.Served.loose {now : Stamp} {m : LineUnit} (h : l.Served now m) (hl : l.Loose) : m.Loose := by
  have hidle := hl.1
  have hserve : m.sending = l.sending ∧ { l with deferred := none }.Served now { m with deferred := none } := by
    induction h with
    | refl => exact ⟨rfl, .refl _⟩
    | @urgent m _ ih =>
      exact ⟨by rw [m.queueOnly_urgent now]; exact ih.1, m.urgent_withDeferred now none ▸ ih.2.urgent⟩
    | @request m k _ ih =>
      exact ⟨by rw [m.queueOnly_request now k]; exact ih.1,
        LineUnit.request_withDeferred (ih.1.trans hidle) now k none ▸ ih.2.request k⟩
    | @cadence m fast _ ih =>
      exact ⟨by rw [m.setCadence_eq now fast]; exact ih.1, m.setCadence_withDeferred now fast none ▸ ih.2.cadence fast⟩
  exact ⟨hserve.1.trans hidle, hserve.2.fit hl.2⟩

/-- The deferred request applied leaves the Line Unit sound (R59). -/
theorem LineUnit.Loose.applyDeferred (h : l.Loose) (now : Stamp) : (l.applyDeferred now).Fit := by
  unfold LineUnit.applyDeferred
  split
  · exact LineUnit.Served.fit (.request _ (.refl _)) h.2
  · next hnone =>
    have hsame : { l with deferred := none } = l := by rw [← hnone]
    exact hsame ▸ h.2

/-- The entry in transmission and those behind it, with what soundness says of them. -/
theorem LineUnit.Composed.of_sending (h : l.Composed) (hs : l.sending = true) {e : TxEntry} {rest : List TxEntry}
    (hq : l.queue = e :: rest) : QueueParts [e] rest l.deferred := by
  have hparts := h.parts
  simpa [LineUnit.inTransit, LineUnit.waitingEntries, hs, hq] using hparts

/-- A transmission ended, whichever way, with a queue of sound entries that all wait. -/
theorem LineUnit.Fit.endSending_loose (h : l.Fit) (now : Stamp) {q : List TxEntry} (congested : Bool)
    (heartbeat : Option Stamp) (quiet : Nat) (hq : QueueParts [] q none) :
    ({ l.endSending with queue := q, congested := congested, heartbeat := heartbeat, quietBits := quiet }.rejudge
      now).Loose := by
  refine ⟨rfl, LineUnit.Composed.fit_rejudge (l := { l.endSending with
    queue := q, congested := congested, heartbeat := heartbeat, quietBits := quiet, deferred := none })
    ⟨hq, h.1.composed.errors, fun hs => absurd hs Bool.false_ne_true⟩ ?_ now⟩
  exact ⟨h.2.1, h.2.2.1, fun hs => absurd hs Bool.false_ne_true, h.2.2.2.2⟩

theorem LineUnit.Fit.completed (h : l.Fit) (now : Stamp) (hs : l.sending = true) {e : TxEntry} {rest : List TxEntry}
    (hq : l.queue = e :: rest) : (l.completed now e rest).Loose := by
  have hparts := h.1.composed.of_sending hs hq
  obtain ⟨hone, hcoll, hunmarked, -, -⟩ := hparts
  have hrest : QueueParts [] rest none := ⟨hone.of_append_right, fun f hf => hcoll f (by simp at hf ⊢; exact .inr hf),
    hunmarked, by simp, by simp⟩
  refine h.endSending_loose now false _ l.quietBits ?_
  split
  · next hresend =>
    have hstate := (Bool.and_eq_true_iff.mp hresend).1
    refine hrest.replace ?_ (List.forall_mem_cons.mpr ⟨TxEntry.new_fresh _, fun f hf => hrest.good hf⟩)
    have hnew : (TxEntry.new (.state true)).isState = true := rfl
    simpa [OneOfEach, List.countP_cons, hstate, hnew] using hone
  · exact hrest

theorem LineUnit.Fit.aborted (h : l.Fit) (now : Stamp) (hs : l.sending = true) {e : TxEntry} {rest : List TxEntry}
    (hq : l.queue = e :: rest) (quiet : Nat) : ({ l with quietBits := quiet }.aborted now e rest).Loose := by
  obtain ⟨hone, hcoll, hunmarked, -, -⟩ := h.1.composed.of_sending hs hq
  refine h.endSending_loose now l.congested l.heartbeat quiet ⟨?_, ?_, ?_, by simp, by simp⟩
  · exact hone
  · refine List.forall_mem_cons.mpr ⟨Nat.min_le_left .., fun f hf => hcoll f ?_⟩
    exact List.mem_cons_of_mem _ hf
  · exact List.forall_mem_cons.mpr ⟨rfl, hunmarked⟩

/-- Congestion turning on is a flag and an urgent notice. -/
theorem LineUnit.Loose.congest (h : l.Loose) (now : Stamp) (n : Nat) : (l.congest now n).Loose := by
  unfold LineUnit.congest
  split
  · refine LineUnit.Served.loose (l := { l with congested := true }) (.urgent (.refl _)) ⟨h.1, ?_⟩
    exact h.2
  · exact h

/-- After a STATE nothing is deferred. -/
theorem LineUnit.Composed.deferred_of_state (h : l.Composed) (hs : l.sending = true) {e : TxEntry} {rest : List TxEntry}
    (hq : l.queue = e :: rest) (he : e.isState = true) : l.deferred = none := by
  by_contra hne
  obtain ⟨f, hf, hr⟩ := (h.of_sending hs hq).deferred (Option.isSome_iff_ne_none.mpr hne)
  obtain rfl := List.mem_singleton.mp hf
  rw [(f.restart?_eq_none_iff).mpr he] at hr
  cases hr

@[simp] theorem LineUnit.urgent_deferred (l : LineUnit) (now : Stamp) : (l.urgent now).deferred = l.deferred := by
  unfold LineUnit.urgent
  split <;> rfl

@[simp] theorem LineUnit.congest_deferred (l : LineUnit) (now : Stamp) (n : Nat) :
    (l.congest now n).deferred = l.deferred := by
  unfold LineUnit.congest
  split
  · rw [LineUnit.urgent_deferred]
  · rfl

theorem LineUnit.applyDeferred_of_none {l : LineUnit} (h : l.deferred = none) (now : Stamp) : l.applyDeferred now = l := by
  unfold LineUnit.applyDeferred
  rw [h]

theorem LineUnit.Fit.collide (h : l.Fit) (now : Stamp) (hs : l.sending = true) {e : TxEntry} {rest : List TxEntry}
    (hq : l.queue = e :: rest) : (l.collide now e rest).Fit := by
  unfold LineUnit.collide
  dsimp only
  have hloose := (h.aborted now hs hq (if l.drivesDominant then l.quietBits else 0)).congest now
    (min 255 (e.collisions + 1))
  split
  · next hstate =>
    have hnone : l.deferred = none := h.1.composed.deferred_of_state hs hq hstate
    rw [← LineUnit.applyDeferred_of_none (l := LineUnit.congest _ now _) (now := now)]
    · exact hloose.applyDeferred now
    · rw [LineUnit.congest_deferred]
      exact hnone
  · exact hloose.applyDeferred now

end

end Sys2Proof.Machine
end

section
/-! PROOFS. What every command but RESET does to the whole station: it completes with the waiting commands, straps and clock kept
and the latched flags standing, and keeps port, assessor, Line Unit, Peer Table and scanner sound. -/

namespace Sys2Proof.Machine

/-! ### The frame of a command -/

/-- What a command but RESET keeps, whatever state it meets. -/
structure State.Frame (s t : State) : Prop where
  pending : t.pending = s.pending
  straps : t.straps = s.straps
  clock : t.clock = s.clock
  bitPhase : t.bitPhase = s.bitPhase
  duplicate : s.duplicate = true → t.duplicate = true
  known : s.scanner.known = true → t.scanner.known = true
  failed : s.act.drv.FailedKept t.act.drv
  line : s.act.line.Fit → t.act.line.Fit
  port : s.port.Sound → t.port.Sound
  assessor : s.assessor.Sound → t.assessor.Sound
  peers : s.PeersSound → t.PeersSound
  scanner : s.scanner.Sound → t.scanner.Sound

/-- Outside ENERGIZING, with no step left over, the stage does not fall and ENERGIZING is not entered. -/
structure State.Passes (s t : State) : Prop extends State.Frame s t where
  grows : s.act.Quiescent → t.act.Quiescent ∧ s.act.seq.stage.code ≤ t.act.seq.stage.code

section
variable {s t u : State}

theorem State.Frame.refl (s : State) : s.Frame s := ⟨rfl, rfl, rfl, rfl, id, id, .refl _, id, id, id, id, id⟩

theorem State.Frame.trans (h : s.Frame t) (k : t.Frame u) : s.Frame u :=
  ⟨k.pending.trans h.pending, k.straps.trans h.straps, k.clock.trans h.clock, k.bitPhase.trans h.bitPhase,
    k.duplicate ∘ h.duplicate, k.known ∘ h.known, h.failed.trans k.failed, k.line ∘ h.line, k.port ∘ h.port,
    k.assessor ∘ h.assessor, k.peers ∘ h.peers, k.scanner ∘ h.scanner⟩

theorem State.Passes.refl (s : State) : s.Passes s := ⟨.refl s, fun h => ⟨h, le_rfl⟩⟩

theorem State.Passes.trans (h : s.Passes t) (k : t.Passes u) : s.Passes u where
  toFrame := h.toFrame.trans k.toFrame
  grows hq := by
    obtain ⟨hqt, hst⟩ := h.grows hq
    obtain ⟨hqu, htu⟩ := k.grows hqt
    exact ⟨hqu, hst.trans htu⟩

/-- The acting blocks replaced, their failed flags kept and the Line Unit sound. -/
theorem State.Frame.of_act (s : State) (a : Actors) (hfailed : s.act.drv.FailedKept a.drv)
    (hline : s.act.line.Fit → a.line.Fit) : s.Frame (s.withAct a) :=
  ⟨rfl, rfl, rfl, rfl, id, id, hfailed, hline, id, id, id, id⟩

theorem State.frame_acting_of_touch (s : State) (f : View → Actors → Actors) (h : s.act.Touch s.view (f s.view s.act)) :
    s.Frame (s.acting f) := .of_act s _ h.drv.failedKept fun hl => h.line.fit hl

theorem State.passes_acting (s : State) (f : View → Actors → Actors) (h : s.act.Reach s.view (f s.view s.act)) :
    s.Passes (s.acting f) := ⟨s.frame_acting_of_touch f h.toTouch, h.grows⟩

/-- The Line Unit alone replaced. -/
theorem State.passes_acting_line (s : State) (f : View → Actors → Actors) (l : LineUnit)
    (hf : f s.view s.act = s.act.withLine l) (hl : s.act.line.Fit → l.Fit) : s.Passes (s.acting f) := by
  have heq : s.acting f = s.withAct (s.act.withLine l) := congrArg s.withAct hf
  rw [heq]
  exact ⟨.of_act s _ (.refl _) hl, fun h => ⟨h, le_rfl⟩⟩

/-- The driver alone moved. -/
theorem State.passes_acting_drv (s : State) (f : View → Actors → Actors) (d : Driver)
    (hf : f s.view s.act = s.act.withDrv d) (hd : s.act.drv.Moves s.act.energizing d) : s.Passes (s.acting f) :=
  s.passes_acting f (by rw [hf]; exact .of_drv s.act s.view d hd)

/-! ### Events (R131) -/

theorem State.passes_endEvent (s old : State) : s.Passes (s.endEvent old) := by
  unfold State.endEvent
  split
  · exact s.passes_acting _ (s.act.reach_serve s.view)
  · exact .refl s

theorem State.frame_event {f : State → State} (h : s.Frame (f s)) : s.Frame (s.event f) :=
  h.trans (State.passes_endEvent _ s).toFrame

theorem State.passes_event {f : State → State} (h : s.Passes (f s)) : s.Passes (s.event f) :=
  h.trans (State.passes_endEvent _ s)

theorem State.passes_eventWhen {f : State → State} {occurs : Bool} (h : occurs = true → s.Passes (f s)) :
    s.Passes (s.eventWhen occurs f) := by
  cases occurs
  · exact .refl s
  · exact State.passes_event (h rfl)

theorem State.frame_eventWhen {f : State → State} {occurs : Bool} (h : s.Frame (f s)) : s.Frame (s.eventWhen occurs f) := by
  cases occurs
  · exact .refl s
  · exact State.frame_event h

/-! ### The sensing path -/

theorem Actors.grows_formTarget (a : Actors) (v : View) (h : a.Quiescent) :
    (a.formTarget v).Quiescent ∧ a.seq.stage.code ≤ (a.formTarget v).seq.stage.code :=
  (a.reach_formTarget v).grows h

theorem State.passes_acting_formTarget (s : State) : s.Passes (s.acting fun v a => a.formTarget v) where
  toFrame := .of_act s _ (s.act.reach_formTarget s.view).drv.failedKept
    fun h => (s.act.reach_formTarget s.view).line.fit h
  grows h := s.act.grows_formTarget s.view h

/-- The urgent notice of R42, what is judged afresh and the solo delay, on a new assessor (R42, R68, R98, R114). -/
def Actors.noteAssessor (a : Actors) (v : View) (old : Assessor) : Actors :=
  let b := (if old.reportable v.assessor then a.urgent v else a).judge v
  b.withSeq { b.seq with solo := v.assessor.onset.map fun o => later o soloDelay }

/-- The detector's leaving or entering CALM, as the coordinator takes it (R154, R165). -/
def Actors.followCalm (a : Actors) (v : View) (old : Assessor) : Actors :=
  if old.detector = .calm && v.assessor.detector ≠ .calm then a.onLeftCalm v
  else if old.detector ≠ .calm && v.assessor.detector = .calm then a.onEnteredCalm v
  else a

theorem Actors.afterAssessor_eq (a : Actors) (v : View) (old : Assessor) :
    a.afterAssessor v old = ((a.noteAssessor v old).followCalm v old).formTarget v := rfl

/-- The solo delay replaced first, the notice and the judging are calls like the others. -/
theorem Actors.reach_noteAssessor (a : Actors) (v : View) (old : Assessor) :
    (a.withSeq { a.seq with solo := v.assessor.onset.map fun o => later o soloDelay }).Reach v (a.noteAssessor v old) := by
  unfold Actors.noteAssessor
  split
  · exact ⟨⟨.cadence _ (.urgent (.refl _)), .refl _, id, rfl, rfl, rfl, rfl⟩, fun h => ⟨h, le_rfl⟩⟩
  · exact ⟨⟨.cadence _ (.refl _), .refl _, id, rfl, rfl, rfl, rfl⟩, fun h => ⟨h, le_rfl⟩⟩

theorem Actors.reach_followCalm (a : Actors) (v : View) (old : Assessor) : a.Reach v (a.followCalm v old) := by
  unfold Actors.followCalm
  split
  · exact a.reach_onLeftCalm v
  · split
    · exact a.reach_onEnteredCalm v
    · exact .refl v a

/-- The acting blocks told of a new assessor. -/
theorem State.passes_afterAssessor (s : State) (new : Assessor) (hnew : s.assessor.Sound → new.Sound) :
    s.Passes ({ s with assessor := new }.acting fun v a => a.afterAssessor v s.assessor) := by
  have hheed := (s.act.reach_noteAssessor { s with assessor := new }.view s.assessor).trans
    (Actors.reach_followCalm _ _ s.assessor)
  have hform := ((s.act.noteAssessor { s with assessor := new }.view s.assessor).followCalm
    { s with assessor := new }.view s.assessor).reach_formTarget { s with assessor := new }.view
  refine ⟨⟨rfl, rfl, rfl, rfl, id, id, hheed.drv.failedKept.trans hform.drv.failedKept,
    fun h => hform.line.fit (hheed.line.fit h), id, hnew, id, id⟩, fun h => ?_⟩
  obtain ⟨hq, hle⟩ := hheed.grows h
  obtain ⟨hq', hle'⟩ := hform.grows hq
  exact ⟨hq', hle.trans hle'⟩

theorem State.passes_deliver (s : State) (d : Delivery) : s.Passes (s.deliver d) :=
  s.passes_afterAssessor _ fun h => h.take _ d

theorem State.passes_fromPort (s : State) (r : Port × List Delivery) (hp : s.port.Sound → r.1.Sound) :
    s.Passes (s.fromPort r) := by
  have hport : s.Passes { s with port := r.1 } :=
    ⟨⟨rfl, rfl, rfl, rfl, id, id, .refl _, id, hp, id, id, id⟩, fun h => ⟨h, le_rfl⟩⟩
  refine hport.trans ?_
  unfold State.fromPort
  generalize { s with port := r.1 } = u
  induction r.2 generalizing u with
  | nil => exact .refl u
  | cons d ds ih => exact (u.passes_deliver d).trans (ih _)

/-! ### The Peer Table -/

/-- A record written is taken by the acting blocks (R86). -/
theorem State.passes_withRecord (s : State) (n : Nat) (r : PeerRecord) (hn : n ≠ s.straps.stn.toNat)
    (hr : s.PeersSound → r.Sound) : s.Passes (s.withRecord n r) := by
  have hform := s.act.reach_formTarget { s with peers := s.peers.set n r }.view
  have hcompare := Actors.reach_compareBackoff (s.act.formTarget { s with peers := s.peers.set n r }.view)
    { s with peers := s.peers.set n r }.view
  refine ⟨⟨rfl, rfl, rfl, rfl, id, id, hform.drv.failedKept.trans hcompare.drv.failedKept,
    fun h => hcompare.line.fit (hform.line.fit h), id, id, fun h => h.set (hr h) hn, id⟩, fun h => ?_⟩
  obtain ⟨hq, hle⟩ := hform.grows h
  obtain ⟨hq', hle'⟩ := hcompare.grows hq
  exact ⟨hq', hle.trans hle'⟩

theorem State.passes_expirePeer (s : State) (peer : BitVec 5) (due : PeerRecord → Bool) (f : PeerRecord → PeerRecord)
    (hf : ∀ r : PeerRecord, r.Sound → due r = true → (f r).Sound) : s.Passes (s.expirePeer peer due f) := by
  unfold State.expirePeer State.peerRecord
  split
  · next r hr =>
    split at hr
    · cases hr
    · next hne =>
      split
      · next hdue =>
        refine s.passes_withRecord _ _ (fun h => hne (BitVec.eq_of_toNat_eq h)) fun hs => hf r ?_ hdue
        exact hs.2.1 r (List.mem_of_getElem? hr)
      · exact .refl s
  · exact .refl s

theorem State.passes_duplicated (s : State) : s.Passes s.duplicated := by
  unfold State.duplicated
  split
  · exact .refl s
  · have hflag : s.Passes { s with duplicate := true } :=
      ⟨⟨rfl, rfl, rfl, rfl, fun _ => rfl, id, .refl _, id, id, id, id, id⟩, fun h => ⟨h, le_rfl⟩⟩
    exact hflag.trans (State.passes_acting _ _ (Actors.reach_urgent _ _))

/-- Another sender than the own is another station number. -/
theorem State.sender_ne (s : State) {sender : Byte} (h : sender ≠ s.sender) : sender.toNat ≠ s.straps.stn.toNat := by
  intro heq
  refine h (BitVec.eq_of_toNat_eq ?_)
  rw [heq]
  have := s.straps.stn.isLt
  simp only [State.sender, BitVec.truncate_eq_setWidth, BitVec.toNat_setWidth]
  omega

theorem State.passes_takeState (s : State) (sender : Byte) (p : StatePayload) : s.Passes (s.takeState sender p) := by
  unfold State.takeState
  split
  · exact s.passes_duplicated
  · next hne =>
    refine s.passes_withRecord _ _ (s.sender_ne hne) fun hs => ?_
    obtain ⟨hsound, hlive⟩ := (hs.recordOf sender.toNat).hear s.clock p.group
    exact hsound.takeState hlive s.clock p

theorem State.passes_takeRestart (s : State) (k : RestartKind) (sender : Byte) (group : BitVec 2) :
    s.Passes (s.takeRestart k sender group) := by
  unfold State.takeRestart
  split
  · exact s.passes_duplicated
  · next hne =>
    have hrecord := s.passes_withRecord sender.toNat (((recordOf s.peers sender.toNat).hear s.clock group).takeRestart
      s.clock k) (s.sender_ne hne) fun hs => by
        obtain ⟨hsound, hlive⟩ := (hs.recordOf sender.toNat).hear s.clock group
        exact hsound.takeRestart hlive s.clock k
    dsimp only
    split
    · exact hrecord.trans (State.passes_acting _ _ (Actors.reach_onClaim _ _ _))
    · exact hrecord

/-! ### Directives -/

theorem State.passes_of_startup (s : State) (x : Startup) : s.Passes { s with startup := x } :=
  ⟨⟨rfl, rfl, rfl, rfl, id, id, .refl _, id, id, id, id, id⟩, fun h => ⟨h, le_rfl⟩⟩

theorem Actors.grows_tripTo (a : Actors) (v : View) (stage : Stage) :
    (a.withSeq { a.seq with floor := a.seq.floor.higher stage }).Reach v (a.tripTo v stage) :=
  (Actors.reach_compare _ v).trans (Actors.reach_onTrip _ v)

/-- The floor replaced first, a console TRIP is a call like the others. -/
theorem Actors.reach_consoleTrip (a : Actors) (v : View) (stage : Stage) :
    (a.withSeq { a.seq with floor := a.seq.floor.higher stage }).Reach v (a.consoleTrip v stage) := by
  unfold Actors.consoleTrip
  refine (a.grows_tripTo v stage).trans ?_
  dsimp only
  split
  · exact Actors.reach_endGrace _ v
  · exact .refl v _

theorem State.passes_consoleTrip (s : State) (stage : Stage) : s.Passes (s.acting fun v a => a.consoleTrip v stage) where
  toFrame := .of_act s _ (s.act.reach_consoleTrip s.view stage).drv.failedKept
    fun h => (s.act.reach_consoleTrip s.view stage).line.fit h
  grows h := (s.act.reach_consoleTrip s.view stage).grows h

theorem State.passes_muteFor (s : State) (n : Nat) : s.Passes (s.acting fun v a => a.muteFor v n) := by
  have hline : s.Passes (s.withAct (s.act.withLine ({ s.act.line with mute := some ⟨s.clock, n⟩ }.rejudge s.clock))) :=
    ⟨.of_act s _ (.refl _) fun h => h.setMute s.clock _, fun h => ⟨h, le_rfl⟩⟩
  have hcases : (s.acting fun v a => a.muteFor v n) =
        s.withAct (s.act.withLine ({ s.act.line with mute := some ⟨s.clock, n⟩ }.rejudge s.clock))
      ∨ (s.acting fun v a => a.muteFor v n) =
        (s.withAct (s.act.withLine ({ s.act.line with mute := some ⟨s.clock, n⟩ }.rejudge s.clock))).acting
          fun v a => a.onMute v := by
    unfold State.acting Actors.muteFor
    dsimp only
    split
    · exact .inr rfl
    · exact .inl rfl
  obtain h | h := hcases
  · exact h ▸ hline
  · exact h ▸ hline.trans (State.passes_acting _ _ (Actors.reach_onMute _ _))

theorem State.passes_endMute (s : State) : s.Passes (s.acting fun v a => a.endMute v) := by
  have hline : s.Passes (s.withAct (s.act.withLine ({ s.act.line with mute := none }.rejudge s.clock))) :=
    ⟨.of_act s _ (.refl _) fun h => h.setMute s.clock _, fun h => ⟨h, le_rfl⟩⟩
  exact hline.trans (State.passes_acting _ (fun v a => a.checkAuthority v) (Actors.reach_checkAuthority _ _))

theorem State.passes_applyDirective (s : State) (kind : DirectiveKind) (argument : Byte) :
    s.Passes (s.applyDirective kind argument) := by
  cases kind with
  | resume => exact s.passes_acting (fun v a => a.onResume v) (s.act.reach_onResume s.view)
  | hold => exact s.passes_acting (fun v a => a.onHold v) (s.act.reach_onHold s.view)
  | trip =>
    unfold State.applyDirective
    dsimp only
    split
    · exact s.passes_consoleTrip _
    · exact .refl s
  | mute => exact s.passes_muteFor _
  | unmute => exact s.passes_endMute
  | reseed => exact s.passes_afterAssessor _ fun h => h.enterCapture
  | test =>
    unfold State.applyDirective
    dsimp only
    split
    · exact s.passes_acting_drv _ _ rfl (Driver.moves_testLevel ..)
    · exact .refl s
  | ackReset => exact s.passes_of_startup _
  | clearCounts =>
    exact s.passes_acting_line (fun _ a => a.withLine { a.line with errors := 0 }) _ rfl fun h => h.clearErrors

theorem State.passes_recordDirective (s : State) (sender : Byte) (kind : DirectiveKind) (result : DirectiveResult) :
    s.Passes (s.recordDirective sender kind result) := by
  have hrecord : ∀ x : DirectiveRecord, s.Passes { s with directive := x } := fun x =>
    ⟨⟨rfl, rfl, rfl, rfl, id, id, .refl _, id, id, id, id, id⟩, fun h => ⟨h, le_rfl⟩⟩
  exact (hrecord _).trans (State.passes_acting _ _ (Actors.reach_urgent _ _))

theorem State.passes_takeDirective (s : State) (sender target : Byte) (kind : DirectiveKind) (argument : Byte) :
    s.Passes (s.takeDirective sender target kind argument) := by
  unfold State.takeDirective
  split
  · dsimp only
    refine State.Passes.trans ?_ (State.passes_recordDirective _ sender kind _)
    split
    · exact s.passes_applyDirective kind argument
    · exact .refl s
  · exact .refl s

/-! ### Bytes on the line -/

theorem State.passes_onVerdict (s : State) (v : Verdict) : s.Passes (s.onVerdict v) := by
  cases v with
  | pending => exact .refl s
  | discarded => exact s.passes_acting_line (fun _ a => a.withLine a.line.countError) _ rfl fun h => h.countError
  | valid t =>
    cases t with
    | state sender payload => exact s.passes_takeState sender payload
    | restart k sender group => exact s.passes_takeRestart k sender group
    | directive sender target kind argument => exact s.passes_takeDirective sender target kind argument

theorem State.passes_hearLine (s : State) (bytes : List RxByte) (startBit : Bool) : s.Passes (s.hearLine bytes startBit) := by
  unfold State.hearLine
  exact (s.passes_acting_line _ _ rfl fun h => h.hear ..).trans (State.passes_onVerdict _ _)

theorem State.passes_lineIdle (s : State) : s.Passes (s.acting fun v a => a.lineIdle v) := by
  have hline : s.Passes (s.withAct (s.act.withLine (s.act.line.becomeIdle s.clock))) :=
    ⟨.of_act s _ (.refl _) fun h => h.becomeIdle s.clock, fun h => ⟨h, le_rfl⟩⟩
  have hcases : (s.acting fun v a => a.lineIdle v) = s.withAct (s.act.withLine (s.act.line.becomeIdle s.clock))
      ∨ (s.acting fun v a => a.lineIdle v) =
        (s.withAct (s.act.withLine (s.act.line.becomeIdle s.clock))).acting fun v a => a.checkAuthority v := by
    unfold State.acting Actors.lineIdle
    dsimp only
    split
    · exact .inr rfl
    · exact .inl rfl
  obtain h | h := hcases
  · exact h ▸ hline
  · exact h ▸ hline.trans (State.passes_acting _ _ (Actors.reach_checkAuthority _ _))

theorem State.passes_torn (s : State) : s.Passes (s.acting fun v a => (a.withLine a.line.countError).lineIdle v) :=
  State.Passes.trans (t := s.withAct (s.act.withLine s.act.line.countError))
    ⟨.of_act s _ (.refl _) fun h => h.countError, fun h => ⟨h, le_rfl⟩⟩ (State.passes_lineIdle _)

/-! ### Transmission -/

/-- The head of a queue whose wait is over: nothing is being sent. -/
theorem LineUnit.startDue_eq_some {l : LineUnit} {station : Nat} {head : TxEntry} (h : l.startDue station = some head) :
    l.sending = false ∧ ∃ rest n, l.queue = head :: rest ∧ l.idleCount = some n ∧ head.accessWait station ≤ n := by
  unfold LineUnit.startDue at h
  split at h
  · next e rest idle hq hi =>
    split at h
    · next hdue =>
      cases h
      simp only [LineUnit.waiting, Bool.and_eq_true, Bool.not_eq_true', decide_eq_true_eq] at hdue
      exact ⟨hdue.1.1, rest, idle, hq, hi, hdue.2⟩
    · cases h
  · cases h

theorem State.passes_beginHead (s : State) : s.Passes s.beginHead := by
  unfold State.beginHead
  split
  · next head hdue =>
    obtain ⟨hs, rest, n, hq, -, -⟩ := LineUnit.startDue_eq_some hdue
    exact s.passes_acting_line _ _ rfl fun h => h.begin _ _ hs (by simp [hq])
  · exact .refl s

theorem LineUnit.sent?_eq_some {l : LineUnit} {e : TxEntry} {rest : List TxEntry} (h : l.sent? = some (e, rest)) :
    l.sending = true ∧ l.queue = e :: rest := by
  unfold LineUnit.sent? at h
  split at h
  · next hs hq =>
    cases h
    exact ⟨hs, hq⟩
  · cases h

theorem State.passes_collideHead (s : State) : s.Passes s.collideHead := by
  unfold State.collideHead
  split
  · next e rest hsent =>
    obtain ⟨hs, hq⟩ := LineUnit.sent?_eq_some hsent
    split
    · exact .refl s
    · exact s.passes_acting_line _ _ rfl fun h => h.collide _ hs hq
  · exact .refl s

/-- A completed transmission, the deferred request applied after the coordinator has been told (R59, R64). -/
theorem State.passes_complete (s : State) {sent : TxEntry} {rest : List TxEntry} (hs : s.act.line.sending = true)
    (hq : s.act.line.queue = sent :: rest) : s.Passes (s.acting fun v a => a.complete v sent rest) := by
  have hloose : s.act.line.Fit → (s.act.line.completed s.clock sent rest).Loose := fun h => h.completed s.clock hs hq
  unfold State.acting Actors.complete
  dsimp only
  split
  · next k hk =>
    have hsent := (s.act.withLine (s.act.line.completed s.clock sent rest)).reach_onSent s.view k
    exact ⟨.of_act s _ hsent.drv.failedKept fun h => (hsent.line.loose (hloose h)).applyDeferred _, hsent.grows⟩
  · next hnone =>
    refine ⟨.of_act s _ (.refl _) fun h => ?_, fun h => ⟨h, le_rfl⟩⟩
    have hdeferred := h.1.composed.deferred_of_state hs hq ((sent.restart?_eq_none_iff).mp hnone)
    have hfit := (hloose h).applyDeferred s.clock
    rwa [LineUnit.applyDeferred_of_none (show (s.act.line.completed s.clock sent rest).deferred = none from hdeferred)]
      at hfit

theorem State.passes_completeHead (s : State) : s.Passes s.completeHead := by
  unfold State.completeHead
  split
  · next e rest hsent =>
    obtain ⟨hs, hq⟩ := LineUnit.sent?_eq_some hsent
    split
    · exact s.passes_complete hs hq
    · exact .refl s
  · exact .refl s

/-! ### Stages, scan and start-up -/

theorem State.frame_standDown (s : State) : s.Frame (s.acting fun v a => a.standDown v) := by
  have hset := s.act.touch_setStage s.view .watch
  have hdrv := (hset.trans (Actors.reach_released _ s.view .advise .lift).toTouch)
  exact .of_act s _ hdrv.drv.failedKept fun h => LineUnit.Served.fit (.urgent hdrv.line) h

theorem State.frame_enterEnergizing (s : State) : s.Frame (s.acting fun v a => a.endContest v) := by
  have hset := (s.act.withCoord { s.act.coord with contest := none }).touch_setPhase s.view .energizing
  have hrun := Actors.touch_runSteps
    (((s.act.withCoord { s.act.coord with contest := none }).setPhase s.view .energizing).withSeq
      { ((s.act.withCoord { s.act.coord with contest := none }).setPhase s.view .energizing).seq with floor := .watch })
    s.view 4
  exact .of_act s _ (hset.drv.failedKept.trans hrun.drv.failedKept) fun h => hrun.line.fit (hset.line.fit h)

/-- The inputs' changes handed on (R147, R149). -/
theorem Actors.grows_onInput (a : Actors) (v : View) (i : Nat) : a.drv.Moves true (a.onInput v i).drv
    ∧ a.line.Served v.now (a.onInput v i).line
    ∧ (a.Quiescent → (a.onInput v i).Quiescent ∧ a.seq.stage.code ≤ (a.onInput v i).seq.stage.code) := by
  have hreach : ∀ b : Actors, a.Reach v b → a.drv.Moves true b.drv ∧ a.line.Served v.now b.line
      ∧ (a.Quiescent → b.Quiescent ∧ a.seq.stage.code ≤ b.seq.stage.code) := fun b h => ⟨h.drv, h.line, h.grows⟩
  unfold Actors.onInput
  split
  · exact hreach _ (a.reach_operate v _ (Driver.moves_pduInput ..))
  · exact hreach _ (a.reach_operate v _ (Driver.moves_pduInput ..))
  · exact hreach _ (a.reach_operate v _ (Driver.moves_holdInput ..))
  · exact hreach _ (a.reach_operate v _ (Driver.moves_holdInput ..))
  · split
    · exact hreach _ (a.reach_endGrace v)
    · exact hreach _ (.refl v a)
  · split
    · have htrip := a.grows_tripTo v .isolate
      exact ⟨htrip.drv, htrip.line, htrip.grows⟩
    · exact hreach _ (.refl v a)
  · exact hreach _ (a.reach_onKey v _)
  · exact hreach _ (a.reach_compareBackoff v)
  · exact hreach _ (.refl v a)

theorem Actors.reach_faultBegins (a : Actors) (v : View) : a.Reach v (a.faultBegins v) :=
  ((a.reach_operate v _ (Driver.moves_faultBegins _)).trans (Actors.reach_onFault _ v)).trans (Actors.reach_urgent _ v)

theorem Actors.reach_faultEnds (a : Actors) (v : View) : a.Reach v (a.faultEnds v) :=
  (a.reach_operate v _ (Driver.moves_faultEnds ..)).trans (Actors.reach_checkAuthority _ v)

theorem State.passes_scanned (s : State) (sc : Scanner) (hknown : s.scanner.known = true → sc.known = true)
    (hsc : s.scanner.Sound → sc.Sound) :
    s.Passes ({ s with scanner := sc }.acting fun v a => a.afterScan v s.scanner) := by
  have hscan : s.Passes { s with scanner := sc } :=
    ⟨⟨rfl, rfl, rfl, rfl, id, hknown, .refl _, id, id, id, id, hsc⟩, fun h => ⟨h, le_rfl⟩⟩
  have hinputs : ∀ (u : State) (is : List Nat), u.Passes (u.acting fun v a => is.foldl (fun a i => a.onInput v i) a) := by
    intro u is
    unfold State.acting
    suffices h : u.act.drv.FailedKept (is.foldl (fun a i => a.onInput u.view i) u.act).drv
        ∧ (u.act.line.Fit → (is.foldl (fun a i => a.onInput u.view i) u.act).line.Fit)
        ∧ (u.act.Quiescent → (is.foldl (fun a i => a.onInput u.view i) u.act).Quiescent
          ∧ u.act.seq.stage.code ≤ (is.foldl (fun a i => a.onInput u.view i) u.act).seq.stage.code) from
      ⟨.of_act u _ h.1 h.2.1, h.2.2⟩
    generalize u.act = a
    induction is generalizing a with
    | nil => exact ⟨.refl _, id, fun h => ⟨h, le_rfl⟩⟩
    | cons i is ih =>
      obtain ⟨hdrv, hline, hgrows⟩ := a.grows_onInput u.view i
      obtain ⟨hdrv', hline', hgrows'⟩ := ih (a.onInput u.view i)
      refine ⟨hdrv.failedKept.trans hdrv', fun h => hline' (hline.fit h), fun h => ?_⟩
      obtain ⟨hq, hle⟩ := hgrows h
      obtain ⟨hq', hle'⟩ := hgrows' hq
      exact ⟨hq', hle.trans hle'⟩
  refine hscan.trans ?_
  have hfault : { s with scanner := sc }.Passes ({ s with scanner := sc }.acting fun v a =>
      if !s.scanner.fault && v.scanner.fault then a.faultBegins v
      else if s.scanner.fault && !v.scanner.fault then a.faultEnds v
      else a) := by
    refine State.passes_acting _ _ ?_
    split
    · exact Actors.reach_faultBegins _ _
    · split
      · exact Actors.reach_faultEnds _ _
      · exact .refl _ _
  exact hfault.trans (hinputs _ (changedInputs s.scanner sc))

/-! ### Adoption (R139, R183) -/

theorem Driver.failedKept_adoptTrip (d : Driver) (sc : Scanner) (p : Pdu) : d.FailedKept (d.adoptTrip sc p).1 := by
  unfold Driver.adoptTrip
  split
  · exact d.failedKept_setPulse _ _ (by simp)
  · exact .refl d

theorem Driver.failedKept_adoptStage (d : Driver) (sc : Scanner) (now : Stamp) (stage : Stage) :
    d.FailedKept (d.adoptStage sc now stage).1 := by
  cases stage with
  | watch => exact .refl d
  | alert => exact ((d.moves_assertLevel (energizing := true) .advise).trans (Driver.moves_assertLevel _ .lift)).failedKept
  | quiesce => exact ((d.moves_assertLevel (energizing := true) .freeze).trans (Driver.moves_assertLevel _ .haltreq)).failedKept
  | isolate => exact (d.failedKept_adoptTrip sc .a).trans (Driver.failedKept_adoptTrip _ sc .b)
  | safe =>
    exact ((d.moves_adoptHold (energizing := true) sc now .valve).trans (Driver.moves_adoptHold _ sc now .coolstop)).failedKept

/-- A driver operation that keeps the failed flags, with its notices. -/
theorem Actors.drive_kept (a : Actors) (v : View) (f : Driver → Driven) (hf : a.drv.FailedKept (f a.drv).1) :
    a.drv.FailedKept (a.drive v f).drv ∧ a.line.Served v.now (a.drive v f).line := by
  have hns : ∀ (ns : List Notice) (b : Actors), b.Reach v (ns.foldl (fun a n => a.hear v n) b) := by
    intro ns
    induction ns with
    | nil => exact fun b => .refl v b
    | cons n ns ih => exact fun b => (b.reach_hear v n).trans (ih _)
  have h := hns (f a.drv).2 (a.withDrv (f a.drv).1)
  exact ⟨hf.trans h.drv.failedKept, h.line⟩

theorem Actors.adoptStages_kept (v : View) (stages : List Stage) (a : Actors) :
    a.drv.FailedKept (stages.foldl (fun a st => a.drive v fun d => d.adoptStage v.scanner v.now st) a).drv
      ∧ a.line.Served v.now (stages.foldl (fun a st => a.drive v fun d => d.adoptStage v.scanner v.now st) a).line := by
  induction stages generalizing a with
  | nil => exact ⟨.refl _, .refl _⟩
  | cons st stages ih =>
    obtain ⟨hdrv, hline⟩ := a.drive_kept v (fun d => d.adoptStage v.scanner v.now st) (Driver.failedKept_adoptStage ..)
    obtain ⟨hdrv', hline'⟩ := ih (a.drive v fun d => d.adoptStage v.scanner v.now st)
    exact ⟨hdrv.trans hdrv', hline.trans hline'⟩

/-- The channels of the adopted stages, in restart (R139). -/
def Actors.adoptChannels (a : Actors) (v : View) (stage : Stage) : Actors :=
  if 2 ≤ stage.code then (stagesTo stage).foldl (fun a st => a.drive v fun d => d.adoptStage v.scanner v.now st) a else a

/-- The phase of the adopted stage (R183). -/
def Actors.adoptPhase (a : Actors) (v : View) (stage : Stage) : Actors :=
  if 2 ≤ stage.code then a.enterQuietWait v else a.setPhase v .none

/-- The adopted stage taken, the rejoin hold gone (R118). -/
def Actors.takeStage (a : Actors) (v : View) (stage : Stage) : Actors :=
  (a.withSeq { a.seq with
    rejoinHold := false, grace := if 3 ≤ stage.code then .ended else .none, safeWait := false }).setStage v stage

/-- A stage other than WATCH is told (R118). -/
def Actors.tellStage (a : Actors) (v : View) (stage : Stage) : Actors := if stage = .watch then a else a.urgent v

/-- A trip floor of SAFE cuts the grace (R118). -/
def Actors.cutByFloor (a : Actors) (v : View) : Actors := if a.seq.floor = .safe then a.endGrace v else a

theorem Actors.adoptStage_eq (a : Actors) (v : View) (stage : Stage) :
    a.adoptStage v stage = (((a.takeStage v stage).tellStage v stage).compare v).cutByFloor v := rfl

theorem Actors.adopt_eq (a : Actors) (v : View) (stage : Stage) :
    a.adopt v stage = ((a.adoptChannels v stage).adoptPhase v stage).adoptStage v stage := rfl

theorem Actors.reach_tellStage (a : Actors) (v : View) (stage : Stage) : a.Reach v (a.tellStage v stage) := by
  unfold Actors.tellStage
  split
  · exact .refl v a
  · exact a.reach_urgent v

theorem Actors.reach_cutByFloor (a : Actors) (v : View) : a.Reach v (a.cutByFloor v) := by
  unfold Actors.cutByFloor
  split
  · exact a.reach_endGrace v
  · exact .refl v a

/-- The rejoin hold gone first, taking the stage keeps driver and Line Unit in their frame. -/
theorem Actors.touch_takeStage (a : Actors) (v : View) (stage : Stage) :
    (a.withSeq { a.seq with rejoinHold := false }).Touch v (a.takeStage v stage) :=
  Actors.Touch.trans (b := a.withSeq { a.seq with
      rejoinHold := false, grace := if 3 ≤ stage.code then .ended else .none, safeWait := false })
    ⟨.refl _, .refl _, id, rfl, rfl, rfl, rfl⟩ (Actors.touch_setStage _ v stage)

theorem Actors.touch_adoptPhase (a : Actors) (v : View) (stage : Stage) : a.Touch v (a.adoptPhase v stage) := by
  unfold Actors.adoptPhase
  split
  · exact (a.reach_enterQuietWait v).toTouch
  · exact a.touch_setPhase v .none

theorem Actors.touch_adoptStage (a : Actors) (v : View) (stage : Stage) :
    (a.withSeq { a.seq with rejoinHold := false }).Touch v (a.adoptStage v stage) :=
  (((a.touch_takeStage v stage).trans (Actors.reach_tellStage _ v stage).toTouch).trans
    (Actors.reach_compare _ v).toTouch).trans (Actors.reach_cutByFloor _ v).toTouch

theorem Actors.adopt_kept (a : Actors) (v : View) (stage : Stage) :
    a.drv.FailedKept (a.adopt v stage).drv ∧ a.line.Served v.now (a.adopt v stage).line := by
  have hchannels : a.drv.FailedKept (a.adoptChannels v stage).drv ∧ a.line.Served v.now (a.adoptChannels v stage).line := by
    unfold Actors.adoptChannels
    split
    · exact Actors.adoptStages_kept v _ a
    · exact ⟨.refl _, .refl _⟩
  have hphase := (a.adoptChannels v stage).touch_adoptPhase v stage
  have hstage := ((a.adoptChannels v stage).adoptPhase v stage).touch_adoptStage v stage
  exact ⟨(hchannels.1.trans hphase.drv.failedKept).trans hstage.drv.failedKept,
    (hchannels.2.trans hphase.line).trans hstage.line⟩

theorem State.frame_adopt (s : State) : s.Frame s.adopt := by
  have hstart : s.Frame { s with startup := { s.startup with state := .running, window := none } } :=
    (s.passes_of_startup _).toFrame
  refine hstart.trans ?_
  obtain ⟨hdrv, hline⟩ := s.act.adopt_kept { s with startup := { s.startup with state := .running, window := none } }.view
    (adoptedStage { s with startup := { s.startup with state := .running, window := none } }.view)
  exact .of_act _ _ hdrv fun h => hline.fit h

theorem State.frame_completeScan (s : State) (frame : BitVec 24) : s.Frame (s.completeScan frame) := by
  have hscan := s.passes_scanned (s.scanner.complete frame) (fun h => Scanner.known_complete h frame) fun h => h.complete frame
  unfold State.completeScan
  dsimp only
  split
  · refine hscan.toFrame.trans ?_
    unfold State.onKnown
    split
    · exact State.frame_adopt _
    all_goals exact .refl _
  · exact hscan.toFrame

theorem State.frame_endRejoinWindow (s : State) : s.Frame s.endRejoinWindow := by
  unfold State.endRejoinWindow
  split
  · exact s.frame_adopt
  · exact (s.passes_of_startup _).toFrame

end

end Sys2Proof.Machine
end

section
/-! PROOFS. Every command completes within its frame; the statements about what every step keeps of port, assessor, Line Unit,
Peer Table and scanner; when the stage may fall; and the state after reset. -/

namespace Sys2Proof.Machine

/-! ### Every command completes -/

/-- Every command answers a next state. -/
theorem exec_completes (c : Instr) (s : State) : ∃ t, exec c s = .next t := by
  cases c <;> exact ⟨_, rfl⟩

/-- Every command but RESET stays within the frame. -/
theorem exec_frame {c : Instr} {s t : State} (hexec : exec c s = .next t) (hc : ∀ straps high, c ≠ .reset straps high) :
    s.Frame t := by
  have done : ∀ {u : State}, (.next u : Host.Outcome State Fault Refusal) = .next t → s.Frame u → s.Frame t :=
    fun h hf => Host.Outcome.next.inj h ▸ hf
  cases c with
  | reset straps high => exact absurd rfl (hc straps high)
  | frameEnd => exact done hexec (State.frame_event (s.passes_fromPort _ fun h => Port.sound_frameEnd h _ _).toFrame)
  | frameTimerExpiry => exact done hexec (State.frame_eventWhen (s.passes_fromPort _ fun h => Port.sound_timeout h).toFrame)
  | lineBusy | telegramDiscarded | stateTelegram | bidTelegram | claimTelegram | yieldTelegram | doneTelegram
  | resume | hold | trip | mute | unmute | reseed | test | ackReset | clearCounts =>
    exact done hexec (State.frame_event (s.passes_hearLine _ _).toFrame)
  | lineIdle => exact done hexec (State.frame_eventWhen s.passes_lineIdle.toFrame)
  | telegramTorn => exact done hexec (State.frame_eventWhen s.passes_torn.toFrame)
  | peerQuietExpiry peer =>
    exact done hexec (State.frame_event (s.passes_expirePeer peer _ _ fun r h hdue => h.toQuiet (by simp_all)).toFrame)
  | peerLostExpiry peer =>
    exact done hexec (State.frame_event (s.passes_expirePeer peer _ _ fun r h hdue => h.toLost (by simp_all)).toFrame)
  | bidPartExpiry peer =>
    exact done hexec (State.frame_event (s.passes_expirePeer peer _ _ fun r h hdue => h.dropBid).toFrame)
  | claimPartExpiry peer =>
    refine done hexec (State.frame_event (s.passes_expirePeer peer _ _ fun r h hdue => h.spendClaim ?_).toFrame)
    cases hclaim : r.claim <;> simp_all [ranFor]
  | transmissionStart => exact done hexec (State.frame_event s.passes_beginHead.toFrame)
  | collision => exact done hexec (State.frame_event s.passes_collideHead.toFrame)
  | transmissionComplete => exact done hexec (State.frame_event s.passes_completeHead.toFrame)
  | lineStuckExpiry =>
    exact done hexec (State.frame_eventWhen (s.passes_acting_line _ _ rfl fun h => h.becomeStuck _).toFrame)
  | heartbeatExpiry => exact done hexec (State.frame_eventWhen (s.passes_acting_line _ _ rfl fun h => h.beat _).toFrame)
  | muteExpiry => exact done hexec (State.frame_eventWhen s.passes_endMute.toFrame)
  | graceExpiry => exact done hexec (State.frame_eventWhen (s.passes_acting _ (Actors.reach_endGrace _ _)).toFrame)
  | soloDelayExpiry => exact done hexec (State.frame_eventWhen s.passes_acting_formTarget.toFrame)
  | standDownExpiry => exact done hexec (State.frame_eventWhen s.frame_standDown)
  | testTimerExpiry =>
    exact done hexec (State.frame_eventWhen (s.passes_acting_drv _ _ rfl (Driver.moves_endTest ..)).toFrame)
  | pullInExpiry =>
    exact done hexec (State.frame_eventWhen (s.passes_acting_drv _ _ rfl (Driver.moves_endPullIn ..)).toFrame)
  | holdWindowExpiry =>
    exact done hexec (State.frame_eventWhen
      (s.passes_acting _ (Actors.reach_operate _ _ _ (Driver.moves_failHold ..))).toFrame)
  | pulseGapExpiry => exact done hexec (State.frame_eventWhen (s.passes_acting_drv _ _ rfl (.gap ..)).toFrame)
  | pulseTimerExpiry ch =>
    exact done hexec (State.passes_eventWhen fun hdue =>
      s.passes_acting _ (Actors.reach_operate _ _ _ (Driver.moves_endPulse _ _ _ _ _ (by simp_all)))).toFrame
  | pulseWindowExpiry ch =>
    exact done hexec (State.passes_eventWhen fun hdue =>
      s.passes_acting _ (Actors.reach_operate _ _ _ (Driver.moves_missWindow _ _ (by simp_all)))).toFrame
  | scanTimerExpiry =>
    exact done hexec (State.frame_eventWhen ⟨rfl, rfl, rfl, rfl, id, id, .refl _, id, id, id, id, fun h => h.beginScan⟩)
  | scanCompletion frame => exact done hexec (State.frame_eventWhen (s.frame_completeScan frame))
  | quietWaitExpiry =>
    exact done hexec (State.frame_eventWhen (s.passes_acting _ (Actors.reach_enterAwaitPermit _ _)).toFrame)
  | bidWindowExpiry => exact done hexec (State.frame_eventWhen (s.passes_acting _ (Actors.reach_endBidWindow _ _)).toFrame)
  | contestIntervalExpiry => exact done hexec (State.frame_eventWhen s.frame_enterEnergizing)
  | staggerExpiry => exact done hexec (State.frame_eventWhen (s.passes_acting _ (Actors.reach_endStagger _ _)).toFrame)
  | powerSettleExpiry =>
    exact done hexec (State.frame_eventWhen (s.frame_acting_of_touch _ (Actors.touch_stepDone _ _)))
  | releaseWaitExpiry =>
    exact done hexec (State.frame_eventWhen (s.frame_acting_of_touch _ (Actors.touch_stepDone _ _)))
  | rejoinWindowExpiry => exact done hexec (State.frame_eventWhen s.frame_endRejoinWindow)

/-- Settles O3: RESET keeps the waiting commands, and every other command stays within the frame. -/
theorem everyCommandCompletesAndKeepsLatches : Obligations.EveryCommandCompletesAndKeepsLatches := by
  intro c s
  obtain ⟨t, hexec⟩ := exec_completes c s
  refine ⟨t, hexec, ?_, fun hc => ?_⟩
  · by_cases hc : ∀ straps high, c ≠ .reset straps high
    · exact (exec_frame hexec hc).pending
    · push Not at hc
      obtain ⟨straps, high, rfl⟩ := hc
      exact Host.Outcome.next.inj hexec ▸ rfl
  · have h := exec_frame hexec hc
    exact ⟨h.straps, h.clock, h.bitPhase, h.duplicate, h.known, fun id _ => h.failed.pulse id,
      fun id _ => h.failed.level id, fun id _ => h.failed.hold id⟩

/-! ### The state after reset -/

/-- Settles O55: every part of the soundness of a state just reset is decided by its constants, whatever the straps. -/
theorem resetStateIsSound : Obligations.ResetStateIsSound := by
  have hafter : ∀ (straps : Straps) (high : Bool) (pending : List Instr), (State.afterReset straps high pending).Sound := by
    intro straps high pending
    have hown : recordOf (List.replicate 32 PeerRecord.never) straps.stn.toNat = .never := by
      unfold recordOf
      rw [List.getElem?_replicate, if_pos straps.stn.isLt]
    have hpart : (⟨.reset, .reset, .reset, .reset⟩ : Actors).CloseSound ∧ (⟨.reset, .reset, .reset, .reset⟩ : Actors).RestSound
        ∧ Coordinator.reset.Sound ∧ (⟨.reset, .reset, .reset, .reset⟩ : Actors).StageSound := by decide
    obtain ⟨hclose, hrest, hcoord, hstage⟩ := hpart
    refine ⟨?_, (by decide : Assessor.reset.Sound), (by decide : LineUnit.reset.Sound), (by decide : LineUnit.reset.ReceiverSound),
      ⟨rfl, (by decide : ∀ r ∈ List.replicate 32 PeerRecord.never, r.Sound), hown⟩, (by decide : Scanner.reset.Sound),
      (by decide : Driver.reset.PulseSound), (by decide : Driver.reset.RecordsSound), hclose, hrest, hcoord, hstage, ?_,
      (by decide : SensorStatus.start = .lost ↔ Assessor.reset.detector = .blind), ?_⟩
    · show (Port.reset high).Sound
      cases high <;> decide
    · exact ⟨rfl, rfl, (fun h => nomatch (h : Phase.rejoin = .quietWait)), rfl,
        (by decide : Assessor.reset.detector = .calm → Sequencer.reset.target = .watch)⟩
    · exact ⟨(by decide : Startup.reset.state = .running ↔ Sequencer.reset.rejoinHold = false),
        (by decide : Startup.reset.window.isSome ↔ Startup.reset.state = .listening),
        (by decide : Startup.reset.state = .awaitingInputs → Scanner.reset.known = false)⟩
  exact fun straps high pending => ⟨hafter _ _ _, hafter straps high pending⟩

/-- Settles O4: the items of every block after reset are its reset constants. -/
theorem resetPutsEveryBlockAfterReset : Obligations.ResetPutsEveryBlockAfterReset := by
  intro straps high s
  refine ⟨.afterReset straps high s.pending, rfl, rfl, rfl, rfl, ?_, ?_, ?_, ⟨rfl, rfl⟩, rfl, ?_, ?_, rfl, rfl, rfl⟩
  · exact ⟨rfl, rfl, rfl, rfl, rfl, rfl, rfl, rfl, rfl, rfl⟩
  · exact ⟨rfl, rfl, rfl, rfl, rfl, rfl, rfl, rfl, rfl, rfl, rfl, rfl, rfl⟩
  · exact ⟨rfl, rfl, rfl, rfl, rfl, rfl, rfl, rfl, rfl, rfl, rfl, rfl, rfl, rfl, rfl⟩
  · exact ⟨fun id _ => by cases id <;> rfl, fun id _ => by cases id <;> rfl,
      fun id _ => by rcases id with (_ | _) | (_ | _) <;> rfl, rfl, rfl, (by decide : Driver.reset.outputs = 0), rfl⟩
  · exact ⟨rfl, rfl, rfl, rfl, rfl, rfl, rfl, by simp [State.afterReset, Scanner.reset], by simp⟩

/-! ### Every step -/

/-- Settles O1. -/
theorem stepRunsFrontCommand : Obligations.StepRunsFrontCommand := fun _ _ _ => rfl

/-- Settles O2: the tick of an empty queue, by whether the bit time is the millisecond's last. -/
theorem emptyQueuePassesOneBitTime : Obligations.EmptyQueuePassesOneBitTime := by
  intro s hempty
  refine ⟨s.tick, by unfold step; rw [hempty], ?_⟩
  unfold State.tick
  dsimp only
  by_cases hphase : s.bitPhase < 249
  · rw [if_neg (by simp only [Config.bitTimesPerMs]; omega), if_pos hphase, if_pos hphase]
    rfl
  · rw [if_pos (by simp only [Config.bitTimesPerMs]; omega), if_neg hphase, if_neg hphase]
    rfl

/-- A step is a bit time, a reset, or a command within its frame. -/
theorem step_cases {s t : State} (h : step s = .next t) :
    t = s.tick ∨ (∃ straps high pending, t = .afterReset straps high pending)
      ∨ ∃ c rest, exec c { s with pending := rest } = .next t ∧ { s with pending := rest }.Frame t := by
  unfold step at h
  split at h
  · exact .inl (Host.Outcome.next.inj h).symm
  · next c rest _ =>
    by_cases hc : ∀ straps high, c ≠ .reset straps high
    · exact .inr (.inr ⟨c, rest, h, exec_frame h hc⟩)
    · push Not at hc
      obtain ⟨straps, high, rfl⟩ := hc
      exact .inr (.inl ⟨straps, high, rest, (Host.Outcome.next.inj h).symm⟩)

theorem State.afterReset_sound (straps : Straps) (high : Bool) (pending : List Instr) :
    (State.afterReset straps high pending).Sound := (resetStateIsSound straps high pending).2

/-- Settles O56: the tick leaves port and assessor alone. -/
theorem stepKeepsPortAndAssessor : Obligations.StepKeepsPortAndAssessor := by
  rintro s t ⟨hport, hassessor⟩ hstep
  obtain rfl | ⟨straps, high, pending, rfl⟩ | ⟨c, rest, -, hframe⟩ := step_cases hstep
  · rw [s.tick_eq]
    exact ⟨hport, hassessor⟩
  · have h := State.afterReset_sound straps high pending
    exact ⟨h.1, h.2.1⟩
  · exact ⟨hframe.port hport, hframe.assessor hassessor⟩

/-- Settles O57: the tick moves counters of the line alone. -/
theorem stepKeepsTheLineUnit : Obligations.StepKeepsTheLineUnit := by
  intro s t hline hstep
  obtain rfl | ⟨straps, high, pending, rfl⟩ | ⟨c, rest, -, hframe⟩ := step_cases hstep
  · rw [s.tick_eq]
    exact LineUnit.Fit.tick hline
  · obtain ⟨-, -, hsound, hreceiver, -⟩ := State.afterReset_sound straps high pending
    exact ⟨hsound, hreceiver⟩
  · exact hframe.line hline

/-- Settles O58: the tick leaves Peer Table and scanner alone. -/
theorem stepKeepsPeersAndInputs : Obligations.StepKeepsPeersAndInputs := by
  rintro s t ⟨hpeers, hscanner⟩ hstep
  obtain rfl | ⟨straps, high, pending, rfl⟩ | ⟨c, rest, -, hframe⟩ := step_cases hstep
  · rw [s.tick_eq]
    exact ⟨hpeers, hscanner⟩
  · obtain ⟨-, -, -, -, hp, hs, -⟩ := State.afterReset_sound straps high pending
    exact ⟨hp, hs⟩
  · exact ⟨hframe.peers hpeers, hframe.scanner hscanner⟩

/-! ### When the stage may fall -/

/-- The commands that may lower the stage: RESET, the stand-down, the ends of a contest and of an energizing wait, and the
two that may adopt a stage. -/
def mayLower : Instr → Bool
  | .reset _ _ | .standDownExpiry | .contestIntervalExpiry | .powerSettleExpiry | .releaseWaitExpiry
  | .scanCompletion _ | .rejoinWindowExpiry => true
  | _ => false

/-- Outside ENERGIZING every other command lets the stage stand or rise. -/
theorem exec_passes {c : Instr} {s t : State} (hexec : exec c s = .next t) (hc : mayLower c = false) : s.Passes t := by
  have done : ∀ {u : State}, (.next u : Host.Outcome State Fault Refusal) = .next t → s.Passes u → s.Passes t :=
    fun h hp => Host.Outcome.next.inj h ▸ hp
  cases c with
  | reset | standDownExpiry | contestIntervalExpiry | powerSettleExpiry | releaseWaitExpiry | scanCompletion
  | rejoinWindowExpiry => cases hc
  | frameEnd => exact done hexec (State.passes_event (s.passes_fromPort _ fun h => Port.sound_frameEnd h _ _))
  | frameTimerExpiry =>
    exact done hexec (State.passes_eventWhen fun _ => s.passes_fromPort _ fun h => Port.sound_timeout h)
  | lineBusy | telegramDiscarded | stateTelegram | bidTelegram | claimTelegram | yieldTelegram | doneTelegram
  | resume | hold | trip | mute | unmute | reseed | test | ackReset | clearCounts =>
    exact done hexec (State.passes_event (s.passes_hearLine _ _))
  | lineIdle => exact done hexec (State.passes_eventWhen fun _ => s.passes_lineIdle)
  | telegramTorn => exact done hexec (State.passes_eventWhen fun _ => s.passes_torn)
  | peerQuietExpiry peer =>
    exact done hexec (State.passes_event (s.passes_expirePeer peer _ _ fun r h hdue => h.toQuiet (by simp_all)))
  | peerLostExpiry peer =>
    exact done hexec (State.passes_event (s.passes_expirePeer peer _ _ fun r h hdue => h.toLost (by simp_all)))
  | bidPartExpiry peer =>
    exact done hexec (State.passes_event (s.passes_expirePeer peer _ _ fun r h hdue => h.dropBid))
  | claimPartExpiry peer =>
    refine done hexec (State.passes_event (s.passes_expirePeer peer _ _ fun r h hdue => h.spendClaim ?_))
    cases hclaim : r.claim <;> simp_all [ranFor]
  | transmissionStart => exact done hexec (State.passes_event s.passes_beginHead)
  | collision => exact done hexec (State.passes_event s.passes_collideHead)
  | transmissionComplete => exact done hexec (State.passes_event s.passes_completeHead)
  | lineStuckExpiry =>
    exact done hexec (State.passes_eventWhen fun _ => s.passes_acting_line _ _ rfl fun h => h.becomeStuck _)
  | heartbeatExpiry => exact done hexec (State.passes_eventWhen fun _ => s.passes_acting_line _ _ rfl fun h => h.beat _)
  | muteExpiry => exact done hexec (State.passes_eventWhen fun _ => s.passes_endMute)
  | graceExpiry => exact done hexec (State.passes_eventWhen fun _ => s.passes_acting _ (Actors.reach_endGrace _ _))
  | soloDelayExpiry => exact done hexec (State.passes_eventWhen fun _ => s.passes_acting_formTarget)
  | testTimerExpiry =>
    exact done hexec (State.passes_eventWhen fun _ => s.passes_acting_drv _ _ rfl (Driver.moves_endTest ..))
  | pullInExpiry =>
    exact done hexec (State.passes_eventWhen fun _ => s.passes_acting_drv _ _ rfl (Driver.moves_endPullIn ..))
  | holdWindowExpiry =>
    exact done hexec (State.passes_eventWhen fun _ =>
      s.passes_acting _ (Actors.reach_operate _ _ _ (Driver.moves_failHold ..)))
  | pulseGapExpiry => exact done hexec (State.passes_eventWhen fun _ => s.passes_acting_drv _ _ rfl (.gap ..))
  | pulseTimerExpiry ch =>
    exact done hexec (State.passes_eventWhen fun hdue =>
      s.passes_acting _ (Actors.reach_operate _ _ _ (Driver.moves_endPulse _ _ _ _ _ (by simp_all))))
  | pulseWindowExpiry ch =>
    exact done hexec (State.passes_eventWhen fun hdue =>
      s.passes_acting _ (Actors.reach_operate _ _ _ (Driver.moves_missWindow _ _ (by simp_all))))
  | scanTimerExpiry =>
    exact done hexec (State.passes_eventWhen fun _ =>
      ⟨⟨rfl, rfl, rfl, rfl, id, id, .refl _, id, id, id, id, fun h => h.beginScan⟩, fun h => ⟨h, le_rfl⟩⟩)
  | quietWaitExpiry =>
    exact done hexec (State.passes_eventWhen fun _ => s.passes_acting _ (Actors.reach_enterAwaitPermit _ _))
  | bidWindowExpiry => exact done hexec (State.passes_eventWhen fun _ => s.passes_acting _ (Actors.reach_endBidWindow _ _))
  | staggerExpiry => exact done hexec (State.passes_eventWhen fun _ => s.passes_acting _ (Actors.reach_endStagger _ _))

end Sys2Proof.Machine
end

section
/-! PROOFS. When the stage may fall, and the outputs of the channels. -/

namespace Sys2Proof.Machine

/-- Outside ENERGIZING no step runs. -/
theorem State.Sound.quiescent {s : State} (h : s.Sound) (hphase : s.act.coord.phase ≠ .energizing) : s.act.Quiescent := by
  obtain ⟨-, -, -, -, -, -, -, -, -, -, ⟨hstep, -⟩, -⟩ := h
  exact ⟨hphase, by_contra fun hne => hphase (hstep hne)⟩

/-- Before adoption the stage is WATCH. -/
theorem State.Sound.watch_of_not_running {s : State} (h : s.Sound) (hstate : s.startup.state ≠ .running) :
    s.act.seq.stage = .watch := by
  obtain ⟨-, -, -, -, -, -, -, -, -, -, -, ⟨-, hrest, -⟩, -, -, hstart, -⟩ := h
  refine (hrest ?_).1
  by_contra hhold
  exact hstate (hstart.2 (by simpa using hhold))

/-- A running stand-down timer says that the stage is ALERT. -/
theorem State.Sound.alert_of_standDown {s : State} (h : s.Sound) (hdue : s.act.seq.standDown.isSome) :
    s.act.seq.stage = .alert := by
  obtain ⟨-, -, -, -, -, -, -, -, -, -, -, -, ⟨-, hdown, -⟩, -⟩ := h
  rw [hdown] at hdue
  unfold Actors.wantsStandDown at hdue
  simp only [Bool.and_eq_true, decide_eq_true_eq] at hdue
  exact hdue.1.1.1

theorem isSome_of_ranFor {now : Stamp} {timer : Option Stamp} {duration : Nat} (h : ranFor now timer duration = true) :
    timer.isSome = true := by
  cases timer with
  | none => cases h
  | some start => rfl

theorem isSome_of_expired {now : Stamp} {timer : Option Stamp} (h : expired now timer = true) : timer.isSome = true := by
  cases timer with
  | none => cases h
  | some start => rfl

/-- A scan completion that adopts nothing lets the stage of a quiescent state stand or rise. -/
theorem State.passes_completeScan (s : State) (frame : BitVec 24) (h : s.startup.state = .running) :
    s.Passes (s.completeScan frame) := by
  have hscan := s.passes_scanned (s.scanner.complete frame) (fun h => Scanner.known_complete h frame) fun h => h.complete frame
  unfold State.completeScan
  dsimp only
  split
  · refine hscan.trans ?_
    unfold State.onKnown
    have hstate : ({ s with scanner := s.scanner.complete frame }.acting fun v a => a.afterScan v s.scanner).startup.state
      = .running := h
    rw [hstate]
    exact .refl _
  · exact hscan

theorem Coordinator.energizing_of_settleDue {c : Coordinator} {now : Stamp} (h : c.settleDue now = true) :
    c.phase = .energizing := by
  unfold Coordinator.settleDue at h
  split at h
  · assumption
  · cases h

theorem Coordinator.energizing_of_releaseWaitDue {c : Coordinator} {now : Stamp} (h : c.releaseWaitDue now = true) :
    c.phase = .energizing := by
  unfold Coordinator.releaseWaitDue at h
  split at h
  · assumption
  · cases h

/-- Settles O32: outside ENERGIZING a command either lets the stage stand or rise, or is one of those named, or meets the
rejoin hold, under which the stage is WATCH. -/
theorem stageFallsOnlyByEnergizingOrStandDown : Obligations.StageFallsOnlyByEnergizingOrStandDown := by
  intro c s t hs hexec hfall
  by_cases hphase : s.act.coord.phase = .energizing
  · exact .inr (.inr (.inl hphase))
  have hquiet := hs.quiescent hphase
  have never : ¬ s.Passes t := fun hp => absurd (hp.grows hquiet).2 (by omega)
  have next : ∀ {u : State}, (.next u : Host.Outcome State Fault Refusal) = .next t → u = t := Host.Outcome.next.inj
  have notWatch : s.act.seq.stage ≠ .watch := fun h => by
    rw [h] at hfall
    cases hfall
  have running : s.startup.state = .running := by_contra fun h => notWatch (hs.watch_of_not_running h)
  cases hc : mayLower c with
  | false => exact absurd (exec_passes hexec hc) never
  | true =>
    cases c with
    | reset straps high => exact .inl ⟨straps, high, rfl⟩
    | standDownExpiry =>
      have ht := next hexec
      cases hdue : ranFor s.clock s.act.seq.standDown standDownTime with
      | false =>
        rw [hdue, State.eventWhen_false] at ht
        exact absurd (ht ▸ .refl s) never
      | true =>
        have halert := hs.alert_of_standDown (isSome_of_ranFor hdue)
        refine .inr (.inl ⟨rfl, halert, ?_⟩)
        rw [halert] at hfall
        cases hstage : t.act.seq.stage <;> simp [hstage, Stage.code] at hfall ⊢
    | contestIntervalExpiry =>
      have ht := next hexec
      by_cases hcontest : s.act.coord.phase = .contest
      · exact .inr (.inr (.inr ⟨rfl, hcontest⟩))
      · rw [show (decide (s.act.coord.phase = .contest) && expired s.clock s.act.coord.contest) = false by simp [hcontest],
          State.eventWhen_false] at ht
        exact absurd (ht ▸ .refl s) never
    | powerSettleExpiry =>
      have ht := next hexec
      cases hdue : s.act.coord.settleDue s.clock with
      | true => exact absurd (Coordinator.energizing_of_settleDue hdue) hphase
      | false =>
        rw [hdue, State.eventWhen_false] at ht
        exact absurd (ht ▸ .refl s) never
    | releaseWaitExpiry =>
      have ht := next hexec
      cases hdue : s.act.coord.releaseWaitDue s.clock with
      | true => exact absurd (Coordinator.energizing_of_releaseWaitDue hdue) hphase
      | false =>
        rw [hdue, State.eventWhen_false] at ht
        exact absurd (ht ▸ .refl s) never
    | scanCompletion frame =>
      have ht := next hexec
      exact absurd (ht ▸ State.passes_eventWhen fun _ => s.passes_completeScan frame running) never
    | rejoinWindowExpiry =>
      have ht := next hexec
      rw [show (decide (s.startup.state = .listening) && expired s.clock s.startup.window) = false by simp [running],
        State.eventWhen_false] at ht
      exact absurd (ht ▸ .refl s) never
    | _ => cases hc

/-! ### Outputs -/

theorem LevelChannel.energized_iff (c : LevelChannel) : c.energized = true ↔ c.state ≠ .normal := by
  unfold LevelChannel.energized
  cases c.state <;> simp

theorem HoldChannel.energized_iff (c : HoldChannel) : c.energized = true ↔ c.state ∈ [.pullIn, .holding, .failed true] := by
  unfold HoldChannel.energized
  cases c.state <;> simp

theorem PulseChannel.energized_iff (c : PulseChannel) : c.energized = true ↔ c.state = .firing := by
  simp [PulseChannel.energized]

/-- Ten flags appended are the bits of their word, the last the lowest. -/
theorem getLsbD_ofBool_append (b₀ b₁ b₂ b₃ b₄ b₅ b₆ b₇ b₈ b₉ : Bool) (k : Nat) (hk : k < 10) :
    (BitVec.ofBool b₉ ++ BitVec.ofBool b₈ ++ BitVec.ofBool b₇ ++ BitVec.ofBool b₆ ++ BitVec.ofBool b₅ ++ BitVec.ofBool b₄
      ++ BitVec.ofBool b₃ ++ BitVec.ofBool b₂ ++ BitVec.ofBool b₁ ++ BitVec.ofBool b₀).getLsbD k
      = [b₀, b₁, b₂, b₃, b₄, b₅, b₆, b₇, b₈, b₉][k] := by
  simp only [BitVec.getLsbD_append, BitVec.getLsbD_ofBool]
  interval_cases k <;> simp

theorem Driver.outputs_getElem (d : Driver) (k : Nat) (hk : k < 10) : d.outputs[k] =
    [d.advise.energized, d.lift.energized, d.freeze.energized, d.haltreq.energized, d.tripA.energized, d.tripB.energized,
      d.valve.energized, d.coolstop.energized, d.closeA.energized, d.closeB.energized][k] := by
  rw [← BitVec.getLsbD_eq_getElem]
  exact getLsbD_ofBool_append _ _ _ _ _ _ _ _ _ _ k hk

/-- Settles O41: each output is its channel's bit; a PULSE output is energized exactly while its channel fires. -/
theorem outputsFollowTheChannels : Obligations.OutputsFollowTheChannels := by
  rintro d ⟨-, -, hone⟩
  simp only [Driver.outputs_getElem]
  refine ⟨d.advise.energized_iff, d.lift.energized_iff, d.freeze.energized_iff, d.haltreq.energized_iff,
    d.tripA.energized_iff, d.tripB.energized_iff, d.valve.energized_iff, d.coolstop.energized_iff, d.closeA.energized_iff,
    d.closeB.energized_iff, ?_, ?_⟩
  · simp [Driver.hdr, and_assoc]
  · show (pulseIds.map d.firing).countP _ ≤ 1
    rw [List.countP_map]
    refine le_of_eq_of_le (List.countP_congr fun id _ => ?_) hone
    simp

end Sys2Proof.Machine
end

section
/-! PROOFS. The relations between the acting blocks outside the rejoin hold, kept by their operations on one another. -/

namespace Sys2Proof.Machine

/-! ### The cadence is the Line Unit's own (R68) -/

@[simp] theorem LineUnit.urgent_fast (l : LineUnit) (now : Stamp) : (l.urgent now).fast = l.fast := by
  rw [l.queueOnly_urgent now]

@[simp] theorem LineUnit.request_fast (l : LineUnit) (now : Stamp) (k : RestartKind) : (l.request now k).fast = l.fast := by
  rw [l.queueOnly_request now k]

@[simp] theorem LineUnit.routine_fast (l : LineUnit) (now : Stamp) : (l.routine now).fast = l.fast := by
  rw [l.queueOnly_routine now]

@[simp] theorem LineUnit.applyDeferred_fast (l : LineUnit) (now : Stamp) : (l.applyDeferred now).fast = l.fast := by
  rw [l.queueOnly_applyDeferred now]

/-! ### Requests of sequencer and driver -/

/-- Only the grace, the SAFE wait, the driver and the queue may differ: a grace may have begun where `isolate` says so, and the
SAFE wait been set where `safe` does; a grace that stood still stands. -/
structure Actors.Asks (isolate safe : Prop) (a b : Actors) : Prop where
  coord : b.coord = a.coord
  seq : b.seq = { a.seq with safeWait := b.seq.safeWait, grace := b.seq.grace }
  fast : b.line.fast = a.line.fast
  grace : b.seq.grace ≠ .none ↔ a.seq.grace ≠ .none ∨ isolate
  wait : b.seq.safeWait → a.seq.safeWait ∨ safe

theorem Actors.Asks.refl (a : Actors) : Actors.Asks False False a a := ⟨rfl, rfl, rfl, by simp, fun h => .inl h⟩

variable {a b c : Actors} {v : View} {i j w x : Prop}

theorem Actors.Asks.trans (h : Actors.Asks i w a b) (k : Actors.Asks j x b c) : Actors.Asks (i ∨ j) (w ∨ x) a c where
  coord := k.coord.trans h.coord
  seq := by rw [k.seq, h.seq]
  fast := k.fast.trans h.fast
  grace := by rw [k.grace, h.grace, or_assoc]
  wait hc := by
    obtain hb | hx := k.wait hc
    · exact (h.wait hb).imp_right .inl
    · exact .inr (.inr hx)

theorem Actors.Asks.congr (h : Actors.Asks i w a b) (hi : i ↔ j) (hw : w → x) : Actors.Asks j x a b :=
  ⟨h.coord, h.seq, h.fast, by rw [h.grace, hi], fun hb => (h.wait hb).imp_right hw⟩

theorem Actors.Asks.andThen (h : Actors.Asks i w a b) (k : Actors.Asks False False b c) : Actors.Asks i w a c :=
  (h.trans k).congr (by simp) fun hw => hw.elim id False.elim

theorem Actors.Asks.after (h : Actors.Asks False False a b) (k : Actors.Asks i w b c) : Actors.Asks i w a c :=
  (h.trans k).congr (by simp) fun hw => hw.elim False.elim id

variable (a v)

theorem Actors.asks_withLine (l : LineUnit) (hfast : l.fast = a.line.fast) : Actors.Asks False False a (a.withLine l) :=
  ⟨rfl, rfl, hfast, by simp, fun h => .inl h⟩

theorem Actors.asks_withDrv (d : Driver) : Actors.Asks False False a (a.withDrv d) := ⟨rfl, rfl, rfl, by simp, fun h => .inl h⟩

theorem Actors.asks_urgent : Actors.Asks False False a (a.urgent v) := a.asks_withLine _ (LineUnit.urgent_fast ..)

theorem Actors.asks_request (k : RestartKind) : Actors.Asks False False a (a.request v k) :=
  a.asks_withLine _ (LineUnit.request_fast ..)

theorem Actors.asks_hear (n : Notice) : Actors.Asks False False a (a.hear v n) := by
  cases n with
  | tripOutcome p =>
    unfold Actors.hear Actors.tripOutcome
    dsimp only
    split
    · exact ⟨rfl, rfl, rfl, by simp, fun h => nomatch h⟩
    · exact .refl a
  | failedFlag => exact a.asks_urgent v
  | closeConfirmed | closeUnconfirmed | closeFailed | closeRefused | closeCut | closeWithdrawn | releaseConfirmed
  | releaseUnconfirmed | releaseFailed => exact .refl a

theorem Actors.asks_drive (f : Driver → Driven) : Actors.Asks False False a (a.drive v f) := by
  have hall : ∀ (ns : List Notice) (b : Actors), Actors.Asks False False b (ns.foldl (fun a n => a.hear v n) b) := by
    intro ns
    induction ns with
    | nil => exact .refl
    | cons n ns ih => exact fun b => (b.asks_hear v n).andThen (ih _)
  exact (a.asks_withDrv _).andThen (hall _ _)

theorem Actors.asks_tripReady : Actors.Asks False False a (a.tripReady v) := by
  have one : ∀ (p : Pdu) (b : Actors), Actors.Asks False False b
      (if (b.drv.pulse (.trip p)).state = .ready then b.drive v (·.requestTrip v.scanner v.now p) else b) := by
    intro p b
    split
    · exact b.asks_drive v _
    · exact .refl b
  exact (one .a a).andThen (one .b _)

/-- A grace that ends was running. -/
theorem Actors.asks_endGrace : Actors.Asks False False a (a.endGrace v) := by
  unfold Actors.endGrace
  split
  · next h =>
    refine Actors.Asks.andThen ?_ (Actors.asks_tripReady _ v)
    exact ⟨rfl, rfl, rfl, by simp [h], fun h => .inl h⟩
  · exact .refl a
  · exact .refl a

theorem Actors.asks_cutAtStart : Actors.Asks False False a (a.cutAtStart v) := by
  unfold Actors.cutAtStart
  split
  · exact a.asks_endGrace v
  · exact .refl a

/-- What a stage asks for: ISOLATE a grace, SAFE the SAFE wait or its channels. -/
theorem Actors.asks_bringOne (stage : Stage) : Actors.Asks (stage = .isolate) (stage = .safe) a (a.bringOne v stage) := by
  cases stage with
  | isolate =>
    show Actors.Asks _ _ a (a.bringIsolate v)
    unfold Actors.bringIsolate
    split
    · refine Actors.Asks.andThen ?_ (Actors.asks_cutAtStart _ v)
      exact ⟨rfl, rfl, rfl, by simp, fun h => .inl h⟩
    · next h => exact ⟨rfl, rfl, rfl, by simp [h], fun h => .inl h⟩
    · next h =>
      have hask := a.asks_tripReady v
      exact ⟨hask.coord, hask.seq, hask.fast, by rw [hask.grace]; simp [h], fun hw => (hask.wait hw).imp_right False.elim⟩
  | safe =>
    show Actors.Asks _ _ a (a.bringSafe v)
    unfold Actors.bringSafe
    split
    · exact (Actors.Asks.refl a).congr (by simp) False.elim
    · split
      · exact (a.asks_withDrv _).congr (by simp) False.elim
      · exact ⟨rfl, rfl, rfl, by simp, fun _ => .inr rfl⟩
  | watch => exact (Actors.Asks.refl a).congr (by simp) False.elim
  | alert | quiesce => exact (a.asks_withDrv _).congr (by simp) False.elim

theorem Actors.asks_bringUp (stage : Stage) :
    Actors.Asks (3 ≤ stage.code) (stage = .safe) a (a.bringUp v stage) := by
  have hall : ∀ (l : List Stage) (b : Actors),
      Actors.Asks (.isolate ∈ l) (.safe ∈ l) b (l.foldl (fun a s => a.bringOne v s) b) := by
    intro l
    induction l with
    | nil => exact fun b => (Actors.Asks.refl b).congr (by simp) False.elim
    | cons s l ih => exact fun b => ((b.asks_bringOne v s).trans (ih _)).congr (by simp [eq_comm]) (by simp [eq_comm])
  refine (hall (stagesTo stage) a).congr ?_ ?_ <;> cases stage <;> decide

end Sys2Proof.Machine
end

section
/-! PROOFS. Outside the rejoin hold: changes of phase, raises, lowerings, steps and reports keep the relations between
sequencer and coordinator. -/

namespace Sys2Proof.Machine

/-! ### The coordinator's marks (08, section 8.1) -/

theorem Phase.not_inTurn_of_standsAside (p : Phase) :
    p.standsAside = true → p.inTurn = false ∧ p ≠ .bidding ∧ p ≠ .contest ∧ p ≠ .energizing := by
  cases p <;> decide

/-- A phase that gives the turn up is entered from any phase. -/
theorem Coordinator.Sound.moved_aside {c : Coordinator} (h : c.Sound) {p : Phase} (hp : p.standsAside = true) :
    (c.moved p).Sound := by
  unfold Coordinator.moved
  by_cases hsame : c.phase = p
  · rwa [if_pos hsame]
  · rw [if_neg hsame]
    have hturn := p.not_inTurn_of_standsAside hp
    cases hc : c.phase <;> simp_all [Phase.inTurn, Coordinator.enter, Coordinator.Sound]

/-- BIDDING is entered from a phase with no turn. -/
theorem Coordinator.Sound.moved_bidding {c : Coordinator} (h : c.Sound) (hc : c.phase.inTurn = false) :
    (c.moved .bidding).Sound := by
  unfold Coordinator.moved
  cases hphase : c.phase <;> simp_all [Phase.inTurn, Phase.standsAside, Coordinator.enter, Coordinator.Sound]

/-- NONE is entered from ENERGIZING with no claim left (R171). -/
theorem Coordinator.Sound.moved_none {c : Coordinator} (h : c.Sound) (hc : c.phase = .energizing)
    (permit keyWithheld : Bool) :
    (({ c with permit := permit, keyWithheld := keyWithheld, claimOutstanding := false } : Coordinator).moved .none).Sound := by
  unfold Coordinator.moved
  simp_all [Phase.inTurn, Phase.standsAside, Coordinator.enter, Coordinator.Sound]

/-- CONTEST is entered from BIDDING with a claim pending (R161). -/
theorem Coordinator.Sound.moved_contest {c : Coordinator} (h : c.Sound) (hc : c.phase = .bidding)
    (hpending : c.claimPending = true) (x : Stamp) :
    ({ c.moved .contest with claimPending := false, contest := some x } : Coordinator).Sound := by
  unfold Coordinator.moved
  simp_all [Phase.inTurn, Phase.standsAside, Coordinator.enter, Coordinator.Sound]

/-- ENERGIZING is entered from CONTEST, its interval over (R163). -/
theorem Coordinator.Sound.moved_energizing {c : Coordinator} (h : c.Sound) (hc : c.phase = .contest) :
    (({ c with contest := none } : Coordinator).moved .energizing).Sound := by
  unfold Coordinator.moved
  simp_all [Phase.inTurn, Phase.standsAside, Coordinator.enter, Coordinator.Sound]

theorem Coordinator.Sound.withQuietStart {c : Coordinator} (h : c.Sound) (hc : c.phase = .quietWait) (x : Option Stamp) :
    ({ c with quietStart := x } : Coordinator).Sound := by
  obtain ⟨h₁, h₂, h₃, h₄, h₅, h₆, h₇, h₈, -⟩ := h
  exact ⟨h₁, h₂, h₃, h₄, h₅, h₆, h₇, h₈, fun _ => hc⟩

/-! ### The relations -/

/-- Outside the rejoin hold: the coordinator's marks, the SAFE wait, the grace, and what is judged. -/
structure Actors.Running (v : View) (a : Actors) : Prop where
  hold : a.seq.rejoinHold = false
  phase : a.coord.phase ≠ .rejoin
  coord : a.coord.Sound
  safe : a.seq.safeWait → a.seq.stage = .safe
  grace : a.seq.grace ≠ .none ↔ 3 ≤ a.seq.stage.code
  fast : a.line.fast = a.wantsFast v
  down : a.seq.standDown.isSome = a.wantsStandDown v
  quiet : a.coord.phase = .quietWait → (a.coord.quietStart.isSome ↔ v.assessor.detector = .calm)

/-- Each energizing step runs at its own stage. -/
def Actors.Fits (a : Actors) : Prop := a.coord.step = .none ∨ a.coord.step.stage? = some a.seq.stage

/-- The stage is at or above the demand (R100). -/
def Actors.Met (a : Actors) : Prop := a.seq.demand.code ≤ a.seq.stage.code

/-- Sequencer and coordinator outside the rejoin hold. -/
structure Actors.Live (v : View) (a : Actors) : Prop extends Actors.Running v a where
  restart : a.coord.phase.inRestart → 1 ≤ a.seq.stage.code
  fits : a.Fits
  met : a.Met

variable {a b : Actors} {v : View} {p : Phase}

/-- What is asked of driver and Line Unit leaves the relations as they are, a grace begun or a SAFE wait set where the stage
calls for it. -/
theorem Actors.Running.asksAt {i w : Prop} (h : a.Running v) (k : Actors.Asks i w a b) (hi : i → 3 ≤ a.seq.stage.code)
    (hw : w → a.seq.stage = .safe) : b.Running v := by
  have hc := k.coord
  have hstage : b.seq.stage = a.seq.stage := by rw [k.seq]
  have hhold : b.seq.rejoinHold = a.seq.rejoinHold := by rw [k.seq]
  have hdown : b.seq.standDown = a.seq.standDown := by rw [k.seq]
  refine ⟨hhold.trans h.hold, by rw [hc]; exact h.phase, by rw [hc]; exact h.coord, fun hb => ?_, ?_, ?_, ?_, ?_⟩
  · rw [hstage]
    exact (k.wait hb).elim h.safe hw
  · rw [k.grace, hstage, h.grace, or_iff_left_of_imp hi]
  · rw [k.fast, h.fast, Actors.wantsFast, Actors.wantsFast, hc, hstage]
  · rw [hdown, h.down, Actors.wantsStandDown, Actors.wantsStandDown, hc, hstage, hhold]
  · rw [hc]
    exact h.quiet

theorem Actors.Running.asks (h : a.Running v) (k : Actors.Asks False False a b) : b.Running v :=
  h.asksAt k False.elim False.elim

/-- Asking moves neither stage nor demand. -/
theorem Actors.Asks.met_iff {i w : Prop} (k : Actors.Asks i w a b) : b.Met ↔ a.Met := by
  unfold Actors.Met
  rw [k.seq]
  rfl

theorem Actors.Live.asksAt {i w : Prop} (h : a.Live v) (k : Actors.Asks i w a b) (hi : i → 3 ≤ a.seq.stage.code)
    (hw : w → a.seq.stage = .safe) : b.Live v := by
  refine ⟨h.toRunning.asksAt k hi hw, ?_, ?_, k.met_iff.2 h.met⟩
  · rw [k.coord, k.seq]
    exact h.restart
  · have hfits := h.fits
    unfold Actors.Fits at hfits ⊢
    rwa [k.coord, k.seq]

theorem Actors.Live.asks (h : a.Live v) (k : Actors.Asks False False a b) : b.Live v := h.asksAt k False.elim False.elim

/-- Outside ENERGIZING no step runs. -/
theorem Actors.Running.step_none (h : a.Running v) (hphase : a.coord.phase ≠ .energizing) : a.coord.step = .none :=
  by_contra fun hstep => hphase (h.coord.1 hstep)

/-! ### Changes of phase -/

/-- What a change of phase leaves judged (R68, R114). -/
theorem Actors.Running.judged_setPhase (h : a.Running v) (p : Phase) :
    (a.setPhase v p).line.fast = (a.setPhase v p).wantsFast v
      ∧ (a.setPhase v p).seq.standDown.isSome = (a.setPhase v p).wantsStandDown v := by
  unfold Actors.setPhase
  split
  · exact ⟨h.fast, h.down⟩
  · dsimp only
    generalize Actors.withCoord _ _ = c
    obtain ⟨hf, hd⟩ := c.judge_judged v
    exact ⟨(LineUnit.urgent_fast ..).trans hf, hd⟩

/-- A change of phase that leaves the coordinator's marks sound, other than to REJOIN or QUIET_WAIT. -/
theorem Actors.Running.setPhase (h : a.Running v) (hmoved : (a.coord.moved p).Sound) (hp : p ≠ .rejoin) (hq : p ≠ .quietWait) :
    (a.setPhase v p).Running v := by
  obtain ⟨hfast, hdown⟩ := h.judged_setPhase p
  have hseq := a.setPhase_seq v p
  refine ⟨by rw [hseq]; exact h.hold, by rwa [Actors.setPhase_phase], by rwa [Actors.setPhase_coord], by rw [hseq]; exact h.safe,
    by rw [hseq]; exact h.grace, hfast, hdown, fun hphase => ?_⟩
  rw [Actors.setPhase_phase] at hphase
  exact absurd hphase hq

theorem Coordinator.moved_phase (c : Coordinator) (p : Phase) : (c.moved p).phase = p := by
  unfold Coordinator.moved
  split
  · assumption
  · rfl

/-- A change of phase other than into ENERGIZING leaves no step. -/
theorem Coordinator.Sound.moved_step {c : Coordinator} (h : c.Sound) {p : Phase} (hp : p ≠ .energizing) :
    (c.moved p).step = .none := by
  have hnone : c.phase ≠ .energizing → c.step = .none := fun hc => by_contra fun hs => hc (h.1 hs)
  unfold Coordinator.moved
  by_cases hsame : c.phase = p
  · rw [if_pos hsame]
    exact hnone (hsame ▸ hp)
  · rw [if_neg hsame]
    dsimp only
    by_cases hen : c.phase = .energizing
    · rw [if_pos hen]
      rfl
    · rw [if_neg hen]
      split <;> exact hnone hen

/-- A change of phase moves neither stage nor demand. -/
theorem Actors.setPhase_met_iff (a : Actors) (v : View) (p : Phase) : (a.setPhase v p).Met ↔ a.Met := by
  unfold Actors.Met
  rw [Actors.setPhase_seq]
  rfl

theorem Actors.setPhase_stage (a : Actors) (v : View) (p : Phase) : (a.setPhase v p).seq.stage = a.seq.stage := by
  rw [Actors.setPhase_seq]

/-- The same with the stage of a restart, the step and the demand. -/
theorem Actors.Running.live_setPhase (h : a.Running v) (hmet : a.Met) (hmoved : (a.coord.moved p).Sound) (hp : p ≠ .rejoin)
    (hq : p ≠ .quietWait) (he : p ≠ .energizing) (hstage : p.inRestart → 1 ≤ a.seq.stage.code) : (a.setPhase v p).Live v := by
  refine ⟨h.setPhase hmoved hp hq, ?_, .inl ?_, (a.setPhase_met_iff v p).2 hmet⟩
  · rw [Actors.setPhase_phase, Actors.setPhase_stage]
    exact hstage
  · rw [Actors.setPhase_coord]
    exact h.coord.moved_step he

/-- Entry to QUIET_WAIT starts the quiet time where the detector is in CALM (R153). -/
theorem Actors.Running.enterQuietWait (h : a.Running v) (hmet : a.Met) (hstage : 1 ≤ a.seq.stage.code) :
    (a.enterQuietWait v).Live v := by
  obtain ⟨hfast, hdown⟩ := h.judged_setPhase .quietWait
  have hseq := a.setPhase_seq v .quietWait
  have hmoved := h.coord.moved_aside (p := .quietWait) rfl
  have hphase := a.coord.moved_phase .quietWait
  unfold Actors.enterQuietWait Actors.restartWait
  refine ⟨⟨by rw [Actors.withCoord_seq, hseq]; exact h.hold, ?_, ?_, by rw [Actors.withCoord_seq, hseq]; exact h.safe,
    by rw [Actors.withCoord_seq, hseq]; exact h.grace, hfast, hdown, fun _ => ?_⟩,
    fun _ => by rw [Actors.withCoord_seq, hseq]; exact hstage, .inl ?_, (a.setPhase_met_iff v .quietWait).2 hmet⟩
  · rw [Actors.withCoord_coord, Actors.setPhase_phase]
    decide
  · rw [Actors.withCoord_coord, Actors.setPhase_coord]
    exact hmoved.withQuietStart hphase _
  · rw [Actors.withCoord_coord]
    by_cases hcalm : v.assessor.detector = .calm <;> simp [hcalm]
  · rw [Actors.withCoord_coord, Actors.setPhase_coord]
    exact h.coord.moved_step (by decide)

/-! ### Raising (R100 to R102) -/

/-- The zone brought up to the stage it holds (R113). -/
theorem Actors.Live.bringUp (h : a.Live v) : (a.bringUp v a.seq.stage).Live v :=
  h.asksAt (a.asks_bringUp v _) id id

theorem Actors.Running.abort (h : a.Running v) (hmet : a.Met) (hstage : 1 ≤ a.seq.stage.code) : (a.abort v).Live v :=
  (h.enterQuietWait hmet hstage).bringUp

theorem Actors.Running.onRise (h : a.Running v) (hmet : a.Met) (hstage : 1 ≤ a.seq.stage.code) (new : Stage) :
    (a.onRise v new).Live v := by
  unfold Actors.onRise
  cases hphase : a.coord.phase with
  | none =>
    dsimp only
    split
    · exact h.enterQuietWait hmet hstage
    · exact ⟨h, fun _ => hstage, .inl (h.step_none (by rw [hphase]; decide)), hmet⟩
  | quietWait | awaitPermit | bidding | contest | backoff => exact h.enterQuietWait hmet hstage
  | energizing => exact h.abort hmet hstage
  | rejoin => exact absurd hphase h.phase

/-- The stage raised and the zone brought up to it: the grace has begun where the stage calls for one. -/
theorem Actors.Running.raised (h : a.Running v) {new : Stage} (hnew : a.seq.stage.code < new.code) :
    ((a.setStage v new).bringUp v new).Running v := by
  have k := (a.setStage v new).asks_bringUp v new
  obtain ⟨hfast, hdown⟩ := (a.withSeq { a.seq with stage := new }).judge_judged v
  generalize (a.setStage v new).bringUp v new = b at k
  have hc : b.coord = a.coord := k.coord
  have hstage : b.seq.stage = new := by rw [k.seq]; rfl
  have hhold : b.seq.rejoinHold = false := by rw [k.seq]; exact h.hold
  refine ⟨hhold, by rw [hc]; exact h.phase, by rw [hc]; exact h.coord, fun hb => ?_, ?_, ?_, ?_, ?_⟩
  · rw [hstage]
    refine (k.wait hb).elim (fun hw => ?_) id
    have hsafe := h.safe hw
    rw [hsafe] at hnew
    cases new <;> simp [Stage.code] at hnew
  · rw [k.grace, hstage]
    refine or_iff_right_of_imp fun hg => ?_
    have := h.grace.1 hg
    omega
  · rw [k.fast]
    refine hfast.trans ?_
    rw [Actors.wantsFast, Actors.wantsFast, hc, hstage]
    rfl
  · rw [k.seq]
    refine hdown.trans ?_
    rw [Actors.wantsStandDown, Actors.wantsStandDown, hc, hstage, hhold]
    simp [h.hold]
  · rw [hc]
    exact h.quiet

/-- A raise to the demand (R100). -/
theorem Actors.Running.raise (h : a.Running v) (hnew : a.seq.stage.code < a.seq.demand.code) :
    (a.raise v a.seq.demand).Live v := by
  have k := (a.setStage v a.seq.demand).asks_bringUp v a.seq.demand
  have hmet : ((a.setStage v a.seq.demand).bringUp v a.seq.demand).Met := k.met_iff.2 le_rfl
  have hstage : 1 ≤ ((a.setStage v a.seq.demand).bringUp v a.seq.demand).seq.stage.code := by
    rw [k.seq]
    show 1 ≤ a.seq.demand.code
    omega
  have hurgent := Actors.asks_urgent ((a.setStage v a.seq.demand).bringUp v a.seq.demand) v
  refine Actors.Running.onRise ((h.raised hnew).asks hurgent) (hurgent.met_iff.2 hmet) ?_ _
  rw [Actors.urgent_seq]
  exact hstage

/-- The comparison raises the stage to a demand above it, whatever it was before (R100). -/
theorem Actors.Running.compare_cases (h : a.Running v) : (a.compare v).Live v ∨ (a.compare v = a ∧ a.Met) := by
  unfold Actors.compare
  rw [if_neg (by rw [h.hold]; decide)]
  split
  · next hnew => exact .inl (h.raise hnew)
  · next hle => exact .inr ⟨rfl, Nat.not_lt.1 hle⟩

theorem Actors.Running.compare (h : a.Running v) (hrestart : a.coord.phase.inRestart → 1 ≤ a.seq.stage.code)
    (hfits : a.Fits) : (a.compare v).Live v := by
  obtain hlive | ⟨heq, hmet⟩ := h.compare_cases
  · exact hlive
  · rw [heq]
    exact ⟨h, hrestart, hfits, hmet⟩

/-- Target and floor may be set to anything; the comparison follows. -/
theorem Actors.Live.compare_withSeq (h : a.Live v) (q : Sequencer)
    (hq : q = { a.seq with floor := q.floor, target := q.target }) : ((a.withSeq q).compare v).Live v := by
  have hstage : q.stage = a.seq.stage := by rw [hq]
  refine Actors.Running.compare ⟨by rw [Actors.withSeq_seq, hq]; exact h.hold, h.phase, h.coord,
    by rw [Actors.withSeq_seq, hq]; exact h.safe, by rw [Actors.withSeq_seq, hq]; exact h.grace, ?_, ?_, h.quiet⟩ ?_ ?_
  · rw [Actors.withSeq_line, h.fast, Actors.wantsFast, Actors.wantsFast, Actors.withSeq_seq, hstage]
    rfl
  · rw [Actors.withSeq_seq, Actors.wantsStandDown, Actors.withSeq_seq, hq]
    exact h.down
  · rw [Actors.withSeq_seq, hstage]
    exact h.restart
  · have hfits := h.fits
    unfold Actors.Fits at hfits ⊢
    rwa [Actors.withSeq_seq, hstage]

theorem Actors.Live.stage_pos (h : a.Live v) (hphase : a.coord.phase.inRestart = true) : 1 ≤ a.seq.stage.code :=
  h.restart hphase

theorem Actors.Live.enterQuietWait (h : a.Live v) (hphase : a.coord.phase.inRestart = true) : (a.enterQuietWait v).Live v :=
  h.toRunning.enterQuietWait h.met (h.restart hphase)

theorem Actors.Live.abort (h : a.Live v) (hphase : a.coord.phase.inRestart = true) : (a.abort v).Live v :=
  h.toRunning.abort h.met (h.restart hphase)

theorem Actors.Live.onTrip (h : a.Live v) : (a.onTrip v).Live v := by
  unfold Actors.onTrip
  cases hphase : a.coord.phase with
  | quietWait | awaitPermit | bidding | contest | backoff => exact h.enterQuietWait (by rw [hphase]; rfl)
  | energizing => exact h.abort (by rw [hphase]; rfl)
  | none | rejoin => exact h

theorem Actors.Live.tripTo (h : a.Live v) (stage : Stage) : (a.tripTo v stage).Live v :=
  (h.compare_withSeq _ rfl).onTrip

theorem Actors.Live.consoleTrip (h : a.Live v) (stage : Stage) : (a.consoleTrip v stage).Live v := by
  unfold Actors.consoleTrip
  dsimp only
  split
  · exact (h.tripTo stage).asks (Actors.asks_endGrace _ v)
  · exact h.tripTo stage

/-! ### Leave to restart, turn-taking, stops (08, sections 8.3 to 8.7) -/

theorem Actors.Live.setPhase (h : a.Live v) (hmoved : (a.coord.moved p).Sound) (hp : p ≠ .rejoin)
    (hq : p ≠ .quietWait) (he : p ≠ .energizing) (hphase : p.inRestart → a.coord.phase.inRestart) : (a.setPhase v p).Live v :=
  h.toRunning.live_setPhase h.met hmoved hp hq he fun hr => h.restart (hphase hr)

theorem Actors.Live.enterBidding (h : a.Live v) (hphase : a.coord.phase.inRestart = true) (hturn : a.coord.phase.inTurn = false) :
    (a.enterBidding v).Live v :=
  (h.setPhase (p := .bidding) (h.coord.moved_bidding hturn) (by decide) (by decide) (by decide) fun _ => hphase).asks
    (Actors.asks_request _ v .bid)

theorem Actors.Live.checkAuthority (h : a.Live v) : (a.checkAuthority v).Live v := by
  unfold Actors.checkAuthority
  split
  · next hauth =>
    have hphase : a.coord.phase = .awaitPermit := by simp_all
    exact h.enterBidding (by rw [hphase]; rfl) (by rw [hphase]; rfl)
  · exact h

theorem Actors.Live.enterAwaitPermit (h : a.Live v) (hphase : a.coord.phase.inRestart = true) :
    (a.enterAwaitPermit v).Live v :=
  (h.setPhase (p := .awaitPermit) (h.coord.moved_aside rfl) (by decide) (by decide) (by decide) fun _ => hphase).checkAuthority

theorem Actors.Live.endStagger (h : a.Live v) (hphase : a.coord.phase = .backoff) : (a.endStagger v).Live v := by
  unfold Actors.endStagger
  split
  · exact h.enterBidding (by rw [hphase]; rfl) (by rw [hphase]; rfl)
  · exact h.enterAwaitPermit (by rw [hphase]; rfl)

/-- The coordinator's marks changed within its phase. -/
theorem Actors.Live.withCoord (h : a.Live v) (c : Coordinator) (hc : c.Sound) (hphase : c.phase = a.coord.phase)
    (hstep : c.step = a.coord.step) (hquiet : c.quietStart = a.coord.quietStart) : (a.withCoord c).Live v := by
  have hfits := h.fits
  refine ⟨⟨h.hold, by rw [Actors.withCoord_coord, hphase]; exact h.phase, hc, h.safe, h.grace, ?_, ?_, ?_⟩, ?_, ?_, h.met⟩
  · rw [Actors.withCoord_line, h.fast, Actors.wantsFast, Actors.wantsFast, Actors.withCoord_coord, hphase]
    rfl
  · rw [Actors.withCoord_seq, h.down, Actors.wantsStandDown, Actors.wantsStandDown, Actors.withCoord_coord, hphase]
    rfl
  · rw [Actors.withCoord_coord, hphase, hquiet]
    exact h.quiet
  · rw [Actors.withCoord_coord, hphase]
    exact h.restart
  · unfold Actors.Fits at hfits ⊢
    rwa [Actors.withCoord_coord, hstep]

end Sys2Proof.Machine
end

section
/-! PROOFS. Outside the rejoin hold, continued: turn-taking, stops, the energizing steps and the driver's reports. -/

namespace Sys2Proof.Machine

variable {a b : Actors} {v : View}

/-! ### Turn-taking (08, sections 8.4 to 8.6) -/

theorem Actors.Live.compareBackoff (h : a.Live v) : (a.compareBackoff v).Live v := by
  unfold Actors.compareBackoff
  split
  · exact h
  · next hphase =>
    have hback : a.coord.phase = .backoff := by simpa using hphase
    have hsound := h.coord
    split
    · exact h.withCoord _ (by simp_all [Coordinator.Sound]) rfl rfl rfl
    · split
      · exact h
      · split
        · exact h.endStagger hback
        · exact h.withCoord _ (by simp_all [Coordinator.Sound]) rfl rfl rfl

theorem Actors.Live.enterBackoff (h : a.Live v) (hphase : a.coord.phase.inRestart = true) : (a.enterBackoff v).Live v :=
  (h.setPhase (p := .backoff) (h.coord.moved_aside rfl) (by decide) (by decide) (by decide) fun _ => hphase).compareBackoff

theorem Actors.Live.endBidWindow (h : a.Live v) (hphase : a.coord.phase = .bidding) : (a.endBidWindow v).Live v := by
  unfold Actors.endBidWindow
  have hsound := h.coord
  dsimp only
  split
  · exact h.enterBackoff (by rw [hphase]; rfl)
  · split
    · refine Actors.Live.asks ?_ (Actors.asks_request _ v .claim)
      exact h.withCoord _ (by simp_all [Coordinator.Sound, Phase.inTurn]) rfl rfl rfl
    · exact h.enterBackoff (by rw [hphase]; rfl)

theorem Actors.Live.onClaim (h : a.Live v) (key : Nat) : (a.onClaim v key).Live v := by
  unfold Actors.onClaim
  dsimp only
  split
  · next hyield =>
    refine h.enterBackoff ?_
    simp only [Bool.and_eq_true, Bool.or_eq_true, decide_eq_true_eq] at hyield
    obtain ⟨⟨hphase | ⟨hphase, -⟩, -⟩, -⟩ := hyield <;> rw [hphase] <;> rfl
  · exact h

/-- CONTEST begins with the CLAIM sent (R161). -/
theorem Actors.Live.enterContest (h : a.Live v) (hphase : a.coord.phase = .bidding) (hpending : a.coord.claimPending = true)
    (x : Stamp) : ((a.setPhase v .contest).withCoord { (a.setPhase v .contest).coord with
      claimPending := false, contest := some x }).Live v := by
  obtain ⟨hfast, hdown⟩ := h.toRunning.judged_setPhase .contest
  have hseq := a.setPhase_seq v .contest
  refine ⟨⟨by rw [Actors.withCoord_seq, hseq]; exact h.hold, ?_, ?_, by rw [Actors.withCoord_seq, hseq]; exact h.safe,
    by rw [Actors.withCoord_seq, hseq]; exact h.grace, hfast, hdown, fun hq => ?_⟩, fun _ => ?_, .inl ?_,
    (a.setPhase_met_iff v .contest).2 h.met⟩
  · show (a.setPhase v .contest).coord.phase ≠ .rejoin
    rw [Actors.setPhase_phase]
    decide
  · rw [Actors.withCoord_coord, Actors.setPhase_coord]
    exact h.coord.moved_contest hphase hpending x
  · exact absurd ((a.setPhase_phase v .contest).symm.trans hq) (by decide)
  · rw [Actors.withCoord_seq, hseq]
    exact h.restart (by rw [hphase]; rfl)
  · rw [Actors.withCoord_coord, Actors.setPhase_coord]
    exact h.coord.moved_step (by decide)

theorem Actors.Live.onSent (h : a.Live v) (k : RestartKind) : (a.onSent v k).Live v := by
  have hsound := h.coord
  cases k with
  | bid =>
    unfold Actors.onSent
    dsimp only
    split
    · exact h.withCoord _ (by simp_all [Coordinator.Sound]) rfl rfl rfl
    · exact h
  | claim =>
    unfold Actors.onSent
    dsimp only
    split
    · next hdue =>
      simp only [Bool.and_eq_true, decide_eq_true_eq] at hdue
      exact h.enterContest hdue.1 hdue.2 _
    · exact h
  | yield | done => exact h

/-! ### HOLD, mute, fault, key (R155, R156, R166, R173, R174) -/

/-- Permit and key mark are nobody's condition. -/
theorem Actors.Live.withLeave (h : a.Live v) (permit keyWithheld : Bool) :
    (a.withCoord { a.coord with permit := permit, keyWithheld := keyWithheld }).Live v :=
  h.withCoord _ h.coord rfl rfl rfl

theorem Actors.Live.stop (h : a.Live v) (hphase : a.coord.phase = .energizing) : (a.stop v).Live v :=
  (h.withLeave _ _).enterAwaitPermit (by rw [Actors.withCoord_coord, hphase]; rfl)

theorem Actors.Live.onMute (h : a.Live v) : (a.onMute v).Live v := by
  unfold Actors.onMute
  cases hphase : a.coord.phase with
  | bidding | backoff => exact h.enterAwaitPermit (by rw [hphase]; rfl)
  | none | quietWait | awaitPermit | contest | energizing | rejoin => exact h

theorem Actors.Live.onFault (h : a.Live v) : (a.onFault v).Live v := by
  unfold Actors.onFault
  cases hphase : a.coord.phase with
  | bidding | contest | backoff => exact h.enterAwaitPermit (by rw [hphase]; rfl)
  | energizing => exact h.stop hphase
  | none | quietWait | awaitPermit | rejoin => exact h

theorem Actors.Live.onHold (h : a.Live v) : (a.onHold v).Live v := by
  have hleave := h.withLeave false (a.coord.keyWithheld || v.keyTurned)
  have hcoord := hleave.coord
  unfold Actors.onHold
  dsimp only
  generalize a.withCoord { a.coord with permit := false, keyWithheld := a.coord.keyWithheld || v.keyTurned } = c at *
  cases hphase : c.coord.phase with
  | bidding | contest | backoff => exact hleave.enterAwaitPermit (by rw [hphase]; rfl)
  | energizing =>
    dsimp only
    split
    · exact hleave.withCoord _ (by simp_all [Coordinator.Sound]) hphase.symm rfl rfl
    · exact hleave.enterAwaitPermit (by rw [hphase]; rfl)
  | none | quietWait | awaitPermit | rejoin => exact hleave

theorem Actors.Live.onResume (h : a.Live v) : (a.onResume v).Live v := by
  have hsound := h.coord
  have hleave : (a.withCoord { a.coord with permit := true, holdPending := false }).Live v :=
    h.withCoord _ (by simp_all [Coordinator.Sound]) rfl rfl rfl
  unfold Actors.onResume
  dsimp only
  refine Actors.Live.checkAuthority ?_
  split
  · exact hleave.asks (Actors.asks_urgent _ v)
  · exact hleave

theorem Actors.Live.onKey (h : a.Live v) (active : Bool) : (a.onKey v active).Live v := by
  unfold Actors.onKey
  split
  · exact h.checkAuthority
  · exact h.withCoord _ h.coord rfl rfl rfl

/-! ### The energizing steps (08, section 8.8) -/

/-- A step set in ENERGIZING. -/
theorem Actors.Running.inStep (h : a.Running v) (hphase : a.coord.phase = .energizing) (step : EnergizeStep) :
    (a.inStep step).Running v := by
  have hsound := h.coord
  exact ⟨h.hold, h.phase, by simp_all [Coordinator.Sound, Actors.inStep], h.safe, h.grace, h.fast, h.down, h.quiet⟩

theorem Actors.Live.inStep (h : a.Live v) (hphase : a.coord.phase = .energizing) {step : EnergizeStep}
    (hstep : step = .none ∨ step.stage? = some a.seq.stage) : (a.inStep step).Live v :=
  ⟨h.toRunning.inStep hphase step, h.restart, hstep, h.met⟩

theorem Stage.lowered_code (s : Stage) : s.lowered.code = s.code - 1 := by cases s <;> rfl

/-- The stage lowered and judged, before the comparison. -/
theorem Actors.Running.lowered (h : a.Running v) :
    (((a.withSeq { a.seq with
        safeWait := a.seq.safeWait && a.seq.stage.lowered = .safe
        grace := if a.seq.stage.lowered.code < 3 then .none else a.seq.grace }).setStage v a.seq.stage.lowered).urgent v).Running
      v := by
  have hcode := a.seq.stage.lowered_code
  refine Actors.Running.asks ?_ (Actors.asks_urgent _ v)
  refine ⟨h.hold, h.phase, h.coord, fun hs => ?_, ?_, ?_, ?_, h.quiet⟩
  · have hwait : (a.seq.safeWait && decide (a.seq.stage.lowered = .safe)) = true := hs
    simp only [Bool.and_eq_true, decide_eq_true_eq] at hwait
    exact hwait.2
  · show (if a.seq.stage.lowered.code < 3 then Grace.none else a.seq.grace) ≠ .none ↔ 3 ≤ a.seq.stage.lowered.code
    split
    · next hlow => simp; omega
    · next hhigh =>
      rw [h.grace]
      omega
  · exact (Actors.judge_judged _ v).1
  · exact (Actors.judge_judged _ v).2

/-- A stage lowered (R112): the relations hold after it, or WATCH was reached in a restart phase that is still to be left. -/
theorem Actors.Running.lower_cases (h : a.Running v) (hstep : a.coord.step = .none) :
    (a.lower v).Live v
      ∨ (a.seq.stage.lowered = .watch ∧ (a.lower v).Running v ∧ (a.lower v).Met ∧ (a.lower v).coord = a.coord) := by
  have hlow := h.lowered
  unfold Actors.lower
  dsimp only
  obtain hlive | ⟨heq, hmet⟩ := hlow.compare_cases
  · exact .inl hlive
  · rw [heq]
    by_cases hwatch : a.seq.stage.lowered = .watch
    · exact .inr ⟨hwatch, hlow, hmet, rfl⟩
    · refine .inl ⟨hlow, fun _ => ?_, .inl hstep, hmet⟩
      show 1 ≤ a.seq.stage.lowered.code
      generalize a.seq.stage.lowered = s at hwatch
      cases s with
      | watch => exact absurd rfl hwatch
      | alert | quiesce | isolate | safe => simp [Stage.code]

/-- A change of phase together with a change of marks that are sound only after it. -/
theorem Actors.Running.setPhase_withCoord (h : a.Running v) (c : Coordinator) (hc : c.phase = a.coord.phase) {p : Phase}
    (hmoved : (c.moved p).Sound) (hp : p ≠ .rejoin) (hq : p ≠ .quietWait) : ((a.withCoord c).setPhase v p).Running v := by
  have hjudged : ((a.withCoord c).setPhase v p).line.fast = ((a.withCoord c).setPhase v p).wantsFast v
      ∧ ((a.withCoord c).setPhase v p).seq.standDown.isSome = ((a.withCoord c).setPhase v p).wantsStandDown v := by
    unfold Actors.setPhase
    split
    · have hfast := h.fast
      have hdown := h.down
      unfold Actors.wantsFast at hfast ⊢
      unfold Actors.wantsStandDown at hdown ⊢
      rw [Actors.withCoord_coord, hc]
      exact ⟨hfast, hdown⟩
    · dsimp only
      generalize Actors.withCoord _ (Coordinator.enter _ _) = c
      obtain ⟨hf, hd⟩ := c.judge_judged v
      exact ⟨(LineUnit.urgent_fast ..).trans hf, hd⟩
  have hseq := (a.withCoord c).setPhase_seq v p
  refine ⟨by rw [hseq]; exact h.hold, by rwa [Actors.setPhase_phase], by rwa [Actors.setPhase_coord], by rw [hseq]; exact h.safe,
    by rw [hseq]; exact h.grace, hjudged.1, hjudged.2, fun hphase => ?_⟩
  rw [Actors.setPhase_phase] at hphase
  exact absurd hphase hq

/-- The turn ends in NONE, the stage being what it may (R171). -/
theorem Actors.Running.endTurn (h : a.Running v) (hmet : a.Met) (hphase : a.coord.phase = .energizing) :
    (a.endTurn v).Live v := by
  have hdone := h.asks (a.asks_request v .done)
  have heq : a.endTurn v = ((a.request v .done).withCoord { a.coord with
      permit := false, keyWithheld := a.coord.keyWithheld || v.keyTurned, claimOutstanding := false }).setPhase v .none := rfl
  rw [heq]
  have hmoved := h.coord.moved_none hphase false (a.coord.keyWithheld || v.keyTurned)
  refine ⟨hdone.setPhase_withCoord { a.coord with
      permit := false, keyWithheld := a.coord.keyWithheld || v.keyTurned, claimOutstanding := false } rfl hmoved (by decide)
    (by decide), fun hr => ?_, .inl ?_,
    (Actors.setPhase_met_iff _ v .none).2 hmet⟩
  · rw [Actors.setPhase_phase] at hr
    cases hr
  · rw [Actors.setPhase_coord]
    exact hmoved.1.mt (by rw [Coordinator.moved_phase]; decide) |> Decidable.not_not.1

/-- Step D at T = 0 (R171). -/
theorem Actors.Live.runD (h : a.Live v) (hphase : a.coord.phase = .energizing) : (a.runD v).Live v := by
  rw [Actors.runD_eq]
  have hrel : (a.released .advise .lift).Live v := h.asks (a.asks_withDrv _)
  split
  · have hstep := hrel.toRunning.inStep hphase .none
    obtain hlive | ⟨-, hrun, hmet, hcoord⟩ := hstep.lower_cases rfl
    · split
      · next hen => exact hlive.toRunning.endTurn hlive.met hen
      · exact hlive
    · have hen : (((a.released .advise .lift).inStep .none).lower v).coord.phase = .energizing := by
        rw [hcoord]
        exact hphase
      rw [if_pos hen]
      exact hrun.endTurn hmet hen
  · exact hrel.stop hphase

theorem Actors.Live.beginD (h : a.Live v) (hphase : a.coord.phase = .energizing) (hstage : a.seq.stage = .alert) :
    (a.beginD v).Live v := by
  unfold Actors.beginD
  split
  · exact h.runD hphase
  · exact h.inStep hphase (.inr (by rw [hstage]; rfl))

theorem Actors.Live.beginC (h : a.Live v) (hphase : a.coord.phase = .energizing) (hstage : a.seq.stage = .quiesce) :
    (a.beginC v).Live v := by
  rw [Actors.beginC_eq]
  have hrel : (a.released .freeze .haltreq).Live v := h.asks (a.asks_withDrv _)
  split
  · exact hrel.inStep hphase (.inr (congrArg some hstage.symm))
  · exact hrel.stop hphase

theorem Actors.Live.settleIfClosed (h : a.Live v) : (a.settleIfClosed v).Live v := by
  unfold Actors.settleIfClosed
  split
  · next hstep =>
    have hfits := h.fits
    unfold Actors.Fits at hfits
    rw [hstep] at hfits
    exact h.inStep (h.coord.1 (by rw [hstep]; exact EnergizeStep.noConfusion)) (.inr (hfits.resolve_left EnergizeStep.noConfusion))
  · exact h

theorem Actors.Live.drivenStep (h : a.Live v) (hphase : a.coord.phase = .energizing) (d : Driver) {step : EnergizeStep}
    (hstep : step.stage? = some a.seq.stage) : ((a.withDrv d).inStep step).Live v :=
  Actors.Live.inStep (h.asks (a.asks_withDrv d)) hphase (.inr hstep)

/-- A step begun runs at the stage it finds; one that completes at once leaves a stage to be lowered. -/
theorem Actors.Live.beginStep (h : a.Live v) (hphase : a.coord.phase = .energizing) :
    (a.beginStep v).1.Live v
      ∧ ((a.beginStep v).2 = true → (a.beginStep v).1.coord.phase = .energizing ∧ (a.beginStep v).1.seq.stage.lowered ≠ .watch) := by
  unfold Actors.beginStep
  cases hstage : a.seq.stage with
  | safe =>
    refine ⟨?_, fun _ => ⟨hphase, ?_⟩⟩
    · exact h.drivenStep hphase _ (congrArg some hstage.symm)
    · show a.seq.stage.lowered ≠ .watch
      rw [hstage]
      decide
  | isolate =>
    dsimp only
    unfold Actors.beginB
    dsimp only
    split
    · exact ⟨h, fun _ => ⟨hphase, by rw [hstage]; decide⟩⟩
    · exact ⟨(h.drivenStep (step := .b _ _) hphase _ (congrArg some hstage.symm)).settleIfClosed, fun hf => nomatch hf⟩
  | quiesce => exact ⟨h.beginC hphase hstage, fun hf => nomatch hf⟩
  | alert => exact ⟨h.beginD hphase hstage, fun hf => nomatch hf⟩
  | watch => exact ⟨h.inStep hphase (.inl rfl), fun hf => nomatch hf⟩

/-- A completed step lowers its stage; what follows in ENERGIZING keeps the relations. -/
theorem Actors.Live.completeStep (h : a.Live v) (hphase : a.coord.phase = .energizing) (hlow : a.seq.stage.lowered ≠ .watch)
    (next : Actors → Actors) (hnext : ∀ b : Actors, b.Live v → b.coord.phase = .energizing → (next b).Live v) :
    (a.completeStep v next).Live v := by
  unfold Actors.completeStep
  dsimp only
  obtain hlive | ⟨hwatch, -⟩ := (h.toRunning.inStep hphase .none).lower_cases rfl
  · split
    · next hen =>
      split
      · exact hlive.enterAwaitPermit (by rw [hen]; rfl)
      · exact hnext _ hlive hen
    · exact hlive
  · exact absurd hwatch hlow

theorem Actors.Live.runSteps (n : Nat) (h : a.Live v) (hphase : a.coord.phase = .energizing) :
    (Actors.runSteps v n a).Live v := by
  induction n generalizing a with
  | zero => exact h
  | succ n ih =>
    obtain ⟨hlive, hdone⟩ := h.beginStep hphase
    unfold Actors.runSteps
    dsimp only
    split
    · next hcompletes =>
      obtain ⟨hen, hlow⟩ := hdone hcompletes
      exact hlive.completeStep hen hlow _ fun b hb hben => ih hb hben
    · exact hlive

/-- A step at QUIESCE or above that awaited something has completed. -/
theorem Actors.Live.stepDone (h : a.Live v) (stage : Stage) (hstep : a.coord.step.stage? = some stage)
    (hstage : stage.lowered ≠ .watch) : (a.stepDone v).Live v := by
  have hne : a.coord.step ≠ .none := fun hn => by rw [hn] at hstep; cases hstep
  have hat : stage = a.seq.stage := Option.some.inj (hstep.symm.trans (h.fits.resolve_left hne))
  exact h.completeStep (h.coord.1 hne) (hat ▸ hstage) _ fun b hb hen => hb.runSteps 4 hen

theorem Actors.Live.progress (h : a.Live v) : (a.progress v).Live v := by
  unfold Actors.progress
  split
  · next hstep => exact h.stepDone .safe (by rw [hstep]; rfl) (by decide)
  · exact h.settleIfClosed
  · exact h

/-! ### Entry to ENERGIZING (R163, R167) -/

/-- ENERGIZING is entered, its contest interval over and the trip floor cleared; the steps begin. -/
theorem Actors.Live.endContest (h : a.Live v) (hphase : a.coord.phase = .contest) : (a.endContest v).Live v := by
  have hmoved := h.coord.moved_energizing hphase
  have hrun := h.toRunning.setPhase_withCoord { a.coord with contest := none } rfl hmoved (by decide) (by decide)
  have hstage := Actors.setPhase_stage (a.withCoord { a.coord with contest := none }) v .energizing
  have hmet := (Actors.setPhase_met_iff (a.withCoord { a.coord with contest := none }) v .energizing).2 h.met
  have hnone : a.coord.step = .none := h.toRunning.step_none (by rw [hphase]; decide)
  have hstep : ((a.withCoord { a.coord with contest := none }).setPhase v .energizing).coord.step = .none := by
    rw [Actors.setPhase_coord]
    unfold Coordinator.moved
    simp [hphase, Phase.standsAside, Coordinator.enter, hnone]
  unfold Actors.endContest Actors.enterEnergizing
  dsimp only
  refine Actors.Live.runSteps 4 ?_ (Actors.setPhase_phase _ v .energizing)
  generalize (a.withCoord { a.coord with contest := none }).setPhase v .energizing = b at *
  refine ⟨⟨hrun.hold, hrun.phase, hrun.coord, hrun.safe, hrun.grace, hrun.fast, hrun.down, hrun.quiet⟩, fun _ => ?_, .inl hstep, ?_⟩
  · rw [Actors.withSeq_seq, hstage]
    exact h.restart (by rw [hphase]; rfl)
  · unfold Actors.Met Sequencer.demand at hmet ⊢
    rw [Stage.code_higher] at hmet ⊢
    exact (max_le_max le_rfl (Nat.zero_le _)).trans hmet

/-! ### The driver's reports (R138) -/

/-- A step that awaits one thing less. -/
theorem Actors.Live.awaits (h : a.Live v) {old new : EnergizeStep} (hold : a.coord.step = old) (hne : old ≠ .none)
    (hsame : new.stage? = old.stage?) : ((a.inStep new).progress v).Live v := by
  have hne' : a.coord.step ≠ .none := hold ▸ hne
  refine Actors.Live.progress (h.inStep (h.coord.1 hne') (.inr ?_))
  rw [hsame, ← hold]
  exact h.fits.resolve_left hne'

theorem Actors.Live.onReleased (h : a.Live v) (id : HoldId) : (a.onReleased v id).Live v := by
  unfold Actors.onReleased
  split
  · next hstep => exact h.awaits hstep EnergizeStep.noConfusion rfl
  · next hstep => exact h.awaits hstep EnergizeStep.noConfusion rfl
  · exact h

theorem Actors.Live.onClosed (h : a.Live v) (p : Pdu) : (a.onClosed v p).Live v := by
  unfold Actors.onClosed
  split
  · next hstep => exact h.awaits hstep EnergizeStep.noConfusion rfl
  · next hstep => exact h.awaits hstep EnergizeStep.noConfusion rfl
  · exact h

/-- A step under way that cannot go on stops the energizing (R173). -/
theorem Actors.Live.stopStep (h : a.Live v) {step : EnergizeStep} (hstep : a.coord.step = step) (hne : step ≠ .none) :
    (a.stop v).Live v := h.stop (h.coord.1 (hstep ▸ hne))

theorem Actors.Live.onReleaseFailed (h : a.Live v) (id : HoldId) : (a.onReleaseFailed v id).Live v := by
  unfold Actors.onReleaseFailed
  split
  · next hstep => exact h.stopStep hstep EnergizeStep.noConfusion
  · next hstep => exact h.stopStep hstep EnergizeStep.noConfusion
  · exact h

theorem Actors.Live.onCloseFailed (h : a.Live v) (p : Pdu) : (a.onCloseFailed v p).Live v := by
  unfold Actors.onCloseFailed
  split
  · next hstep => exact h.stopStep hstep EnergizeStep.noConfusion
  · next hstep => exact h.stopStep hstep EnergizeStep.noConfusion
  · exact h

theorem Actors.Live.report (h : a.Live v) (n : Notice) : (a.report v n).Live v := by
  cases n with
  | releaseConfirmed id => exact h.onReleased id
  | closeConfirmed p => exact h.onClosed p
  | releaseFailed id => exact h.onReleaseFailed id
  | closeFailed p => exact h.onCloseFailed p
  | tripOutcome p => exact h.asks (a.asks_hear v (.tripOutcome p))
  | failedFlag => exact h.asks (a.asks_hear v .failedFlag)
  | closeUnconfirmed p => exact h.asks (a.asks_hear v (.closeUnconfirmed p))
  | closeRefused p => exact h.asks (a.asks_hear v (.closeRefused p))
  | closeCut p => exact h.asks (a.asks_hear v (.closeCut p))
  | closeWithdrawn p => exact h.asks (a.asks_hear v (.closeWithdrawn p))
  | releaseUnconfirmed id => exact h.asks (a.asks_hear v (.releaseUnconfirmed id))

theorem Actors.Live.operate (h : a.Live v) (f : Driver → Driven) : (a.operate v f).Live v := by
  have hall : ∀ (ns : List Notice) (b : Actors), b.Live v → (ns.foldl (fun a n => a.report v n) b).Live v := by
    intro ns
    induction ns with
    | nil => exact fun b hb => hb
    | cons n ns ih => exact fun b hb => ih _ (hb.report n)
  exact hall _ _ (h.asks (a.asks_withDrv _))

/-! ### Forming T (R96), and what a change of the assessor sets off -/

theorem Actors.Live.onTarget (h : a.Live v) : (a.onTarget v).Live v := by
  unfold Actors.onTarget
  split
  · next hphase =>
    split
    · exact h.abort (by rw [hphase]; rfl)
    · split
      · exact h.runD hphase
      · exact h
  · exact h

theorem Actors.Live.cutByGrade (h : a.Live v) : (a.cutByGrade v).Live v := by
  unfold Actors.cutByGrade
  split
  · exact h.asks (a.asks_endGrace v)
  · exact h

theorem Actors.Live.formTarget (h : a.Live v) : (a.formTarget v).Live v := by
  unfold Actors.formTarget
  dsimp only
  rw [if_neg (by rw [Actors.withSeq_seq, h.hold]; decide)]
  exact (h.compare_withSeq _ rfl).cutByGrade.onTarget

theorem Actors.Live.onPeers (h : a.Live v) : (a.onPeers v).Live v := h.formTarget.compareBackoff

/-- What a view offers beside the detector state is no condition of the relations. -/
theorem Actors.Live.view (h : a.Live v) (w : View) (hw : w.assessor.detector = v.assessor.detector) : a.Live w := by
  have hfast := h.fast
  have hdown := h.down
  have hquiet := h.quiet
  unfold Actors.wantsFast at hfast
  unfold Actors.wantsStandDown at hdown
  rw [← hw] at hfast hdown hquiet
  exact ⟨⟨h.hold, h.phase, h.coord, h.safe, h.grace, hfast, hdown, hquiet⟩, h.restart, h.fits, h.met⟩

theorem Actors.noteAssessor_coord (a : Actors) (v : View) (old : Assessor) : (a.noteAssessor v old).coord = a.coord := by
  unfold Actors.noteAssessor
  dsimp only
  rw [Actors.withSeq_coord, Actors.judge_coord]
  split <;> rfl

/-- Once a new detector state is noted, all but the quiet start agrees with it (R68, R98, R114). -/
theorem Actors.Live.note {w : View} (h : a.Live v) (old : Assessor) (x : Option Stamp)
    (hx : a.coord.phase = .quietWait → (x.isSome ↔ w.assessor.detector = .calm)) (hphase : x.isSome → a.coord.phase = .quietWait) :
    ((a.noteAssessor w old).withCoord { a.coord with quietStart := x }).Live w := by
  obtain ⟨b, hb, hcoord, hseq⟩ : ∃ b : Actors, a.noteAssessor w old = (b.judge w).withSeq { (b.judge w).seq with
      solo := w.assessor.onset.map fun o => later o soloDelay } ∧ b.coord = a.coord ∧ b.seq = a.seq := by
    refine ⟨if old.reportable w.assessor then a.urgent w else a, rfl, ?_, ?_⟩ <;> split <;> rfl
  obtain ⟨hfast, hdown⟩ := b.judge_judged w
  have hsound : ({ a.coord with quietStart := x } : Coordinator).Sound := by
    obtain ⟨h₁, h₂, h₃, h₄, h₅, h₆, h₇, h₈, -⟩ := h.coord
    exact ⟨h₁, h₂, h₃, h₄, h₅, h₆, h₇, h₈, hphase⟩
  rw [hb, Actors.judge_seq, hseq]
  unfold Actors.wantsFast at hfast
  unfold Actors.wantsStandDown at hdown
  rw [hcoord, hseq] at hfast hdown
  exact ⟨⟨h.hold, h.phase, hsound, h.safe, h.grace, hfast, hdown, hx⟩, h.restart, h.fits, h.met⟩

theorem Actors.Live.onLeftCalm (h : a.Live v) : (a.onLeftCalm v).Live v := by
  unfold Actors.onLeftCalm
  cases hphase : a.coord.phase with
  | quietWait | awaitPermit | bidding | contest | backoff => exact h.enterQuietWait (by rw [hphase]; rfl)
  | none | energizing | rejoin => exact h

/-- A new detector state: cadence and stand-down are judged afresh, and the quiet wait follows (R68, R114, R154). -/
theorem Actors.Live.afterAssessor {w : View} (h : a.Live v) : (a.afterAssessor w v.assessor).Live w := by
  rw [Actors.afterAssessor_eq]
  refine Actors.Live.formTarget ?_
  have hcoord := a.noteAssessor_coord w v.assessor
  have hnote := fun x => h.note (w := w) v.assessor x
  rw [← hcoord] at hnote
  have hquiet := h.quiet
  rw [← hcoord] at hquiet
  have hmark : a.coord.quietStart.isSome → a.coord.phase = .quietWait := h.coord.2.2.2.2.2.2.2.2
  rw [← hcoord] at hmark
  generalize a.noteAssessor w v.assessor = b at *
  unfold Actors.followCalm
  by_cases hphase : b.coord.phase = .quietWait
  · split
    · have heq : b.onLeftCalm w = b.restartWait w := by
        unfold Actors.onLeftCalm Actors.enterQuietWait
        rw [hphase]
        show (b.setPhase w .quietWait).restartWait w = _
        rw [← hphase, Actors.setPhase_same]
      rw [heq]
      refine hnote _ (fun _ => ?_) fun _ => hphase
      by_cases hcalm : w.assessor.detector = .calm <;> simp [hcalm]
    · next hleft =>
      split
      · next hentered =>
        unfold Actors.onEnteredCalm
        rw [if_pos hphase]
        exact hnote _ (fun _ => by simp_all) fun _ => hphase
      · next hstays =>
        refine hnote b.coord.quietStart (fun hq => (hquiet hq).trans ?_) hmark
        simp only [Bool.and_eq_true, decide_eq_true_eq, not_and, not_not] at hleft hstays
        exact ⟨hleft, fun hw => by_contra fun hv => hstays hv hw⟩
  · have hb : b.Live w := hnote b.coord.quietStart (fun hq => absurd hq hphase) hmark
    split
    · exact hb.onLeftCalm
    · split
      · unfold Actors.onEnteredCalm
        rw [if_neg hphase]
        exact hb
      · exact hb

end Sys2Proof.Machine
end

section
/-! PROOFS. Under the rejoin hold the acting blocks stay at rest (R117, R120); and the relations between them, kept by each of
the calls the commands make. -/

namespace Sys2Proof.Machine

variable {a b : Actors} {v : View}

/-- No PULSE or HOLD channel has left its rest state (R120). -/
def Driver.AtRest (d : Driver) : Prop := (∀ id, (d.pulse id).state = .ready) ∧ ∀ id, (d.hold id).state = .off

/-- Sequencer, coordinator and driver under the rejoin hold. -/
structure Actors.Held (v : View) (a : Actors) : Prop where
  hold : a.seq.rejoinHold = true
  phase : a.coord.phase = .rejoin
  coord : a.coord.Sound
  stage : a.seq.stage = .watch
  grace : a.seq.grace = .none
  wait : a.seq.safeWait = false
  fast : a.line.fast = true
  down : a.seq.standDown = none
  rest : a.drv.AtRest

theorem Actors.Held.step (h : a.Held v) : a.coord.step = .none :=
  by_contra fun hs => absurd ((h.coord.1 hs).symm.trans h.phase) (by decide)

theorem Actors.Held.asks (h : a.Held v) (k : Actors.Asks False False a b) (hd : b.drv.AtRest) : b.Held v := by
  refine ⟨by rw [k.seq]; exact h.hold, by rw [k.coord]; exact h.phase, by rw [k.coord]; exact h.coord, by rw [k.seq]; exact h.stage,
    ?_, ?_, k.fast.trans h.fast, by rw [k.seq]; exact h.down, hd⟩
  · have hnone : ¬ b.seq.grace ≠ .none := fun hg => ((k.grace.1 hg).elim (fun ha => ha h.grace) id)
    exact not_not.1 hnone
  · refine Bool.eq_false_iff.2 fun hw => ?_
    have := (k.wait hw).resolve_right id
    rw [h.wait] at this
    cases this

theorem Actors.Held.hear_drv (h : a.Held v) (n : Notice) : (a.hear v n).drv = a.drv := by
  cases n with
  | tripOutcome p =>
    unfold Actors.hear Actors.tripOutcome
    dsimp only
    rw [h.wait]
    rfl
  | failedFlag | closeConfirmed | closeUnconfirmed | closeFailed | closeRefused | closeCut | closeWithdrawn | releaseConfirmed
  | releaseUnconfirmed | releaseFailed => rfl

theorem Actors.Held.hear (h : a.Held v) (n : Notice) : (a.hear v n).Held v :=
  h.asks (a.asks_hear v n) (by rw [h.hear_drv]; exact h.rest)

/-- With no step under way the coordinator passes every notice by. -/
theorem Actors.report_of_no_step (a : Actors) (v : View) (n : Notice) (h : a.coord.step = .none) : a.report v n = a.hear v n := by
  cases n with
  | releaseConfirmed id => simp only [Actors.report, Actors.onReleased, h, Actors.hear]
  | closeConfirmed p => simp only [Actors.report, Actors.onClosed, h, Actors.hear]
  | releaseFailed id => simp only [Actors.report, Actors.onReleaseFailed, h, Actors.hear]
  | closeFailed p => simp only [Actors.report, Actors.onCloseFailed, h, Actors.hear]
  | tripOutcome | failedFlag | closeUnconfirmed | closeRefused | closeCut | closeWithdrawn | releaseUnconfirmed => rfl

theorem Actors.Held.report (h : a.Held v) (n : Notice) : (a.report v n).Held v := by
  rw [a.report_of_no_step v n h.step]
  exact h.hear n

theorem Actors.Held.withDrv (h : a.Held v) (d : Driver) (hd : d.AtRest) : (a.withDrv d).Held v := h.asks (a.asks_withDrv d) hd

theorem Actors.Held.operate (h : a.Held v) (f : Driver → Driven) (hf : (f a.drv).1.AtRest) : (a.operate v f).Held v := by
  have hall : ∀ (ns : List Notice) (b : Actors), b.Held v → (ns.foldl (fun a n => a.report v n) b).Held v := by
    intro ns
    induction ns with
    | nil => exact fun b hb => hb
    | cons n ns ih => exact fun b hb => ih _ (hb.report n)
  exact hall _ _ (h.withDrv _ hf)

/-! ### The driver at rest -/

section
variable {d : Driver} (h : d.AtRest) (sc : Scanner) (now : Stamp) (energizing : Bool)

include h

theorem Driver.AtRest.setLevel (id : LevelId) (c : LevelChannel) : (d.setLevel id c).AtRest :=
  ⟨fun ch => by rw [Driver.pulse_setLevel]; exact h.1 ch, fun ch => by rw [Driver.hold_setLevel]; exact h.2 ch⟩

theorem Driver.AtRest.setPulse (id : PulseId) (c : PulseChannel) (hc : c.state = .ready) : (d.setPulse id c).AtRest := by
  refine ⟨fun ch => ?_, fun ch => by rw [Driver.hold_setPulse]; exact h.2 ch⟩
  rw [Driver.pulse_setPulse]
  split
  · exact hc
  · exact h.1 ch

theorem Driver.AtRest.setHold (id : HoldId) (c : HoldChannel) (hc : c.state = .off) : (d.setHold id c).AtRest := by
  refine ⟨fun ch => by rw [Driver.pulse_setHold]; exact h.1 ch, fun ch => ?_⟩
  rw [Driver.hold_setHold]
  split
  · exact hc
  · exact h.2 ch

theorem Driver.AtRest.holdInput (id : HoldId) (active : Bool) : (d.holdInput id active).1.AtRest := by
  unfold Driver.holdInput
  dsimp only
  rw [h.2 id]
  exact h

theorem Driver.AtRest.pduInput (p : Pdu) : (d.pduInput sc now energizing p).1.AtRest := by
  unfold Driver.pduInput
  simp only [Driven.next, h.1, reduceCtorEq, decide_false, Bool.false_and, Bool.false_eq_true, if_false]
  exact h

theorem Driver.AtRest.holdFault (id : HoldId) : (d.holdFault id).1.AtRest := by
  unfold Driver.holdFault
  dsimp only
  rw [h.2 id]
  exact h

theorem Driver.AtRest.pulseFault (id : PulseId) : (d.pulseFault id).1.AtRest := by
  unfold Driver.pulseFault
  rw [h.1 id]
  exact h

theorem Driver.AtRest.faultBegins : d.faultBegins.1.AtRest :=
  (((((h.pulseFault (.trip .a)).pulseFault (.trip .b)).holdFault .valve).holdFault .coolstop).pulseFault (.close .a)).pulseFault
    (.close .b)

theorem Driver.AtRest.judgeHold (id : HoldId) : (d.judgeHold sc id).1.AtRest := by
  unfold Driver.judgeHold
  dsimp only
  split
  · exact h
  · exact h.setHold id _ (h.2 id)

theorem Driver.AtRest.judgePulse (id : PulseId) : (d.judgePulse sc now energizing id).1.AtRest := by
  unfold Driver.judgePulse
  dsimp only
  split
  · exact h
  · rw [if_pos (by rw [h.1 id]; decide)]
    exact h.setPulse id _ (h.1 id)

theorem Driver.AtRest.faultEnds : (d.faultEnds sc now energizing).1.AtRest :=
  (((((h.judgePulse sc now energizing (.trip .a)).judgePulse sc now energizing (.trip .b)).judgeHold sc .valve).judgeHold sc
    .coolstop).judgePulse sc now energizing (.close .a)).judgePulse sc now energizing (.close .b)

/-- Nothing waits in the pulse queue of a driver at rest. -/
theorem Driver.AtRest.queue_empty (hgood : d.Good) : d.pulseQueue = [] := by
  refine List.eq_nil_iff_forall_not_mem.2 fun id hid => ?_
  have := (hgood.queued id).1 hid
  rw [h.1 id] at this
  cases this

end

/-! ### Calls under the rejoin hold -/

theorem Actors.Held.urgent (h : a.Held v) : (a.urgent v).Held v := h.asks (a.asks_urgent v) h.rest

theorem Actors.Held.withLine (h : a.Held v) (l : LineUnit) (hl : l.fast = a.line.fast) : (a.withLine l).Held v :=
  h.asks (a.asks_withLine l hl) h.rest

/-- In REJOIN no command of the coordinator's acts. -/
theorem Actors.checkAuthority_of_phase (a : Actors) (v : View) (h : a.coord.phase ≠ .awaitPermit) : a.checkAuthority v = a := by
  unfold Actors.checkAuthority
  rw [if_neg (by simp [h])]

theorem Actors.compareBackoff_of_phase (a : Actors) (v : View) (h : a.coord.phase ≠ .backoff) : a.compareBackoff v = a := if_pos h

theorem Actors.Held.checkAuthority (h : a.Held v) : (a.checkAuthority v).Held v := by
  rwa [a.checkAuthority_of_phase v (by rw [h.phase]; decide)]

theorem Actors.Held.compareBackoff (h : a.Held v) : (a.compareBackoff v).Held v := by
  rwa [a.compareBackoff_of_phase v (by rw [h.phase]; decide)]

theorem Actors.Held.onClaim (h : a.Held v) (key : Nat) : (a.onClaim v key).Held v := by
  unfold Actors.onClaim
  simp only [h.phase]
  exact h

theorem Actors.Held.onSent (h : a.Held v) (k : RestartKind) : (a.onSent v k).Held v := by
  unfold Actors.onSent
  cases k <;> simp only [h.phase] <;> exact h

theorem Actors.Held.onMute (h : a.Held v) : (a.onMute v).Held v := by
  unfold Actors.onMute
  rw [h.phase]
  exact h

theorem Actors.Held.onFault (h : a.Held v) : (a.onFault v).Held v := by
  unfold Actors.onFault
  rw [h.phase]
  exact h

/-- The coordinator's marks changed within REJOIN. -/
theorem Actors.Held.withCoord (h : a.Held v) (c : Coordinator) (hc : c.Sound) (hphase : c.phase = a.coord.phase) :
    (a.withCoord c).Held v :=
  ⟨h.hold, hphase.trans h.phase, hc, h.stage, h.grace, h.wait, h.fast, h.down, h.rest⟩

/-- Target, floor and solo delay are nobody's condition under the hold. -/
theorem Actors.Held.withSeq (h : a.Held v) (q : Sequencer)
    (hq : q = { a.seq with floor := q.floor, target := q.target, solo := q.solo }) : (a.withSeq q).Held v := by
  refine ⟨?_, h.phase, h.coord, ?_, ?_, ?_, h.fast, ?_, h.rest⟩ <;> rw [Actors.withSeq_seq, hq]
  · exact h.hold
  · exact h.stage
  · exact h.grace
  · exact h.wait
  · exact h.down

theorem Actors.Held.onHold (h : a.Held v) : (a.onHold v).Held v := by
  unfold Actors.onHold
  dsimp only
  rw [Actors.withCoord_coord]
  simp only [h.phase]
  exact h.withCoord _ (by have := h.coord; simp_all [Coordinator.Sound, h.phase]) h.phase.symm

theorem Actors.Held.onResume (h : a.Held v) : (a.onResume v).Held v := by
  have hsound := h.coord
  have hleave : (a.withCoord { a.coord with permit := true, holdPending := false }).Held v :=
    h.withCoord _ (by simp_all [Coordinator.Sound]) rfl
  unfold Actors.onResume
  dsimp only
  refine Actors.Held.checkAuthority ?_
  split
  · exact hleave.urgent
  · exact hleave

theorem Actors.Held.onKey (h : a.Held v) (active : Bool) : (a.onKey v active).Held v := by
  unfold Actors.onKey
  split
  · exact h.checkAuthority
  · exact h.withCoord _ h.coord rfl

theorem Actors.Held.endGrace (h : a.Held v) : (a.endGrace v).Held v := by
  unfold Actors.endGrace
  rw [h.grace]
  exact h

theorem Actors.Held.tripTo (h : a.Held v) (stage : Stage) : (a.tripTo v stage).Held v := by
  have hfloor := h.withSeq { a.seq with floor := a.seq.floor.higher stage } rfl
  unfold Actors.tripTo
  rw [Actors.compare_of_hold _ v hfloor.hold]
  unfold Actors.onTrip
  rw [hfloor.phase]
  exact hfloor

theorem Actors.Held.consoleTrip (h : a.Held v) (stage : Stage) : (a.consoleTrip v stage).Held v := by
  unfold Actors.consoleTrip
  dsimp only
  split
  · exact (h.tripTo stage).endGrace
  · exact h.tripTo stage

theorem Actors.Held.formTarget (h : a.Held v) : (a.formTarget v).Held v := by
  rw [a.formTarget_of_hold v h.hold]
  exact h.withSeq _ rfl

theorem Actors.Held.onPeers (h : a.Held v) : (a.onPeers v).Held v := h.formTarget.compareBackoff

theorem Actors.Held.view (h : a.Held v) (w : View) : a.Held w :=
  ⟨h.hold, h.phase, h.coord, h.stage, h.grace, h.wait, h.fast, h.down, h.rest⟩

theorem Actors.Held.judge (h : a.Held v) : (a.judge v).Held v := by
  obtain ⟨hfast, hdown⟩ := a.judge_judged v
  refine ⟨h.hold, h.phase, h.coord, h.stage, h.grace, h.wait, ?_, ?_, h.rest⟩
  · rw [hfast, Actors.wantsFast, h.phase]
    simp [Phase.isFast]
  · rw [Actors.wantsStandDown, h.hold] at hdown
    simpa using hdown

theorem Actors.Held.afterAssessor (h : a.Held v) (old : Assessor) : (a.afterAssessor v old).Held v := by
  rw [Actors.afterAssessor_eq]
  refine Actors.Held.formTarget ?_
  have hnote : (a.noteAssessor v old).Held v := by
    unfold Actors.noteAssessor
    dsimp only
    split
    · exact h.urgent.judge.withSeq _ rfl
    · exact h.judge.withSeq _ rfl
  generalize a.noteAssessor v old = b at *
  unfold Actors.followCalm Actors.onLeftCalm Actors.onEnteredCalm
  simp only [hnote.phase]
  split
  · exact hnote
  · split <;> exact hnote

end Sys2Proof.Machine
end

section
/-! PROOFS. Every step keeps the whole state sound: the relations between the acting blocks, carried through every command. -/

namespace Sys2Proof.Machine

/-! ### The acting blocks against what they see -/

/-- The rejoin hold as told, the driver, the relations under the hold or outside it, the solo delay and the held target. -/
structure Actors.Whole (v : View) (rejoining : Bool) (a : Actors) : Prop where
  hold : a.seq.rejoinHold = rejoining
  good : a.drv.Good
  close : a.CloseSound
  sane : a.Held v ∨ a.Live v
  solo : a.seq.solo = v.assessor.onset.map fun onset => later onset soloDelay
  target : v.assessor.detector = .calm → a.seq.target = .watch

variable {a b : Actors} {v : View} {r : Bool}

/-- A call that keeps the relations in both regimes. -/
theorem Actors.Whole.call (h : a.Whole v r) (ht : a.Touch v b) (hheld : a.Held v → b.Held v) (hlive : a.Live v → b.Live v) :
    b.Whole v r where
  hold := ht.rejoinHold.trans h.hold
  good := ht.drv.good h.good
  close := ht.close h.close
  sane := h.sane.imp hheld hlive
  solo := ht.solo.trans h.solo
  target hc := ht.target.trans (h.target hc)

theorem Actors.Whole.urgent (h : a.Whole v r) : (a.urgent v).Whole v r :=
  h.call (a.reach_urgent v).toTouch (fun k => k.urgent) fun k => k.asks (a.asks_urgent v)

/-- The Line Unit replaced, its cadence kept. -/
theorem Actors.Whole.withLine (h : a.Whole v r) (l : LineUnit) (hl : l.fast = a.line.fast) : (a.withLine l).Whole v r :=
  ⟨h.hold, h.good, h.close, h.sane.imp (fun k => k.withLine l hl) fun k => k.asks (a.asks_withLine l hl), h.solo, h.target⟩

theorem Actors.Whole.checkAuthority (h : a.Whole v r) : (a.checkAuthority v).Whole v r :=
  h.call (a.reach_checkAuthority v).toTouch (fun k => k.checkAuthority) fun k => k.checkAuthority

theorem Actors.Whole.operate (h : a.Whole v r) (f : Driver → Driven) (hf : a.drv.Moves a.energizing (f a.drv).1)
    (hrest : a.drv.AtRest → (f a.drv).1.AtRest) : (a.operate v f).Whole v r :=
  h.call (a.reach_operate v f hf).toTouch (fun k => k.operate f (hrest k.rest)) fun k => k.operate f

theorem Actors.Whole.withDrv (h : a.Whole v r) (d : Driver) (hd : a.drv.Moves a.energizing d) (hrest : a.drv.AtRest → d.AtRest) :
    (a.withDrv d).Whole v r :=
  h.call (Actors.Reach.of_drv a v d hd).toTouch (fun k => k.withDrv d (hrest k.rest)) fun k => k.asks (a.asks_withDrv d)

/-- Target, floor and solo delay replaced first, a call is a call like the others. -/
theorem Actors.Whole.callFrom (h : a.Whole v r) (q : Sequencer) (ht : (a.withSeq q).Touch v b) (hheld : a.Held v → b.Held v)
    (hlive : a.Live v → b.Live v) (hsolo : q.solo = a.seq.solo) (hhold : q.rejoinHold = a.seq.rejoinHold)
    (htarget : v.assessor.detector = .calm → q.target = .watch) : b.Whole v r where
  hold := (ht.rejoinHold.trans hhold).trans h.hold
  good := ht.drv.good h.good
  close := ht.close h.close
  sane := h.sane.imp hheld hlive
  solo := (ht.solo.trans hsolo).trans h.solo
  target hc := ht.target.trans (htarget hc)

theorem Actors.Whole.formTarget (h : a.Whole v r) : (a.formTarget v).Whole v r :=
  h.callFrom { a.seq with target := Machine.target v } (a.reach_formTarget v).toTouch (fun k => k.formTarget)
    (fun k => k.formTarget) rfl rfl fun hc => target_of_calm hc

theorem Actors.Whole.compareBackoff (h : a.Whole v r) : (a.compareBackoff v).Whole v r :=
  h.call (a.reach_compareBackoff v).toTouch (fun k => k.compareBackoff) fun k => k.compareBackoff

theorem Actors.Whole.onPeers (h : a.Whole v r) : (a.onPeers v).Whole v r := h.formTarget.compareBackoff

theorem Actors.Whole.endGrace (h : a.Whole v r) : (a.endGrace v).Whole v r :=
  h.call (a.reach_endGrace v).toTouch (fun k => k.endGrace) fun k => k.asks (a.asks_endGrace v)

theorem Actors.Whole.tripTo (h : a.Whole v r) (stage : Stage) : (a.tripTo v stage).Whole v r :=
  h.callFrom _ (a.grows_tripTo v stage).toTouch (fun k => k.tripTo stage) (fun k => k.tripTo stage) rfl rfl h.target

theorem Actors.Whole.consoleTrip (h : a.Whole v r) (stage : Stage) : (a.consoleTrip v stage).Whole v r :=
  h.callFrom _ (a.reach_consoleTrip v stage).toTouch (fun k => k.consoleTrip stage) (fun k => k.consoleTrip stage) rfl rfl h.target

/-- The arbiter finds nothing under the rejoin hold. -/
theorem Actors.Whole.serve (h : a.Whole v r) : (a.serve v).Whole v r := by
  refine h.call (a.reach_serve v).toTouch (fun k => ?_) fun k => k.operate _
  rwa [a.serve_of_empty v (k.rest.queue_empty h.good)]

/-- What a view offers beside the assessor is no condition of the relations. -/
theorem Actors.Whole.view (h : a.Whole v r) (w : View) (hw : w.assessor = v.assessor) : a.Whole w r :=
  ⟨h.hold, h.good, h.close, h.sane.imp (fun k => k.view w) fun k => k.view w (by rw [hw]), by rw [hw]; exact h.solo,
    by rw [hw]; exact h.target⟩

/-- The acting blocks told of a new assessor. -/
theorem Actors.Whole.afterAssessor {w : View} (h : a.Whole v r) : (a.afterAssessor w v.assessor).Whole w r := by
  have hheed := (a.reach_noteAssessor w v.assessor).trans (Actors.reach_followCalm _ w v.assessor)
  have hform := Actors.reach_formTarget ((a.noteAssessor w v.assessor).followCalm w v.assessor) w
  rw [Actors.afterAssessor_eq]
  refine ⟨(hform.rejoinHold.trans hheed.rejoinHold).trans h.hold, hform.drv.good (hheed.drv.good h.good), hform.close (hheed.close h.close), ?_, hform.solo.trans hheed.solo,
    fun hc => ?_⟩
  · exact h.sane.imp (fun k => (k.view w).afterAssessor v.assessor) fun k => k.afterAssessor
  · rw [Actors.formTarget_target]
    exact target_of_calm hc

/-! ### Directives, line, key, fault -/

theorem Actors.Whole.onClaim (h : a.Whole v r) (key : Nat) : (a.onClaim v key).Whole v r :=
  h.call (a.reach_onClaim v key).toTouch (fun k => k.onClaim key) fun k => k.onClaim key

theorem Actors.Whole.onHold (h : a.Whole v r) : (a.onHold v).Whole v r :=
  h.call (a.reach_onHold v).toTouch (fun k => k.onHold) fun k => k.onHold

theorem Actors.Whole.onResume (h : a.Whole v r) : (a.onResume v).Whole v r :=
  h.call (a.reach_onResume v).toTouch (fun k => k.onResume) fun k => k.onResume

theorem Actors.Whole.onKey (h : a.Whole v r) (active : Bool) : (a.onKey v active).Whole v r :=
  h.call (a.reach_onKey v active).toTouch (fun k => k.onKey active) fun k => k.onKey active

theorem Actors.Whole.onMute (h : a.Whole v r) : (a.onMute v).Whole v r :=
  h.call (a.reach_onMute v).toTouch (fun k => k.onMute) fun k => k.onMute

theorem Actors.Whole.onFault (h : a.Whole v r) : (a.onFault v).Whole v r :=
  h.call (a.reach_onFault v).toTouch (fun k => k.onFault) fun k => k.onFault

theorem Actors.Whole.onSent (h : a.Whole v r) (k : RestartKind) : (a.onSent v k).Whole v r :=
  h.call (a.reach_onSent v k).toTouch (fun hk => hk.onSent k) fun hk => hk.onSent k

theorem Actors.Whole.muteFor (h : a.Whole v r) (n : Nat) : (a.muteFor v n).Whole v r := by
  have hline := h.withLine ({ a.line with mute := some ⟨v.now, n⟩ }.rejudge v.now) rfl
  unfold Actors.muteFor
  dsimp only
  split
  · exact hline.onMute
  · exact hline

theorem Actors.Whole.endMute (h : a.Whole v r) : (a.endMute v).Whole v r :=
  Actors.Whole.checkAuthority (h.withLine ({ a.line with mute := none }.rejudge v.now) rfl)

theorem Actors.Whole.lineIdle (h : a.Whole v r) : (a.lineIdle v).Whole v r := by
  have hline := h.withLine (a.line.becomeIdle v.now) rfl
  unfold Actors.lineIdle
  dsimp only
  split
  · exact hline.checkAuthority
  · exact hline

theorem Actors.Whole.complete (h : a.Whole v r) (sent : TxEntry) (rest : List TxEntry) : (a.complete v sent rest).Whole v r := by
  have hline := h.withLine (a.line.completed v.now sent rest) rfl
  unfold Actors.complete
  dsimp only
  split
  · next k hk => exact Actors.Whole.withLine (hline.onSent k) _ (LineUnit.applyDeferred_fast ..)
  · exact hline

/-! ### Inputs (R147, R149) -/

theorem Actors.Whole.faultBegins (h : a.Whole v r) : (a.faultBegins v).Whole v r :=
  ((h.operate _ (Driver.moves_faultBegins _) fun k => k.faultBegins).onFault).urgent

theorem Actors.Whole.faultEnds (h : a.Whole v r) : (a.faultEnds v).Whole v r :=
  (h.operate _ (Driver.moves_faultEnds ..) fun k => k.faultEnds _ _ _).checkAuthority

theorem Actors.Whole.onInput (h : a.Whole v r) (i : Nat) : (a.onInput v i).Whole v r := by
  unfold Actors.onInput
  split
  · exact h.operate _ (Driver.moves_pduInput ..) fun k => k.pduInput _ _ _ _
  · exact h.operate _ (Driver.moves_pduInput ..) fun k => k.pduInput _ _ _ _
  · exact h.operate _ (Driver.moves_holdInput ..) fun k => k.holdInput _ _
  · exact h.operate _ (Driver.moves_holdInput ..) fun k => k.holdInput _ _
  · split
    · exact h.endGrace
    · exact h
  · split
    · exact h.tripTo .isolate
    · exact h
  · exact h.onKey _
  · exact h.compareBackoff
  · exact h

theorem Actors.Whole.afterScan (h : a.Whole v r) (old : Scanner) : (a.afterScan v old).Whole v r := by
  have hinputs : ∀ (is : List Nat) (b : Actors), b.Whole v r → (is.foldl (fun a i => a.onInput v i) b).Whole v r := by
    intro is
    induction is with
    | nil => exact fun b hb => hb
    | cons i is ih => exact fun b hb => ih _ (hb.onInput i)
  unfold Actors.afterScan
  refine hinputs _ _ ?_
  split
  · exact h.faultBegins
  · split
    · exact h.faultEnds
    · exact h

/-! ### The stand-down (R115) -/

/-- The stand-down timer runs at ALERT in CALM, with the phase NONE. -/
theorem Actors.Whole.standing (h : a.Whole v r) (hdue : a.seq.standDown.isSome = true) :
    a.Live v ∧ a.seq.stage = .alert ∧ v.assessor.detector = .calm ∧ a.coord.phase = .none := by
  obtain hheld | hlive := h.sane
  · rw [hheld.down] at hdue
    cases hdue
  · have hwants := hlive.down
    rw [hdue] at hwants
    unfold Actors.wantsStandDown at hwants
    simp only [Bool.true_eq, Bool.and_eq_true, decide_eq_true_eq] at hwants
    obtain ⟨⟨⟨hstage, hcalm⟩, hphase⟩, -⟩ := hwants
    exact ⟨hlive, hstage, hcalm, hphase⟩

/-- The trip floor a stand-down leaves (R115). -/
theorem Actors.Whole.standDown (h : a.Whole v r) (hdue : a.seq.standDown.isSome = true) : (a.standDown v).Whole v r := by
  obtain ⟨hlive, hstage, hcalm, hphase⟩ := h.standing hdue
  have hmet := hlive.met
  unfold Actors.Met Sequencer.demand at hmet
  rw [Stage.code_higher, hstage, h.target hcalm] at hmet
  have htouch := (a.touch_setStage v .watch).trans (Actors.reach_released _ v .advise .lift).toTouch
  obtain ⟨hfast, hdown⟩ := (a.withSeq { a.seq with stage := .watch }).judge_judged v
  refine Actors.Whole.urgent ⟨h.hold, htouch.drv.good h.good, htouch.close h.close, .inr ⟨⟨hlive.hold, hlive.phase, hlive.coord,
    fun hs => ?_, ?_, hfast, hdown, hlive.quiet⟩, fun hr => ?_, .inl (hlive.toRunning.step_none (by rw [hphase]; decide)), ?_⟩,
    h.solo, h.target⟩
  · have := hlive.safe hs
    rw [hstage] at this
    cases this
  · show a.seq.grace ≠ .none ↔ 3 ≤ Stage.watch.code
    rw [hlive.grace, hstage]
    decide
  · have hr' : a.coord.phase.inRestart = true := hr
    rw [hphase] at hr'
    cases hr'
  · show (a.seq.target.higher (if a.seq.floor = .alert then .watch else a.seq.floor)).code ≤ Stage.watch.code
    rw [h.target hcalm]
    generalize a.seq.floor = f at hmet
    cases f with
    | watch | alert => decide
    | quiesce | isolate | safe => exact absurd hmet (by decide)

/-! ### Adoption (R118, R139, R183) -/

/-- No trip channel waits in the queue. -/
def Driver.TripsUnqueued (d : Driver) : Prop := ∀ p, (d.pulse (.trip p)).state ≠ .queued

theorem Driver.adoptTrip_unqueued (d : Driver) (sc : Scanner) (p : Pdu) (h : d.TripsUnqueued) :
    (d.adoptTrip sc p).1.TripsUnqueued := by
  unfold Driver.adoptTrip
  split
  · intro q
    rw [Driver.pulse_setPulse]
    split
    · simp
    · exact h q
  · exact h

/-- The adoption of a stage's channels makes moves of the driver, and queues no trip. -/
theorem Driver.moves_adoptStage (d : Driver) (sc : Scanner) (now : Stamp) (energizing : Bool) (stage : Stage)
    (h : d.TripsUnqueued) :
    d.Moves energizing (d.adoptStage sc now stage).1 ∧ (d.adoptStage sc now stage).1.TripsUnqueued := by
  cases stage with
  | watch => exact ⟨.refl d, h⟩
  | alert =>
    exact ⟨(d.moves_assertLevel .advise).trans (Driver.moves_assertLevel _ .lift), fun p => by
      simp only [Driver.adoptStage, Driver.assertLevel, Driver.pulse_setLevel]; exact h p⟩
  | quiesce =>
    exact ⟨(d.moves_assertLevel .freeze).trans (Driver.moves_assertLevel _ .haltreq), fun p => by
      simp only [Driver.adoptStage, Driver.assertLevel, Driver.pulse_setLevel]; exact h p⟩
  | isolate =>
    have ha := d.adoptTrip_unqueued sc .a h
    exact ⟨(d.moves_adoptTrip sc .a (h .a)).trans (Driver.moves_adoptTrip _ sc .b (ha .b)), Driver.adoptTrip_unqueued _ sc .b ha⟩
  | safe =>
    have hold : ∀ (id : HoldId) (e : Driver) (q : PulseId), (e.adoptHold sc now id).pulse q = e.pulse q := by
      intro id e q
      unfold Driver.adoptHold Driver.assertHold
      dsimp only
      split
      · rw [Driver.pulse_setHold]
      · split
        · rfl
        · rw [Driver.pulse_setHold]
    exact ⟨(d.moves_adoptHold sc now .valve).trans (Driver.moves_adoptHold _ sc now .coolstop), fun p => by
      simp only [Driver.adoptStage, hold]; exact h p⟩

/-- What adoption of the channels does, the SAFE wait being clear. -/
structure Actors.Adopts (v : View) (a b : Actors) : Prop where
  touch : a.Touch v b
  asks : Actors.Asks False False a b
  unqueued : b.drv.TripsUnqueued

theorem Actors.hear_drv_of_wait (a : Actors) (v : View) (n : Notice) (h : a.seq.safeWait = false) : (a.hear v n).drv = a.drv := by
  cases n with
  | tripOutcome p =>
    unfold Actors.hear Actors.tripOutcome
    dsimp only
    rw [h]
    rfl
  | failedFlag | closeConfirmed | closeUnconfirmed | closeFailed | closeRefused | closeCut | closeWithdrawn | releaseConfirmed
  | releaseUnconfirmed | releaseFailed => rfl

theorem Actors.Asks.wait_false (h : Actors.Asks False False a b) (hw : a.seq.safeWait = false) : b.seq.safeWait = false := by
  refine Bool.eq_false_iff.2 fun hb => ?_
  rw [(h.wait hb).resolve_right id] at hw
  cases hw

theorem Actors.hearAll_drv_of_wait (v : View) (ns : List Notice) (a : Actors) (h : a.seq.safeWait = false) :
    (ns.foldl (fun a n => a.hear v n) a).drv = a.drv := by
  induction ns generalizing a with
  | nil => rfl
  | cons n ns ih => exact (ih _ ((a.asks_hear v n).wait_false h)).trans (a.hear_drv_of_wait v n h)

theorem Actors.adopts_drive (a : Actors) (v : View) (stage : Stage) (hw : a.seq.safeWait = false) (hq : a.drv.TripsUnqueued) :
    a.Adopts v (a.drive v fun d => d.adoptStage v.scanner v.now stage) := by
  obtain ⟨hmoves, hq'⟩ := a.drv.moves_adoptStage v.scanner v.now a.energizing stage hq
  refine ⟨(a.reach_drive v _ hmoves).toTouch, a.asks_drive v _, ?_⟩
  have hdrv := Actors.hearAll_drv_of_wait v (a.drv.adoptStage v.scanner v.now stage).2
    (a.withDrv (a.drv.adoptStage v.scanner v.now stage).1) hw
  unfold Actors.drive
  rw [hdrv]
  exact hq'

theorem Actors.adopts_channels (a : Actors) (v : View) (stage : Stage) (hw : a.seq.safeWait = false) (hq : a.drv.TripsUnqueued) :
    a.Adopts v (a.adoptChannels v stage) := by
  have hall : ∀ (l : List Stage) (b : Actors), b.seq.safeWait = false → b.drv.TripsUnqueued →
      b.Adopts v (l.foldl (fun a st => a.drive v fun d => d.adoptStage v.scanner v.now st) b) := by
    intro l
    induction l with
    | nil => exact fun b _ hb => ⟨.refl v b, .refl b, hb⟩
    | cons st l ih =>
      intro b hb hbq
      have hone := b.adopts_drive v st hb hbq
      have hrest := ih _ (hone.asks.wait_false hb) hone.unqueued
      exact ⟨hone.touch.trans hrest.touch, hone.asks.andThen hrest.asks, hrest.unqueued⟩
  unfold Actors.adoptChannels
  split
  · exact hall _ a hw hq
  · exact ⟨.refl v a, .refl a, hq⟩

/-- Outside REJOIN the coordinator starts with no mark set. -/
theorem Coordinator.Sound.moved_rejoin {c : Coordinator} (h : c.Sound) (hc : c.phase = .rejoin) : (c.moved .none).Sound := by
  unfold Coordinator.moved
  simp_all [Phase.inTurn, Phase.standsAside, Coordinator.enter, Coordinator.Sound]

/-- The phase of the adopted stage: QUIET_WAIT with its quiet start, or NONE (R183). -/
theorem Actors.adoptPhase_coord (a : Actors) (v : View) (stage : Stage) (h : a.coord.Sound) (hphase : a.coord.phase = .rejoin) :
    (a.adoptPhase v stage).coord.Sound ∧ (a.adoptPhase v stage).coord.step = .none
      ∧ (a.adoptPhase v stage).coord.phase = (if 2 ≤ stage.code then .quietWait else .none)
      ∧ (2 ≤ stage.code → ((a.adoptPhase v stage).coord.quietStart.isSome ↔ v.assessor.detector = .calm)) := by
  unfold Actors.adoptPhase
  split
  · have hmoved := h.moved_aside (p := .quietWait) rfl
    unfold Actors.enterQuietWait Actors.restartWait
    rw [Actors.withCoord_coord, Actors.setPhase_coord]
    refine ⟨hmoved.withQuietStart (Coordinator.moved_phase _ _) _, h.moved_step (by decide), Coordinator.moved_phase _ _, fun _ => ?_⟩
    by_cases hcalm : v.assessor.detector = .calm <;> simp [hcalm]
  · next hlow =>
    rw [Actors.setPhase_coord]
    exact ⟨h.moved_rejoin hphase, h.moved_step (by decide), Coordinator.moved_phase _ _, fun hhigh => absurd hhigh hlow⟩

theorem Actors.adoptPhase_seq (a : Actors) (v : View) (stage : Stage) :
    (a.adoptPhase v stage).seq = { a.seq with standDown := (a.adoptPhase v stage).seq.standDown } := by
  unfold Actors.adoptPhase
  split
  · exact a.setPhase_seq v .quietWait
  · exact a.setPhase_seq v .none

/-- The adopted stage taken: the relations outside the rejoin hold stand, the demand still to be compared. -/
theorem Actors.running_takeStage (a : Actors) (v : View) (stage : Stage) (h : a.coord.Sound) (hphase : a.coord.phase = .rejoin) :
    ((a.adoptPhase v stage).takeStage v stage).Running v
      ∧ (((a.adoptPhase v stage).takeStage v stage).coord.phase.inRestart → 1 ≤ stage.code)
      ∧ ((a.adoptPhase v stage).takeStage v stage).Fits := by
  obtain ⟨hsound, hstep, hp, hquiet⟩ := a.adoptPhase_coord v stage h hphase
  generalize a.adoptPhase v stage = b at *
  refine ⟨⟨rfl, ?_, hsound, (fun hs => nomatch hs), ?_, (Actors.judge_judged _ v).1, (Actors.judge_judged _ v).2, fun hq => ?_⟩,
    fun hr => ?_, .inl hstep⟩
  · show b.coord.phase ≠ .rejoin
    rw [hp]
    split <;> decide
  · show (if 3 ≤ stage.code then Grace.ended else .none) ≠ .none ↔ 3 ≤ stage.code
    split <;> simp_all
  · have hq' : b.coord.phase = .quietWait := hq
    refine hquiet ?_
    by_contra hlow
    rw [hp, if_neg hlow] at hq'
    cases hq'
  · have hr' : b.coord.phase.inRestart = true := hr
    rw [hp] at hr'
    split at hr'
    · omega
    · cases hr'

/-- Adoption ends the rejoin hold with every relation in place (R118, R183). -/
theorem Actors.Whole.adopt (h : a.Whole v r) (hheld : a.Held v) (stage : Stage) : (a.adopt v stage).Whole v false := by
  have hch := a.adopts_channels v stage hheld.wait fun p hq => by
    rw [hheld.rest.1] at hq
    cases hq
  have hphase : (a.adoptChannels v stage).coord.phase = .rejoin := by rw [hch.asks.coord]; exact hheld.phase
  have hsound : (a.adoptChannels v stage).coord.Sound := by rw [hch.asks.coord]; exact hheld.coord
  have htp := (a.adoptChannels v stage).touch_adoptPhase v stage
  have hts := ((a.adoptChannels v stage).adoptPhase v stage).touch_adoptStage v stage
  obtain ⟨hrun, hrestart, hfits⟩ := (a.adoptChannels v stage).running_takeStage v stage hsound hphase
  rw [Actors.adopt_eq]
  have hlive : (((a.adoptChannels v stage).adoptPhase v stage).adoptStage v stage).Live v := by
    rw [Actors.adoptStage_eq]
    have htell : Actors.Asks False False (((a.adoptChannels v stage).adoptPhase v stage).takeStage v stage)
        ((((a.adoptChannels v stage).adoptPhase v stage).takeStage v stage).tellStage v stage) := by
      unfold Actors.tellStage
      split
      · exact .refl _
      · exact Actors.asks_urgent _ v
    have hcompare := (hrun.asks htell).compare (fun hr => by rw [htell.coord] at hr; rw [htell.seq]; exact hrestart hr) (by
      unfold Actors.Fits at hfits ⊢
      rwa [htell.coord, htell.seq])
    unfold Actors.cutByFloor
    split
    · exact hcompare.asks (Actors.asks_endGrace _ v)
    · exact hcompare
  exact ⟨hts.rejoinHold, hts.drv.good (htp.drv.good (hch.touch.drv.good h.good)), hts.close (htp.close (hch.touch.close h.close)), .inr hlive,
    (hts.solo.trans (htp.solo.trans hch.touch.solo)).trans h.solo,
    fun hc => (hts.target.trans (htp.target.trans hch.touch.target)).trans (h.target hc)⟩

end Sys2Proof.Machine
end

section
/-! PROOFS. Every step keeps the whole state sound: port and assessor agree on the sensor, and the relations between the blocks
are carried through every command. -/

namespace Sys2Proof.Machine

/-! ### The sensor is LOST exactly in BLIND (R38, R39) -/

/-- Whether the sensor counts as lost after a delivery. -/
def Delivery.blinds (lost : Bool) : Delivery → Bool
  | .sample _ _ _ => lost
  | .loss => true
  | .restoration => false

theorem Assessor.sample_blind_iff (a : Assessor) (prof : Profile) (s : Sample) (stamp : Stamp) :
    (a.sample prof s stamp).detector = .blind ↔ a.detector = .blind := by
  have hlimit : ∀ b : Assessor, b.detector ≠ .blind → (b.disturbance s stamp).detector ≠ .blind := by
    intro b hb
    unfold Assessor.disturbance
    split
    · exact Detector.noConfusion
    · exact hb
  unfold Assessor.sample
  cases hd : a.detector with
  | capture =>
    refine iff_of_false ?_ Detector.noConfusion
    dsimp only
    generalize hb : (if a.awaitingSeed then a.seed s else a) = b
    have hbd : b.detector = .capture := by
      rw [← hb]
      split
      · exact hd
      · exact hd
    unfold Assessor.endCapture
    dsimp only
    split
    · exact Detector.noConfusion
    · show b.detector ≠ .blind
      rw [hbd]
      exact Detector.noConfusion
  | calm =>
    refine iff_of_false (hlimit _ ?_) Detector.noConfusion
    show (Assessor.testCalm _ _ _ _ _).detector ≠ _
    unfold Assessor.testCalm
    split
    · dsimp only
      split
      · exact Detector.noConfusion
      · unfold Assessor.extendRun
        split <;> simp [hd]
    · simp [hd]
  | event =>
    refine iff_of_false (hlimit _ ?_) Detector.noConfusion
    show (Assessor.testEvent _ _).detector ≠ _
    unfold Assessor.testEvent
    split
    · split <;> simp [hd]
    · simp [hd]
  | settling =>
    refine iff_of_false (hlimit _ ?_) Detector.noConfusion
    show (Assessor.testSettling _ _).detector ≠ _
    unfold Assessor.testSettling Assessor.settle
    split
    · split
      · simp
      · split <;> simp [hd]
    · split <;> simp [hd]
  | blind => simp [hd]

theorem Assessor.take_blind_iff (a : Assessor) (prof : Profile) (d : Delivery) :
    (a.take prof d).detector = .blind ↔ Delivery.blinds (decide (a.detector = .blind)) d = true := by
  cases d with
  | sample s stamp held => simp [Assessor.take, Delivery.blinds, a.sample_blind_iff prof s stamp]
  | loss => cases hd : a.detector <;> simp [Assessor.take, Assessor.lose, Delivery.blinds, hd]
  | restoration => simp [Assessor.take, Assessor.restore, Assessor.enterCapture, Delivery.blinds]

theorem Assessor.takes_blind (prof : Profile) (ds : List Delivery) (a : Assessor) :
    decide ((ds.foldl (fun a d => a.take prof d) a).detector = .blind) = ds.foldl Delivery.blinds (decide (a.detector = .blind)) := by
  induction ds generalizing a with
  | nil => rfl
  | cons d ds ih =>
    have hone : decide ((a.take prof d).detector = .blind) = Delivery.blinds (decide (a.detector = .blind)) d := by
      rw [Bool.eq_iff_iff, decide_eq_true_iff, a.take_blind_iff prof d]
    rw [List.foldl_cons, List.foldl_cons, ih, hone]

/-- The port's answer tells the assessor of each change to or from LOST. -/
def Port.Tells (p : Port) (r : Port × List Delivery) : Prop :=
  decide (r.1.status = .lost) = r.2.foldl Delivery.blinds (decide (p.status = .lost))

theorem foldl_blinds_held (last : Sample) (now : Stamp) (k : Nat) (lost : Bool) :
    (heldSamples last now k).foldl Delivery.blinds lost = lost := by
  unfold heldSamples
  induction List.range k generalizing lost with
  | nil => rfl
  | cons i is ih => exact ih lost

theorem Port.tells_arrive (p : Port) (now : Stamp) (f : Frame) (held : List Delivery) (hp : p.status ≠ .lost)
    (hheld : held.foldl Delivery.blinds false = false) : p.Tells (p.arrive now f held) := by
  unfold Port.Tells Port.arrive
  dsimp only
  rw [decide_eq_false hp]
  split
  · rw [List.foldl_append, hheld]
    rfl
  · rw [List.foldl_append, hheld]
    rfl

theorem Port.tells_recover (p : Port) (now : Stamp) (f : Frame) (good : Bool) :
    p.Tells (p.recover now f good) := by
  unfold Port.Tells Port.recover
  dsimp only
  split
  · rfl
  · rfl

theorem Port.tells_sound (p : Port) (now : Stamp) (f : Frame) : p.Tells (p.sound now f) := by
  unfold Port.sound
  cases hp : p.status with
  | start => exact p.tells_arrive now f [] (by rw [hp]; decide) rfl
  | tracking =>
    have hne : p.status ≠ .lost := by rw [hp]; decide
    cases p.lastSeq with
    | none => exact p.tells_arrive now f [] hne rfl
    | some last =>
      dsimp only
      split
      · rfl
      · split
        · refine p.tells_arrive now f _ hne ?_
          split
          · exact foldl_blinds_held _ _ _ _
          · rfl
        · unfold Port.Tells Port.longGap
          rw [decide_eq_false hne]
          rfl
  | lost =>
    cases p.lastSeq with
    | none => exact p.tells_recover now f false
    | some last =>
      dsimp only
      split
      · exact decide_eq_decide.2 (by rw [hp])
      · exact p.tells_recover now f _

theorem Port.tells_missed (p : Port) : p.Tells p.missed := by
  unfold Port.Tells Port.missed
  cases hp : p.status with
  | lost => simp
  | start | tracking =>
    dsimp only
    split
    · simp [Port.lose, Delivery.blinds]
    · simp

theorem Port.tells_frameEnd (p : Port) (now : Stamp) (bits : List Bool) : p.Tells (p.frameEnd now bits) := by
  unfold Port.frameEnd
  split
  · rfl
  · have hstatus := p.clockFrame_status bits
    have htells : ∀ r, (p.clockFrame bits).Tells r → p.Tells r := by
      intro r h
      unfold Port.Tells at h ⊢
      rwa [hstatus] at h
    dsimp only
    split
    · exact htells _ (Port.tells_sound _ now _)
    · exact htells _ (Port.tells_missed _)

theorem Port.tells_timeout (p : Port) : p.Tells p.timeout := by
  unfold Port.Tells Port.timeout
  cases hp : p.status with
  | lost => simp
  | start | tracking => simp [Port.lose, Delivery.blinds]

/-! ### The relations of the station -/

/-- The acting blocks against what they see, the sensor, and the start-up state. -/
structure State.Whole (s : State) : Prop where
  act : s.act.Whole s.view (decide (s.startup.state ≠ .running))
  sensor : s.SensorSound
  window : s.startup.window.isSome ↔ s.startup.state = .listening
  awaiting : s.startup.state = .awaitingInputs → s.scanner.known = false

variable {s t : State}

theorem State.Whole.acting (h : s.Whole) {f : View → Actors → Actors}
    (hf : ∀ r, s.act.Whole s.view r → (f s.view s.act).Whole s.view r) : (s.acting f).Whole :=
  ⟨hf _ h.act, h.sensor, h.window, h.awaiting⟩

theorem State.Whole.endEvent (h : t.Whole) (s : State) : (t.endEvent s).Whole := by
  unfold State.endEvent
  split
  · exact h.acting fun _ k => k.serve
  · exact h

theorem State.Whole.event {f : State → State} (h : (f s).Whole) : (s.event f).Whole := h.endEvent s

theorem State.Whole.eventWhen (h : s.Whole) {occurs : Bool} {f : State → State} (hf : occurs = true → (f s).Whole) :
    (s.eventWhen occurs f).Whole := by
  cases occurs with
  | false => exact h
  | true => exact State.Whole.event (hf rfl)

/-- Other blocks than those the relations speak of may differ. -/
theorem State.Whole.congr (h : s.Whole) (hview : t.view.assessor = s.view.assessor) (hact : t.act = s.act)
    (hport : t.port = s.port) (hstate : t.startup.state = s.startup.state) (hwindow : t.startup.window = s.startup.window)
    (hknown : t.startup.state = .awaitingInputs → t.scanner.known = false) : t.Whole := by
  refine ⟨?_, ?_, by rw [hwindow, hstate]; exact h.window, hknown⟩
  · rw [hact, hstate]
    exact h.act.view t.view hview
  · have hs := h.sensor
    have hassessor : t.assessor = s.assessor := hview
    unfold State.SensorSound at hs ⊢
    rwa [hport, hassessor]

theorem State.Whole.fromPort (h : s.Whole) (r : Port × List Delivery) (hr : s.port.Tells r) : (s.fromPort r).Whole := by
  have hsensor : (s.fromPort r).SensorSound := by
    have hs := h.sensor
    unfold State.SensorSound at hs ⊢
    rw [s.fromPort_eq r]
    show r.1.status = .lost ↔ (r.2.foldl (fun a d => a.take (profileOf s.straps) d) s.assessor).detector = .blind
    have hblind := Assessor.takes_blind (profileOf s.straps) r.2 s.assessor
    rw [← decide_eq_decide, hblind, hr, decide_eq_decide.2 hs]
  have hact : ∀ (ds : List Delivery) (u : State) (b : Bool), u.act.Whole u.view b →
      (ds.foldl State.deliver u).act.Whole (ds.foldl State.deliver u).view b := by
    intro ds
    induction ds with
    | nil => exact fun _ _ hu => hu
    | cons d ds ih =>
      intro u b hu
      refine ih (u.deliver d) b ?_
      exact Actors.Whole.afterAssessor (w := (u.deliver d).view) hu
  refine ⟨?_, hsensor, ?_, ?_⟩
  · have hstart : (s.fromPort r).startup = s.startup := by rw [s.fromPort_eq r]
    rw [hstart]
    exact hact r.2 { s with port := r.1 } _ h.act
  · rw [s.fromPort_eq r]
    exact h.window
  · rw [s.fromPort_eq r]
    exact h.awaiting

/-! ### Peers, directives, line -/

theorem State.Whole.withRecord (h : s.Whole) (n : Nat) (r : PeerRecord) : (s.withRecord n r).Whole :=
  State.Whole.acting (s := { s with peers := s.peers.set n r }) (h.congr rfl rfl rfl rfl rfl h.awaiting) fun _ k => k.onPeers

theorem State.Whole.expirePeer (h : s.Whole) (peer : BitVec 5) (due : PeerRecord → Bool) (f : PeerRecord → PeerRecord) :
    (s.expirePeer peer due f).Whole := by
  unfold State.expirePeer
  split
  · split
    · exact h.withRecord _ _
    · exact h
  · exact h

theorem State.Whole.duplicated (h : s.Whole) : s.duplicated.Whole := by
  unfold State.duplicated
  split
  · exact h
  · exact State.Whole.acting (s := { s with duplicate := true }) (h.congr rfl rfl rfl rfl rfl h.awaiting) fun _ k => k.urgent

theorem State.Whole.takeState (h : s.Whole) (sender : Byte) (p : StatePayload) : (s.takeState sender p).Whole := by
  unfold State.takeState
  split
  · exact h.duplicated
  · exact h.withRecord _ _

theorem State.Whole.takeRestart (h : s.Whole) (k : RestartKind) (sender : Byte) (group : BitVec 2) :
    (s.takeRestart k sender group).Whole := by
  unfold State.takeRestart
  split
  · exact h.duplicated
  · dsimp only
    split
    · exact (h.withRecord _ _).acting fun _ hk => hk.onClaim _
    · exact h.withRecord _ _

/-- A reseed meets the detector in CALM (R186), so the sensor is not lost. -/
theorem State.Whole.reseed (h : s.Whole) (hcalm : s.assessor.detector = .calm) : s.reseed.Whole := by
  refine ⟨Actors.Whole.afterAssessor (w := ({ s with assessor := s.assessor.enterCapture } : State).view) h.act, ?_, h.window,
    h.awaiting⟩
  have hs := h.sensor
  unfold State.SensorSound at hs ⊢
  show s.port.status = .lost ↔ s.assessor.enterCapture.detector = .blind
  rw [hs, hcalm]
  simp [Assessor.enterCapture]

theorem State.Whole.applyDirective (h : s.Whole) (kind : DirectiveKind) (argument : Byte) (hsuits : s.suits kind = true) :
    (s.applyDirective kind argument).Whole := by
  cases kind with
  | resume => exact h.acting (f := fun v a => a.onResume v) fun _ k => k.onResume
  | hold => exact h.acting (f := fun v a => a.onHold v) fun _ k => k.onHold
  | trip =>
    unfold State.applyDirective
    dsimp only
    split
    · exact h.acting fun _ k => k.consoleTrip _
    · exact h
  | mute => exact h.acting (f := fun v a => a.muteFor v argument.toNat) fun _ k => k.muteFor _
  | unmute => exact h.acting (f := fun v a => a.endMute v) fun _ k => k.endMute
  | reseed =>
    unfold State.suits at hsuits
    simp only [Bool.and_eq_true, decide_eq_true_eq] at hsuits
    exact h.reseed hsuits.1
  | test =>
    unfold State.applyDirective
    dsimp only
    split
    · next id _ =>
      refine h.acting fun _ k => k.withDrv _ (Driver.moves_testLevel ..) fun hrest => ?_
      unfold Driver.testLevel
      split
      · exact hrest
      · exact hrest.setLevel _ _
    · exact h
  | ackReset => exact h.congr rfl rfl rfl rfl rfl h.awaiting
  | clearCounts => exact h.acting (f := fun _ a => a.withLine { a.line with errors := 0 }) fun _ k => k.withLine _ rfl

theorem State.suits_of_accepted {kind : DirectiveKind} {target argument : Byte}
    (h : s.judgeDirective kind target argument = .accepted) : s.suits kind = true := by
  unfold State.judgeDirective at h
  by_contra hs
  rw [Bool.not_eq_true] at hs
  rw [hs] at h
  split at h
  · cases h
  · cases h

theorem State.Whole.recordDirective (h : s.Whole) (sender : Byte) (kind : DirectiveKind) (result : DirectiveResult) :
    (s.recordDirective sender kind result).Whole :=
  State.Whole.acting (s := { s with directive := ⟨some kind, some result, BitVec.ofNat 2 (sender.toNat - 32)⟩ })
    (h.congr rfl rfl rfl rfl rfl h.awaiting) fun _ k => k.urgent

theorem State.Whole.takeDirective (h : s.Whole) (sender target : Byte) (kind : DirectiveKind) (argument : Byte) :
    (s.takeDirective sender target kind argument).Whole := by
  unfold State.takeDirective
  split
  · dsimp only
    split
    · next hacc => exact (h.applyDirective kind argument (State.suits_of_accepted hacc)).recordDirective _ _ _
    · exact h.recordDirective _ _ _
  · exact h

theorem State.Whole.onVerdict (h : s.Whole) (verdict : Verdict) : (s.onVerdict verdict).Whole := by
  unfold State.onVerdict
  split
  · exact h
  · exact h.acting fun _ k => k.withLine _ rfl
  · exact h.takeState _ _
  · exact h.takeRestart _ _ _
  · exact h.takeDirective _ _ _ _

theorem State.Whole.hearLine (h : s.Whole) (bytes : List RxByte) (startBit : Bool) : (s.hearLine bytes startBit).Whole :=
  State.Whole.onVerdict (h.acting fun _ k => k.withLine (LineUnit.busy (s.act.line.withReception _ _ _) _ _) rfl) _

theorem State.Whole.beginHead (h : s.Whole) : s.beginHead.Whole := by
  unfold State.beginHead
  split
  · exact h.acting fun _ k => k.withLine _ rfl
  · exact h

theorem LineUnit.congest_fast (l : LineUnit) (now : Stamp) (n : Nat) : (l.congest now n).fast = l.fast := by
  unfold LineUnit.congest
  split
  · exact LineUnit.urgent_fast ..
  · rfl

theorem LineUnit.collide_fast (l : LineUnit) (now : Stamp) (head : TxEntry) (rest : List TxEntry) :
    (l.collide now head rest).fast = l.fast := by
  unfold LineUnit.collide
  dsimp only
  split
  · exact LineUnit.congest_fast ..
  · exact (LineUnit.applyDeferred_fast ..).trans (LineUnit.congest_fast ..)

theorem State.Whole.collideHead (h : s.Whole) : s.collideHead.Whole := by
  unfold State.collideHead
  split
  · split
    · exact h
    · exact h.acting fun _ k => k.withLine _ (LineUnit.collide_fast ..)
  · exact h

theorem State.Whole.completeHead (h : s.Whole) : s.completeHead.Whole := by
  unfold State.completeHead
  split
  · split
    · exact h.acting fun _ k => k.complete _ _
    · exact h
  · exact h

/-! ### Scan and start-up -/

theorem State.Whole.held (h : s.Whole) (hstate : s.startup.state ≠ .running) : s.act.Held s.view := by
  have hhold : s.act.seq.rejoinHold = true := h.act.hold.trans (decide_eq_true hstate)
  refine h.act.sane.resolve_right fun hlive => ?_
  have := hlive.hold
  rw [hhold] at this
  cases this

theorem State.whole_adopt (hact : s.act.Whole s.view (decide (s.startup.state ≠ .running))) (hsensor : s.SensorSound)
    (hstate : s.startup.state ≠ .running) : s.adopt.Whole := by
  have hheld : s.act.Held s.view := by
    refine hact.sane.resolve_right fun hlive => ?_
    have := hlive.hold.symm.trans (hact.hold.trans (decide_eq_true hstate))
    cases this
  have hview : s.act.Whole ({ s with startup := { s.startup with state := .running, window := none } } : State).view
    (decide (s.startup.state ≠ .running)) := hact
  exact ⟨hview.adopt hheld _, hsensor, by simp [State.adopt], fun hs => by simp [State.adopt] at hs⟩

theorem State.Whole.completeScan (h : s.Whole) (frame : BitVec 24) : (s.completeScan frame).Whole := by
  have hact : ∀ b, s.act.Whole s.view b → (s.act.afterScan
      ({ s with scanner := s.scanner.complete frame } : State).view s.scanner).Whole
        ({ s with scanner := s.scanner.complete frame } : State).view b :=
    fun b hb => (hb.view ({ s with scanner := s.scanner.complete frame } : State).view rfl).afterScan s.scanner
  have hscanned : (s.startup.state = .awaitingInputs → (s.scanner.complete frame).known = false) →
      ({ s with scanner := s.scanner.complete frame }.acting fun v a => a.afterScan v s.scanner).Whole :=
    fun hk => ⟨hact _ h.act, h.sensor, h.window, hk⟩
  unfold State.completeScan
  dsimp only
  split
  · unfold State.onKnown
    split
    · next hstate =>
      have hne : s.startup.state ≠ .running := by
        rw [show s.startup.state = .awaitingInputs from hstate]
        decide
      exact State.whole_adopt (hact _ h.act) h.sensor hne
    · next hstate => exact hscanned fun hs => absurd (hs.symm.trans hstate) (by decide)
    · next hstate => exact hscanned fun hs => absurd (hs.symm.trans hstate) (by decide)
  · next hnew =>
    refine hscanned fun hs => ?_
    rw [h.awaiting hs] at hnew
    simpa using hnew

theorem State.Whole.endRejoinWindow (h : s.Whole) (hstate : s.startup.state = .listening) : s.endRejoinWindow.Whole := by
  have hne : s.startup.state ≠ .running := by
    rw [hstate]
    decide
  unfold State.endRejoinWindow
  split
  · exact State.whole_adopt h.act h.sensor hne
  · next hknown =>
    refine ⟨?_, h.sensor, by simp, fun _ => by simpa using hknown⟩
    have hact := h.act
    rw [decide_eq_true hne] at hact
    exact hact

/-! ### The channels' and the coordinator's expiries -/

theorem Actors.Whole.live_of_phase {a : Actors} {v : View} {r : Bool} (h : a.Whole v r) (hphase : a.coord.phase ≠ .rejoin) :
    a.Live v := h.sane.resolve_left fun hheld => hphase hheld.phase

/-- An expiry that the rejoin hold has no place for. -/
theorem State.Whole.actingIn (h : s.Whole) (hphase : s.act.coord.phase ≠ .rejoin) {f : View → Actors → Actors}
    (ht : s.act.Touch s.view (f s.view s.act)) (hlive : s.act.Live s.view → (f s.view s.act).Live s.view) :
    (s.acting f).Whole :=
  h.acting fun _ k => k.call ht (fun hheld => absurd hheld.phase hphase) hlive

/-- The end of the contest interval: ENERGIZING is entered, the floor cleared (R111, R163). -/
theorem Actors.Whole.endContest {a : Actors} {v : View} {r : Bool} (h : a.Whole v r) (hphase : a.coord.phase = .contest) :
    (a.endContest v).Whole v r := by
  have hmark := Actors.Reach.of_coord a v { a.coord with contest := none } rfl rfl
  have hset := hmark.toTouch.trans (Actors.touch_setPhase _ v .energizing)
  have hrun := Actors.touch_runSteps (((a.withCoord { a.coord with contest := none }).setPhase v .energizing).withSeq
    { ((a.withCoord { a.coord with contest := none }).setPhase v .energizing).seq with floor := .watch }) v 4
  have hlive := (h.live_of_phase (by rw [hphase]; decide)).endContest hphase
  exact ⟨(hrun.rejoinHold.trans hset.rejoinHold).trans h.hold, hrun.drv.good (hset.drv.good h.good),
    hrun.close (hset.close h.close), .inr hlive, (hrun.solo.trans hset.solo).trans h.solo,
    fun hc => (hrun.target.trans hset.target).trans (h.target hc)⟩

/-- An energizing wait that runs out is the settle of step B or the release wait of step C. -/
theorem Coordinator.stage_of_settleDue {c : Coordinator} {now : Stamp} (h : c.settleDue now = true) :
    c.step.stage? = some .isolate := by
  unfold Coordinator.settleDue at h
  split at h
  · next hstep =>
    rw [hstep]
    rfl
  · cases h

theorem Coordinator.stage_of_releaseWaitDue {c : Coordinator} {now : Stamp} (h : c.releaseWaitDue now = true) :
    c.step.stage? = some .quiesce := by
  unfold Coordinator.releaseWaitDue at h
  split at h
  · next hstep =>
    rw [hstep]
    rfl
  · cases h

theorem Driver.AtRest.endTest {d : Driver} (h : d.AtRest) (id : LevelId) : (d.endTest id).AtRest := h.setLevel _ _

/-- Every command but RESET keeps the relations. -/
theorem exec_whole {c : Instr} (h : s.Whole) (hexec : exec c s = .next t) (hc : ∀ straps high, c ≠ .reset straps high) :
    t.Whole := by
  have done : ∀ {u : State}, (.next u : Host.Outcome State Fault Refusal) = .next t → u.Whole → t.Whole :=
    fun he hp => Host.Outcome.next.inj he ▸ hp
  have hgood := h.act.good
  cases c with
  | reset straps high => exact absurd rfl (hc straps high)
  | frameEnd bits => exact done hexec (State.Whole.event (h.fromPort _ (Port.tells_frameEnd ..)))
  | frameTimerExpiry => exact done hexec (h.eventWhen fun _ => h.fromPort _ s.port.tells_timeout)
  | lineBusy | telegramDiscarded | stateTelegram | bidTelegram | claimTelegram | yieldTelegram | doneTelegram
  | resume | hold | trip | mute | unmute | reseed | test | ackReset | clearCounts =>
    exact done hexec (State.Whole.event (h.hearLine _ _))
  | lineIdle => exact done hexec (h.eventWhen fun _ => h.acting fun _ k => k.lineIdle)
  | telegramTorn =>
    exact done hexec (h.eventWhen fun _ => h.acting fun _ k => (k.withLine s.act.line.countError rfl).lineIdle)
  | peerQuietExpiry | peerLostExpiry | bidPartExpiry | claimPartExpiry =>
    exact done hexec (State.Whole.event (h.expirePeer _ _ _))
  | transmissionStart => exact done hexec (State.Whole.event h.beginHead)
  | collision => exact done hexec (State.Whole.event h.collideHead)
  | transmissionComplete => exact done hexec (State.Whole.event h.completeHead)
  | lineStuckExpiry => exact done hexec (h.eventWhen fun _ => h.acting fun _ k => k.withLine (LineUnit.rejudge _ _) rfl)
  | heartbeatExpiry =>
    exact done hexec (h.eventWhen fun _ => h.acting fun _ k => k.withLine (LineUnit.beat _ _) (LineUnit.routine_fast ..))
  | muteExpiry => exact done hexec (h.eventWhen fun _ => h.acting fun _ k => k.endMute)
  | graceExpiry => exact done hexec (h.eventWhen fun _ => h.acting fun _ k => k.endGrace)
  | soloDelayExpiry => exact done hexec (h.eventWhen fun _ => h.acting fun _ k => k.formTarget)
  | standDownExpiry =>
    exact done hexec (h.eventWhen fun hdue => h.acting fun _ k => k.standDown (isSome_of_ranFor hdue))
  | testTimerExpiry ch =>
    exact done hexec (h.eventWhen fun _ => h.acting fun _ k => k.withDrv _ (Driver.moves_endTest ..) fun hr => hr.endTest ch)
  | pullInExpiry ch =>
    refine done hexec (h.eventWhen fun hdue => h.acting fun _ k => k.withDrv _ (Driver.moves_endPullIn ..) fun hr => ?_)
    simp [hr.2 ch] at hdue
  | holdWindowExpiry ch =>
    refine done hexec (h.eventWhen fun hdue => h.acting fun _ k => k.operate _ (Driver.moves_failHold ..) fun hr => ?_)
    have hwindow := (hgood.hold ch).2.2 (isSome_of_ranFor hdue)
    simp [hr.2 ch] at hwindow
  | pulseGapExpiry =>
    exact done hexec (h.eventWhen fun _ => h.acting fun _ k => k.withDrv _ (.gap ..) fun hr => hr)
  | pulseTimerExpiry ch =>
    refine done hexec (h.eventWhen fun hdue => h.acting fun _ k =>
      k.operate _ (Driver.moves_endPulse _ _ _ _ _ (by simp_all)) fun hr => ?_)
    simp [hr.1 ch] at hdue
  | pulseWindowExpiry ch =>
    refine done hexec (h.eventWhen fun hdue => h.acting fun _ k =>
      k.operate _ (Driver.moves_missWindow _ _ (by simp_all)) fun hr => ?_)
    simp [hr.1 ch] at hdue
  | scanTimerExpiry => exact done hexec (h.eventWhen fun _ => h.congr rfl rfl rfl rfl rfl h.awaiting)
  | scanCompletion frame => exact done hexec (h.eventWhen fun _ => h.completeScan frame)
  | quietWaitExpiry =>
    refine done hexec (h.eventWhen fun hdue => ?_)
    simp only [Bool.and_eq_true, decide_eq_true_eq] at hdue
    exact h.actingIn (by rw [hdue.1]; decide) (Actors.reach_enterAwaitPermit _ _).toTouch fun k =>
      k.enterAwaitPermit (by rw [hdue.1]; rfl)
  | bidWindowExpiry =>
    refine done hexec (h.eventWhen fun hdue => ?_)
    simp only [Bool.and_eq_true, decide_eq_true_eq] at hdue
    exact h.actingIn (by rw [hdue.1]; decide) (Actors.reach_endBidWindow _ _).toTouch fun k => k.endBidWindow hdue.1
  | contestIntervalExpiry =>
    refine done hexec (h.eventWhen fun hdue => ?_)
    simp only [Bool.and_eq_true, decide_eq_true_eq] at hdue
    exact h.acting fun _ k => k.endContest hdue.1
  | staggerExpiry =>
    refine done hexec (h.eventWhen fun hdue => ?_)
    simp only [Bool.and_eq_true, decide_eq_true_eq] at hdue
    exact h.actingIn (by rw [hdue.1]; decide) (Actors.reach_endStagger _ _).toTouch fun k => k.endStagger hdue.1
  | powerSettleExpiry =>
    refine done hexec (h.eventWhen fun hdue => ?_)
    exact h.actingIn (by rw [Coordinator.energizing_of_settleDue hdue]; decide) (Actors.touch_stepDone _ _) fun k =>
      k.stepDone .isolate (Coordinator.stage_of_settleDue hdue) (by decide)
  | releaseWaitExpiry =>
    refine done hexec (h.eventWhen fun hdue => ?_)
    exact h.actingIn (by rw [Coordinator.energizing_of_releaseWaitDue hdue]; decide) (Actors.touch_stepDone _ _) fun k =>
      k.stepDone .quiesce (Coordinator.stage_of_releaseWaitDue hdue) (by decide)
  | rejoinWindowExpiry =>
    refine done hexec (h.eventWhen fun hdue => ?_)
    simp only [Bool.and_eq_true, decide_eq_true_eq] at hdue
    exact h.endRejoinWindow hdue.1

/-! ### The relations and soundness -/

theorem State.Sound.sane (h : s.Sound) : s.act.Held s.view ∨ s.act.Live s.view := by
  obtain ⟨-, -, -, -, -, -, -, -, -, hrest, hcoord, ⟨hhold, hheld, hmet, hsafe, hgrace, hrestart, hfits⟩,
    ⟨hfast, hdown, hquiet, -⟩, -⟩ := h
  cases hr : s.act.seq.rejoinHold with
  | true =>
    obtain ⟨hstage, hnone, hwait⟩ := hheld hr
    obtain ⟨hpulse, hoff⟩ := hrest hr
    have hphase := hhold.1 hr
    refine .inl ⟨hr, hphase, hcoord, hstage, hnone, hwait, ?_, ?_, fun id => hpulse id (mem_pulseIds id),
      fun id => hoff id (mem_holdIds id)⟩
    · rw [hfast, Actors.wantsFast, hphase]
      simp [Phase.isFast]
    · rw [Actors.wantsStandDown, hr] at hdown
      simpa using hdown
  | false =>
    have hphase : s.act.coord.phase ≠ .rejoin := fun hp => by
      rw [hhold.2 hp] at hr
      cases hr
    exact .inr ⟨⟨hr, hphase, hcoord, hsafe, hgrace, hfast, hdown, hquiet⟩, hrestart, hfits, hmet hr⟩

/-- A sound state has the relations. -/
theorem State.Sound.whole (h : s.Sound) : s.Whole := by
  have hsane := h.sane
  obtain ⟨-, -, -, -, -, -, hpulse, hrecords, hclose, -, -, -, ⟨-, -, -, hsolo, htarget⟩, hsensor, hrun, hwindow, hawaiting⟩ := h
  refine ⟨⟨?_, (Driver.good_iff _).2 ⟨hpulse, hrecords⟩, hclose, hsane, hsolo, htarget⟩, hsensor, hwindow, hawaiting⟩
  by_cases hstate : s.startup.state = .running
  · rw [hrun.1 hstate]
    simp [hstate]
  · have : s.act.seq.rejoinHold = true := by
      by_contra hne
      exact hstate (hrun.2 (by simpa using hne))
    simp [hstate, this]

/-- What the relations say of sequencer and coordinator, in the words of the invariant. -/
theorem State.Whole.relations (h : s.Whole) :
    s.act.RestSound ∧ s.act.coord.Sound ∧ s.act.StageSound ∧ s.JudgedSound := by
  have hsolo := h.act.solo
  have htarget := h.act.target
  obtain hheld | hlive := h.act.sane
  · have hphase := hheld.phase
    refine ⟨fun _ => ⟨fun id _ => hheld.rest.1 id, fun id _ => hheld.rest.2 id⟩, hheld.coord,
      ⟨iff_of_true hheld.hold hphase, fun _ => ⟨hheld.stage, hheld.grace, hheld.wait⟩, fun hr => ?_, fun hs => ?_, ?_, fun hr => ?_,
        .inl hheld.step⟩, ?_, ?_, fun hq => ?_, hsolo, htarget⟩
    · rw [hheld.hold] at hr
      cases hr
    · rw [hheld.wait] at hs
      cases hs
    · rw [hheld.grace, hheld.stage]
      decide
    · rw [hphase] at hr
      cases hr
    · rw [hheld.fast, Actors.wantsFast, hphase]
      simp [Phase.isFast]
    · rw [hheld.down, Actors.wantsStandDown, hheld.hold]
      simp
    · exact absurd (hphase.symm.trans hq) (by decide)
  · have hfalse := hlive.hold
    have hnot : ¬ s.act.seq.rejoinHold = true := by simp [hfalse]
    exact ⟨fun hr => absurd hr hnot, hlive.coord, ⟨iff_of_false hnot hlive.phase, fun hr => absurd hr hnot, fun _ => hlive.met,
      hlive.safe, hlive.grace, hlive.restart, hlive.fits⟩, hlive.fast, hlive.down, hlive.quiet, hsolo, htarget⟩

/-- With the blocks sound each for itself, the relations make the state sound. -/
theorem State.Whole.sound (h : s.Whole) (hport : s.port.Sound) (hassessor : s.assessor.Sound) (hline : s.act.line.Fit)
    (hpeers : s.PeersSound) (hscanner : s.scanner.Sound) : s.Sound := by
  obtain ⟨hpulse, hrecords⟩ := (Driver.good_iff _).1 h.act.good
  obtain ⟨hrest, hcoord, hstage, hjudged⟩ := h.relations
  refine ⟨hport, hassessor, hline.1, hline.2, hpeers, hscanner, hpulse, hrecords, h.act.close, hrest, hcoord, hstage, hjudged,
    h.sensor, ?_, h.window, h.awaiting⟩
  rw [h.act.hold]
  simp

theorem State.Whole.tick (h : s.Whole) : s.tick.Whole := by
  have hline : (s.acting fun _ a => a.withLine a.line.tick).Whole := h.acting fun _ k => k.withLine _ rfl
  unfold State.tick
  dsimp only
  split
  · exact hline.congr rfl rfl rfl rfl rfl hline.awaiting
  · exact hline.congr rfl rfl rfl rfl rfl hline.awaiting

/-- Settles O60: the blocks keep their own soundness whatever the command, and the relations are carried through it. -/
theorem stepKeepsTheStateSound : Obligations.StepKeepsTheStateSound := by
  intro s t hs hstep
  have hwhole := hs.whole
  obtain ⟨hport, hassessor, hline, hreceiver, hpeers, hscanner, -⟩ := hs
  obtain rfl | ⟨straps, high, pending, rfl⟩ | ⟨c, rest, hexec, hframe⟩ := step_cases hstep
  · rw [s.tick_eq]
    have htick := hwhole.tick
    rw [s.tick_eq] at htick
    exact htick.sound hport hassessor (LineUnit.Fit.tick ⟨hline, hreceiver⟩) hpeers hscanner
  · exact State.afterReset_sound straps high pending
  · by_cases hreset : ∃ straps high, c = .reset straps high
    · obtain ⟨straps, high, rfl⟩ := hreset
      rw [← Host.Outcome.next.inj hexec]
      exact State.afterReset_sound _ _ _
    · have hrest : State.Whole { s with pending := rest } := hwhole.congr rfl rfl rfl rfl rfl hwhole.awaiting
      have ht := exec_whole hrest hexec fun straps high hc => hreset ⟨straps, high, hc⟩
      exact ht.sound (hframe.port hport) (hframe.assessor hassessor) (hframe.line ⟨hline, hreceiver⟩) (hframe.peers hpeers)
        (hframe.scanner hscanner)

/-- Settles O59, a part of O60. -/
theorem stepKeepsTheChannels : Obligations.StepKeepsTheChannels := by
  intro s t hs hstep
  obtain ⟨-, -, -, -, -, -, hpulse, hrecords, hclose, hrest, -⟩ := stepKeepsTheStateSound s t hs hstep
  exact ⟨hpulse, hrecords, hclose, hrest⟩

end Sys2Proof.Machine
end

section
/-! PROOFS. The words of a frame and the bytes of a telegram: what is clocked in is read back, and what is sent is heard. -/

namespace Sys2Proof.Machine

/-! ### The words of a frame (01, section 1.1) -/

/-- One more bit of a word shifted in behind those before it. -/
theorem shift_next_bit (w : Word16) (k : Nat) (hk : k < 16) :
    (w >>> (16 - k)) <<< 1 ||| (if w.getMsbD k then 1 else 0) = w >>> (15 - k) := by
  have hbit : ∀ i, (if w.getMsbD k then (1 : Word16) else 0).getLsbD i = (decide (i = 0) && w.getLsbD (15 - k)) := by
    intro i
    have hm : w.getMsbD k = w.getLsbD (15 - k) := by simp [BitVec.getMsbD, hk]
    rw [hm]
    cases w.getLsbD (15 - k) <;> simp [BitVec.getLsbD_one]
  refine BitVec.eq_of_getLsbD_eq fun i hi => ?_
  rw [BitVec.getLsbD_or, hbit]
  cases i with
  | zero => simp
  | succ i =>
    have : 16 - k + i = 15 - k + (i + 1) := by omega
    simp [hi, this]

/-- The first k bits of a word, short of its last. -/
theorem Port.clockBits_part (p : Port) (w : Word16) (k : Nat) (hk : k ≤ 15) (hpos : p.wordPos < 4) (hcount : p.bitCount = 0)
    (hshift : p.shift = 0) :
    ((List.range k).map w.getMsbD).foldl Port.clockBit p = { p with bitCount := k, shift := w >>> (16 - k) } := by
  induction k with
  | zero =>
    have hzero : w >>> 16 = 0 := BitVec.eq_of_toNat_eq (by simp [Nat.shiftRight_eq_div_pow]; omega)
    show p = _
    rw [Nat.sub_zero, hzero, ← hshift, ← hcount]
  | succ k ih =>
    rw [List.range_succ, List.map_append, List.foldl_append, ih (by omega)]
    show Port.clockBit _ (w.getMsbD k) = _
    have hnext := shift_next_bit w k (by omega)
    unfold Port.clockBit
    dsimp only
    rw [if_neg (by omega), if_neg (by omega), hnext, show 15 - k = 16 - (k + 1) by omega]

/-- A whole word clocked in. -/
theorem Port.clockBits_word (p : Port) (w : Word16) (hpos : p.wordPos < 4) (hcount : p.bitCount = 0) (hshift : p.shift = 0) :
    (wordBits w).foldl Port.clockBit p = { p with wordPos := p.wordPos + 1, words := p.words ++ [w] } := by
  have hlast := shift_next_bit w 15 (by omega)
  unfold wordBits
  rw [List.range_succ (n := 15), List.map_append, List.foldl_append, p.clockBits_part w 15 le_rfl hpos hcount hshift]
  show Port.clockBit _ (w.getMsbD 15) = _
  unfold Port.clockBit
  dsimp only
  rw [if_neg (by omega), if_pos rfl, hlast, ← hcount, ← hshift]
  rfl

/-- How far a number of bits has filled the frame. -/
def Port.Filled (p : Port) (n : Nat) : Prop :=
  (n ≤ 64 ∧ p.wordPos = n / 16 ∧ p.bitCount = n % 16) ∨ (64 < n ∧ p.wordPos = 5)

theorem Port.filled_clockBit {p : Port} {n : Nat} (h : p.Filled n) (bit : Bool) : (p.clockBit bit).Filled (n + 1) := by
  unfold Port.Filled at h ⊢
  unfold Port.clockBit
  split
  · next hfull =>
    dsimp only
    omega
  · dsimp only
    split
    · dsimp only
      omega
    · dsimp only
      omega

theorem Port.filled_clockFrame (p : Port) (bits : List Bool) : (p.clockFrame bits).Filled bits.length := by
  have hall : ∀ (bits : List Bool) (q : Port) (n : Nat), q.Filled n → (bits.foldl Port.clockBit q).Filled (n + bits.length) := by
    intro bits
    induction bits with
    | nil => exact fun _ _ h => h
    | cons b bits ih =>
      intro q n h
      rw [List.length_cons, show n + (bits.length + 1) = n + 1 + bits.length by omega]
      exact ih _ _ (Port.filled_clockBit h b)
  have h := hall bits p.openFrame 0 (.inl ⟨by omega, rfl, rfl⟩)
  rwa [Nat.zero_add] at h

/-- Settles O5: four words fill the frame exactly, each with its own value; another number of bits does not. -/
theorem frameBitsReadBack : Obligations.FrameBitsReadBack := by
  refine ⟨fun p head x y z => ?_, fun p bits hlen => ?_⟩
  · unfold Port.clockFrame
    rw [List.foldl_append, List.foldl_append, List.foldl_append]
    rw [p.openFrame.clockBits_word head (by simp [Port.openFrame]) rfl rfl, Port.clockBits_word _ x (by simp [Port.openFrame]) rfl rfl,
      Port.clockBits_word _ y (by simp [Port.openFrame]) rfl rfl, Port.clockBits_word _ z (by simp [Port.openFrame]) rfl rfl]
    simp [Port.soundFrame?, Port.openFrame, Sample.ofCounts, clippedCount, Bool.or_assoc]
  · have h := p.filled_clockFrame bits
    unfold Port.Filled at h
    exact if_neg (by omega)

/-! ### The bytes of a telegram (03, sections 3.3 and 3.4) -/

/-- A byte with a good stop bit, stored in ASSEMBLE. -/
theorem receiveBytes_assemble (buf : List Byte) (b : Byte) (rest : List RxByte) :
    receiveBytes .assemble buf (⟨b, true⟩ :: rest) =
      if progress (buf ++ [b]) = .pending then receiveBytes .assemble (buf ++ [b]) rest
      else ⟨.skip, [], progress (buf ++ [b])⟩ := by
  show (match (store (buf ++ [b])).verdict with
    | .pending => receiveBytes (store (buf ++ [b])).receiver (store (buf ++ [b])).buf rest
    | _ => store (buf ++ [b])) = _
  unfold store
  cases hp : progress (buf ++ [b]) with
  | pending => simp
  | discarded d => simp
  | valid t => simp

theorem receiveBytes_sync (rest : List RxByte) :
    receiveBytes .ready [] (⟨0x5A, true⟩ :: rest) = receiveBytes .assemble [0x5A] rest := rfl

theorem judge_ne_pending (sender kind length : Byte) (rest : List Byte) : judge sender kind length rest ≠ .pending := by
  unfold judge
  dsimp only
  split
  · split
    · split <;> simp
    · simp
  · simp

/-- The header of a telegram of a known kind is taken whole. -/
theorem receiveBytes_header {sender kind : Byte} {n : Nat} (hsender : sender.toNat ≤ 35) (hkind : kindLength kind.toNat = some n)
    (hn : n < 256) (rest : List RxByte) :
    receiveBytes .ready [] (onTheLine [0x5A, sender, kind, BitVec.ofNat 8 n] ++ rest) =
      receiveBytes .assemble [0x5A, sender, kind, BitVec.ofNat 8 n] rest := by
  have hlength : (BitVec.ofNat 8 n).toNat = n := by simp [Nat.mod_eq_of_lt hn]
  show receiveBytes .ready [] (⟨0x5A, true⟩ :: ⟨sender, true⟩ :: ⟨kind, true⟩ :: ⟨BitVec.ofNat 8 n, true⟩ :: rest) = _
  rw [receiveBytes_sync, receiveBytes_assemble, receiveBytes_assemble, receiveBytes_assemble]
  simp [progress, hsender, hkind, hlength]

/-- Payload and CRC are stored up to the last byte, which is judged. -/
theorem receiveBytes_body (sender kind : Byte) (n : Nat) (hn : n < 256) (todo done : List Byte)
    (hlen : done.length + todo.length = n + 2) (htodo : todo ≠ []) :
    receiveBytes .assemble (0x5A :: sender :: kind :: BitVec.ofNat 8 n :: done) (onTheLine todo) =
      ⟨.skip, [], judge sender kind (BitVec.ofNat 8 n) (done ++ todo)⟩ := by
  have hlength : (BitVec.ofNat 8 n).toNat = n := by simp [Nat.mod_eq_of_lt hn]
  induction todo generalizing done with
  | nil => exact absurd rfl htodo
  | cons b todo ih =>
    have hprogress : progress ((0x5A :: sender :: kind :: BitVec.ofNat 8 n :: done) ++ [b]) =
        if todo = [] then judge sender kind (BitVec.ofNat 8 n) (done ++ [b]) else .pending := by
      rw [List.length_cons] at hlen
      obtain ⟨c, cs, hcons⟩ : ∃ c cs, done ++ [b] = c :: cs := List.exists_cons_of_ne_nil (by simp)
      have hcount : (c :: cs).length = done.length + 1 := by rw [← hcons]; simp
      rw [List.cons_append, List.cons_append, List.cons_append, List.cons_append, hcons]
      show (if (c :: cs).length = (BitVec.ofNat 8 n).toNat + 2 then judge sender kind (BitVec.ofNat 8 n) (c :: cs) else .pending) = _
      rw [hcount, hlength]
      by_cases hlast : todo = []
      · subst hlast
        rw [if_pos rfl, if_pos (by simpa using hlen)]
      · have := List.length_pos_iff.2 hlast
        rw [if_neg hlast, if_neg (by omega)]
    show receiveBytes .assemble _ (⟨b, true⟩ :: onTheLine todo) = _
    rw [receiveBytes_assemble, hprogress]
    by_cases hlast : todo = []
    · subst hlast
      rw [if_pos rfl, if_neg (judge_ne_pending _ _ _ _)]
    · rw [if_neg hlast, if_pos rfl]
      rw [List.length_cons] at hlen
      have := ih (done ++ [b]) (by simp; omega) hlast
      simpa using this

theorem kindLength_lt {k n : Nat} (h : kindLength k = some n) : n < 256 := by
  unfold kindLength at h
  split at h
  all_goals simp at h
  all_goals omega

theorem judge_append (sender kind : Byte) (payload crc : List Byte) (hn : payload.length < 256) :
    judge sender kind (BitVec.ofNat 8 payload.length) (payload ++ crc) =
      if crc ≠ crcBytes (sender :: kind :: BitVec.ofNat 8 payload.length :: payload) then .discarded .crcFailure
      else match readFields? kind.toNat sender payload with
        | none => .discarded .outOfRange
        | some t => if t.suitsSender then .valid t else .discarded .wrongSender := by
  have hlength : (BitVec.ofNat 8 payload.length).toNat = payload.length := by simp [Nat.mod_eq_of_lt hn]
  unfold judge
  dsimp only
  rw [hlength, List.take_left, List.drop_left]
  by_cases hcrc : crc = crcBytes (sender :: kind :: BitVec.ofNat 8 payload.length :: payload)
  · rw [if_pos hcrc, if_neg (not_not.2 hcrc)]
    cases readFields? kind.toNat sender payload <;> rfl
  · rw [if_neg hcrc, if_pos hcrc]

/-- Settles O13: the header is taken, payload and CRC are stored, and the last byte brings the judgement. -/
theorem telegramIsJudgedAtItsLastByte : Obligations.TelegramIsJudgedAtItsLastByte := by
  intro kind sender high low payload hkind hsender
  have hn := kindLength_lt hkind
  have hsplit : onTheLine (0x5A :: sender :: kind :: BitVec.ofNat 8 payload.length :: (payload ++ [high, low]))
      = onTheLine [0x5A, sender, kind, BitVec.ofNat 8 payload.length] ++ onTheLine (payload ++ [high, low]) := by
    simp [onTheLine]
  rw [hsplit, receiveBytes_header hsender hkind hn,
    receiveBytes_body sender kind payload.length hn (payload ++ [high, low]) [] (by simp) (by simp), List.nil_append]
  exact congrArg (Reception.mk .skip []) (judge_append sender kind payload [high, low] hn)

/-- A telegram as sent is heard by a READY receiver, its fields judged. -/
theorem receiveBytes_frameBytes {kind sender : Byte} {payload : List Byte} (hkind : kindLength kind.toNat = some payload.length)
    (hsender : sender.toNat ≤ 35) {t : Telegram} (hfields : readFields? kind.toNat sender payload = some t)
    (hsuits : t.suitsSender = true) :
    receiveBytes .ready [] (onTheLine (frameBytes kind sender payload)) = ⟨.skip, [], .valid t⟩ := by
  have hframe : frameBytes kind sender payload = 0x5A :: sender :: kind :: BitVec.ofNat 8 payload.length :: (payload
      ++ [(crc16 (sender :: kind :: BitVec.ofNat 8 payload.length :: payload)).extractLsb' 8 8,
        (crc16 (sender :: kind :: BitVec.ofNat 8 payload.length :: payload)).extractLsb' 0 8]) := rfl
  rw [hframe, telegramIsJudgedAtItsLastByte _ _ _ _ _ hkind hsender, hfields]
  simp only [crcBytes, ne_eq, not_true_eq_false, if_false, hsuits, if_true]

/-! ### STATE payload (R48) -/

theorem highNibble_nibbles {a b : Nat} (ha : a < 16) (hb : b < 16) : highNibble (nibbles a b) = a := by
  unfold highNibble nibbles
  rw [BitVec.toNat_ofNat]
  omega

theorem lowNibble_nibbles {a b : Nat} (hb : b < 16) : lowNibble (nibbles a b) = b := by
  unfold lowNibble nibbles
  rw [BitVec.toNat_ofNat]
  omega

theorem gradeOfCode?_gradeCode (g : Option Grade) : gradeOfCode? (gradeCode g) = some g ∧ gradeCode g < 16 := by
  cases g with
  | none => exact ⟨rfl, by decide⟩
  | some g =>
    have := g.isLt
    refine ⟨?_, show g.val < 16 by omega⟩
    simp [gradeOfCode?, gradeCode]

theorem Detector.ofCode?_code (d : Detector) : Detector.ofCode? d.code = some d ∧ d.code < 16 := by cases d <;> decide

theorem Phase.ofCode?_code (p : Phase) : Phase.ofCode? p.code = some p ∧ p.code < 16 := by cases p <;> decide

theorem Stage.ofCode?_code (s : Stage) : Stage.ofCode? s.code = some s ∧ s.code < 16 := by cases s <;> decide

theorem directiveResultOfCode?_code (r : Option DirectiveResult) :
    directiveResultOfCode? (directiveResultCode r) = some r ∧ directiveResultCode r < 16 := by
  cases r with
  | none => decide
  | some r => cases r <;> decide

theorem directiveKindOfCode?_code (k : Option DirectiveKind) :
    directiveKindOfCode? (directiveKindCode k) = some k ∧ directiveKindCode k < 16 := by
  cases k with
  | none => decide
  | some k => cases k <;> decide

theorem extractLsb'_append_high {n m : Nat} (x : BitVec n) (y : BitVec m) : (x ++ y).extractLsb' m n = x := by
  ext i hi
  simp [BitVec.getLsbD_append, BitVec.getLsbD_eq_getElem hi]

theorem extractLsb'_append_low {n m : Nat} (x : BitVec n) (y : BitVec m) : (x ++ y).extractLsb' 0 m = y := by
  ext i hi
  simp [BitVec.getLsbD_append, hi]

theorem append_extractLsb' {n m : Nat} (x : BitVec (n + m)) : x.extractLsb' m n ++ x.extractLsb' 0 m = x := by
  ext i hi
  simp

/-- Eight flags appended are the bits of their byte, the last the lowest. -/
theorem flagByte_getLsbD (p : StatePayload) (k : Nat) (hk : k < 8) :
    p.flagByte.getLsbD k = [p.resetSeen, p.duplicate, p.scanFault, p.channelFailed, p.clipped, p.congested, p.permit, p.fast][k] := by
  unfold StatePayload.flagByte
  simp only [BitVec.getLsbD_append, BitVec.getLsbD_ofBool]
  interval_cases k <;> simp

theorem keyByte_getLsbD (p : StatePayload) :
    ((0 : BitVec 4) ++ BitVec.ofBool p.testKey ++ BitVec.ofBool p.utilityAbsent ++ p.group : BitVec 8).getLsbD 3 = p.testKey
      ∧ ((0 : BitVec 4) ++ BitVec.ofBool p.testKey ++ BitVec.ofBool p.utilityAbsent ++ p.group : BitVec 8).getLsbD 2
        = p.utilityAbsent := by
  simp only [BitVec.getLsbD_append, BitVec.getLsbD_ofBool]
  simp

/-- Settles O14: each field is read from the place it was written to. -/
theorem statePayloadRoundTrip : Obligations.StatePayloadRoundTrip := by
  intro p
  obtain ⟨hgrade, hgrade'⟩ := gradeOfCode?_gradeCode p.grade
  obtain ⟨hdetector, hdetector'⟩ := p.detector.ofCode?_code
  obtain ⟨hphase, hphase'⟩ := p.phase.ofCode?_code
  obtain ⟨hstage, hstage'⟩ := p.stage.ofCode?_code
  obtain ⟨hresult, hresult'⟩ := directiveResultOfCode?_code p.directiveResult
  obtain ⟨hkind, hkind'⟩ := directiveKindOfCode?_code p.directiveKind
  unfold StatePayload.encode StatePayload.decode?
  simp only [highNibble_nibbles hgrade' hdetector', lowNibble_nibbles hdetector', highNibble_nibbles hphase' hstage',
    lowNibble_nibbles hstage', highNibble_nibbles hresult' hkind', lowNibble_nibbles hkind', hgrade, hdetector,
    hphase, hstage, hresult, hkind, Option.bind_eq_bind, Option.bind_some]
  have honset : p.onsetAge.extractLsb' 8 8 ++ p.onsetAge.extractLsb' 0 8 = p.onsetAge := append_extractLsb' (n := 8) (m := 8) _
  have hfailed : ((0 : BitVec 6) ++ p.failed.extractLsb' 8 2 : BitVec 8).extractLsb' 0 2 ++ p.failed.extractLsb' 0 8 = p.failed := by
    have hlow : ((0 : BitVec 6) ++ p.failed.extractLsb' 8 2 : BitVec 8).extractLsb' 0 2 = p.failed.extractLsb' 8 2 :=
      extractLsb'_append_low (n := 6) (m := 2) _ _
    rw [hlow]
    exact append_extractLsb' (n := 2) (m := 8) _
  have hconsole : (p.console ++ p.auxiliary : BitVec 8).extractLsb' 6 2 = p.console := extractLsb'_append_high (n := 2) (m := 6) _ _
  have haux : (p.console ++ p.auxiliary : BitVec 8).extractLsb' 0 6 = p.auxiliary := extractLsb'_append_low (n := 2) (m := 6) _ _
  have hgroup : ((0 : BitVec 4) ++ BitVec.ofBool p.testKey ++ BitVec.ofBool p.utilityAbsent ++ p.group : BitVec 8).extractLsb' 0 2
      = p.group := extractLsb'_append_low (n := 6) (m := 2) _ _
  have hkeys := keyByte_getLsbD p
  simp only [honset, hfailed, hconsole, haux, hgroup, hkeys, flagByte_getLsbD p _ (show 7 < 8 by decide),
    flagByte_getLsbD p _ (show 6 < 8 by decide), flagByte_getLsbD p _ (show 5 < 8 by decide),
    flagByte_getLsbD p _ (show 4 < 8 by decide), flagByte_getLsbD p _ (show 3 < 8 by decide),
    flagByte_getLsbD p _ (show 2 < 8 by decide), flagByte_getLsbD p _ (show 1 < 8 by decide),
    flagByte_getLsbD p _ (show 0 < 8 by decide)]
  rfl

/-! ### What the station sends (R46, R49, R69) -/

theorem State.sender_lt (s : State) : s.sender.toNat < 32 := by
  have := s.straps.stn.isLt
  simp only [State.sender, BitVec.truncate_eq_setWidth, BitVec.toNat_setWidth]
  omega

/-- A restart telegram's fields are read as they were sent. -/
theorem readFields?_restart (k : RestartKind) (sender : Byte) (group : BitVec 2) :
    readFields? k.code.toNat sender [group.zeroExtend 8] = some (.restart k sender group) := by
  have hsmall : (group.zeroExtend 8).toNat ≤ 3 := by
    have := group.isLt
    simp only [BitVec.truncate_eq_setWidth, BitVec.toNat_setWidth]
    omega
  have hback : (group.zeroExtend 8).extractLsb' 0 2 = group := by
    ext i hi
    simp [hi]
    omega
  have hread : restartTelegram? k sender [group.zeroExtend 8] = some (.restart k sender group) := by
    unfold restartTelegram?
    dsimp only
    rw [if_pos hsmall, hback]
  cases k <;> exact hread

theorem auxiliaryBits_getElem (sc : Scanner) (k : Fin 6) : (auxiliaryBits sc)[k] = sc.active (10 + k) := by
  have hbits : ∀ j (hj : j < 6), (auxiliaryBits sc).getLsbD j = sc.active (10 + j) := by
    intro j hj
    unfold auxiliaryBits
    simp only [BitVec.getLsbD_append, BitVec.getLsbD_ofBool]
    interval_cases j <;> simp
  exact hbits k.val k.isLt

theorem Driver.failedBitmap_getElem (d : Driver) (k : Nat) (hk : k < 10) : d.failedBitmap[k] =
    [d.advise.failed, d.lift.failed, d.freeze.failed, d.haltreq.failed, d.tripA.failed, d.tripB.failed, d.valve.failed,
      d.coolstop.failed, d.closeA.failed, d.closeB.failed][k] := by
  rw [← BitVec.getLsbD_eq_getElem]
  exact getLsbD_ofBool_append _ _ _ _ _ _ _ _ _ _ k hk

/-- Settles O15: what is sent is a valid telegram, its fields those of their owners. -/
theorem ownTelegramIsHeardAsSent : Obligations.OwnTelegramIsHeardAsSent := by
  intro s e
  have hlt := s.sender_lt
  refine ⟨?_, rfl, rfl, rfl, rfl, rfl, ?_, rfl, rfl, rfl, rfl, rfl, rfl, rfl, rfl, rfl, rfl, rfl, rfl, rfl, rfl, auxiliaryBits_getElem s.scanner,
    decide_eq_true_eq, ?_⟩
  · unfold State.telegramOf
    cases e.kind with
    | state urgent =>
      refine receiveBytes_frameBytes rfl (by omega) ?_ (decide_eq_true hlt)
      show (StatePayload.decode? s.stateContent.encode).map _ = _
      rw [statePayloadRoundTrip]
      rfl
    | restart k =>
      have hkind : kindLength k.code.toNat = some 1 := by cases k <;> rfl
      exact receiveBytes_frameBytes hkind (by omega) (readFields?_restart k _ _) (decide_eq_true hlt)
  · show onsetAge s.clock s.assessor.onset = _
    cases s.assessor.onset <;> rfl
  · have hfailed := s.act.drv.failedBitmap_getElem
    exact ⟨hfailed 0 (by decide), hfailed 1 (by decide), hfailed 2 (by decide), hfailed 3 (by decide), hfailed 4 (by decide),
      hfailed 5 (by decide), hfailed 6 (by decide), hfailed 7 (by decide), hfailed 8 (by decide), hfailed 9 (by decide)⟩

/-! ### Discards (R50 to R54) -/

/-- A verdict leaves the receiver in SKIP with nothing stored. -/
theorem receiveBytes_of_verdict (receiver : Receiver) (buf : List Byte) (bytes : List RxByte)
    (h : (receiveBytes receiver buf bytes).verdict ≠ .pending) :
    receiveBytes receiver buf bytes = ⟨.skip, [], (receiveBytes receiver buf bytes).verdict⟩ := by
  have hbyte : ∀ (r : Receiver) (l : List Byte) (b : RxByte), (receiveByte r l b).verdict ≠ .pending →
      receiveByte r l b = ⟨.skip, [], (receiveByte r l b).verdict⟩ := by
    intro r l b hv
    unfold receiveByte store at hv ⊢
    cases r with
    | skip => rfl
    | ready =>
      dsimp only at hv ⊢
      split
      · rfl
      · split
        · simp_all
        · rfl
    | assemble =>
      dsimp only at hv ⊢
      split
      · rfl
      · split
        · simp_all
        · rfl
  induction bytes generalizing receiver buf with
  | nil => exact absurd rfl h
  | cons b bs ih =>
    unfold receiveBytes at h ⊢
    dsimp only at h ⊢
    split
    · next hp =>
      rw [hp] at h
      exact ih _ _ h
    · next hp => exact hbyte _ _ _ hp

/-- Bytes that bring a verdict to a READY receiver leave the line heard. -/
theorem State.hearBytes_of_verdict (s : State) (bytes : List RxByte) (hears : s.act.line.Hears)
    (hverdict : (receiveBytes .ready [] bytes).verdict ≠ .pending) :
    s.hearBytes bytes = (s.acting fun v a => a.withLine (a.line.heard v.now bytes)).onVerdict
      (receiveBytes .ready [] bytes).verdict := by
  obtain ⟨hready, hbuf⟩ := hears
  have hne : bytes.isEmpty = false := by
    cases bytes with
    | nil => exact absurd rfl hverdict
    | cons b bs => rfl
  have hreception := receiveBytes_of_verdict _ _ _ hverdict
  generalize (receiveBytes .ready [] bytes).verdict = verdict at *
  have hwith : s.act.line.withReception ⟨.skip, [], verdict⟩ true false =
      { s.act.line with receiver := .skip, rxBuf := [], gapBits := 0, inByte := false } := by
    simp [LineUnit.withReception]
  unfold State.hearBytes State.hearLine State.acting
  dsimp only
  rw [hready, hbuf, hreception, hne, Bool.not_false, hwith]
  rfl

/-- Settles O16: each clause follows the receiver to the byte that fails; the rest is skipped. -/
theorem discardedTelegramIsCountedOnce : Obligations.DiscardedTelegramIsCountedOnce := by
  refine ⟨fun d rest => rfl, fun b d rest hdata hstop => ?_, fun d rest hd => ?_, fun sender rest hs => ?_,
    fun sender kind rest hs hk => ?_, fun sender kind length n rest hs hk hl => ?_, fun s bytes hears hends => ?_⟩
  · obtain ⟨data, stop⟩ := b
    subst hdata
    subst hstop
    rfl
  · have hbyte : receiveByte .ready [] ⟨d, true⟩ = ⟨.skip, [], .discarded .badSync⟩ := if_neg hd
    simp only [receiveBytes, hbyte]
  · show receiveBytes .ready [] (⟨0x5A, true⟩ :: ⟨sender, true⟩ :: rest) = _
    rw [receiveBytes_sync, receiveBytes_assemble]
    simp [progress, hs]
  · have hunknown : kindLength kind.toNat = none := by
      unfold kindLength
      split <;> first | omega | rfl
    show receiveBytes .ready [] (⟨0x5A, true⟩ :: ⟨sender, true⟩ :: ⟨kind, true⟩ :: rest) = _
    rw [receiveBytes_sync, receiveBytes_assemble, receiveBytes_assemble]
    simp [progress, hs, hunknown]
  · show receiveBytes .ready [] (⟨0x5A, true⟩ :: ⟨sender, true⟩ :: ⟨kind, true⟩ :: ⟨length, true⟩ :: rest) = _
    rw [receiveBytes_sync, receiveBytes_assemble, receiveBytes_assemble, receiveBytes_assemble]
    simp [progress, hs, hk, Ne.symm hl]
  · have hverdict : (receiveBytes .ready [] bytes).verdict ≠ .pending := fun hp => by
      rw [endsInDiscard, hp] at hends
      cases hends
    have hheard := s.hearBytes_of_verdict bytes hears hverdict
    unfold endsInDiscard at hends
    cases hd : (receiveBytes .ready [] bytes).verdict with
    | pending => exact absurd hd hverdict
    | valid t =>
      rw [hd] at hends
      cases hends
    | discarded d =>
      rw [hd] at hheard
      show Host.Outcome.next (s.event fun s => s.hearBytes bytes) = _
      rw [s.event_of_drv _ (by rw [hheard]; rfl), hheard]
      rfl

end Sys2Proof.Machine
end

section
/-! PROOFS. The Line Unit's events (03): line level, access wait, transmission and timers. -/

namespace Sys2Proof.Machine

/-! ### Which line events touch the Line Unit alone -/

theorem State.event_line (s : State) (f : State → State) (l : LineUnit)
    (h : f s = { s with act := { s.act with line := l } }) : s.event f = { s with act := { s.act with line := l } } := by
  rw [s.event_of_drv f (by rw [h]), h]

theorem State.eventWhen_line (s : State) {occurs : Bool} (hoccurs : occurs = true) (f : State → State) (l : LineUnit)
    (h : f s = { s with act := { s.act with line := l } }) :
    s.eventWhen occurs f = { s with act := { s.act with line := l } } := by
  rw [hoccurs, State.eventWhen_true, s.event_line f l h]

/-! ### The waits -/

theorem LineUnit.waiting_iff (l : LineUnit) : l.waiting = true ↔ l.sending = false ∧ l.queue ≠ [] := by
  simp [LineUnit.waiting]

theorem LineUnit.muted_eq_false_iff (l : LineUnit) : l.muted = false ↔ l.mute = none := by
  simp [LineUnit.muted]

/-- On a BUSY line the idle count stands still, and the line-stuck timer runs while an entry waits unmuted (R61, R66). -/
theorem LineUnit.rejudge_of_busy (l : LineUnit) (now : Stamp) (h : l.condition = .busy) :
    l.rejudge now = { l with
      idleCount := none
      stuckTimer := if l.sending = false ∧ l.queue ≠ [] ∧ l.mute = none then some (l.stuckTimer.getD now) else none } := by
  have hwaits : (l.waiting && !l.muted) = true ↔ l.sending = false ∧ l.queue ≠ [] ∧ l.mute = none := by
    rw [Bool.and_eq_true, l.waiting_iff, Bool.not_eq_true', l.muted_eq_false_iff, and_assoc]
  unfold LineUnit.rejudge
  simp only [h, decide_true, Bool.and_true, hwaits, reduceCtorEq, decide_false, Bool.and_false, Bool.false_and,
    Bool.false_eq_true, if_false]

/-! ### LINE_BUSY (R44, R50) -/

/-- Settles O18: a dominant level alone, SYNC to a READY receiver, and bytes to a receiver in SKIP. -/
theorem lineBusyLosesTheAccessCount : Obligations.LineBusyLosesTheAccessCount := by
  refine ⟨fun s start => ?_, fun s start hears => ?_, fun s b rest start hskip => ?_⟩
  · have hline : s.hearLine [] start = { s with act := { s.act with
        line := (s.act.line.withReception ⟨s.act.line.receiver, s.act.line.rxBuf, .pending⟩ false start).busy s.clock
          (if start then 0 else quietTail []) } } := rfl
    refine congrArg Host.Outcome.next ((s.event_line _ _ hline).trans ?_)
    unfold LineUnit.busy
    rw [LineUnit.rejudge_of_busy _ _ rfl]
    simp [LineUnit.withReception, quietTail]
  · obtain ⟨hready, hbuf⟩ := hears
    have hline : s.hearLine [⟨0x5A, true⟩] start = { s with act := { s.act with
        line := (s.act.line.withReception ⟨.assemble, [0x5A], .pending⟩ true start).busy s.clock
          (if start then 0 else quietTail [⟨0x5A, true⟩]) } } := by
      unfold State.hearLine
      rw [hready, hbuf]
      rfl
    refine congrArg Host.Outcome.next ((s.event_line _ _ hline).trans ?_)
    have hquiet : quietTail [⟨0x5A, true⟩] = 1 := by decide
    rw [hquiet]
    simp [LineUnit.withReception, LineUnit.busy]
  · obtain ⟨hpending, hreceiver⟩ := receiveBytes_skip s.act.line.rxBuf (b :: rest)
    rw [← hskip] at hpending hreceiver
    have hline := s.hearLine_of_pending (b :: rest) start hpending
    refine ⟨s.event fun s => s.hearLine (b :: rest) start, rfl, ?_⟩
    rw [s.event_line _ _ hline]
    refine ⟨rfl, ?_⟩
    show (s.hearLine (b :: rest) start).act.line.receiver = _ ∧ _
    unfold State.hearLine
    generalize receiveBytes s.act.line.receiver s.act.line.rxBuf (b :: rest) = r at hpending hreceiver
    simp [hpending, State.onVerdict, LineUnit.busy, LineUnit.withReception, LineUnit.rejudge, hreceiver, hskip]

/-! ### The start of a transmission (R61, R62) -/

theorem LineUnit.startDue_of_reached {l : LineUnit} {e : TxEntry} {rest : List TxEntry} {n station : Nat}
    (hsend : l.sending = false) (hq : l.queue = e :: rest) (hn : l.idleCount = some n) :
    l.startDue station = if e.accessWait station ≤ n then some e else none := by
  simp [LineUnit.startDue, LineUnit.waiting, hq, hn, hsend]

theorem LineUnit.startDue_of_early {l : LineUnit} {e : TxEntry} {rest : List TxEntry} {n station : Nat}
    (hq : l.queue = e :: rest) (hn : l.idleCount = some n) (hearly : n < e.accessWait station) :
    l.startDue station = none := by
  simp [LineUnit.startDue, hq, hn, Nat.not_le.mpr hearly]

theorem State.beginHead_of_none {s : State} (h : s.act.line.startDue s.straps.stn.toNat = none) :
    s.event State.beginHead = s := by
  have hsame : s.beginHead = s := by
    unfold State.beginHead
    rw [h]
  rw [s.event_of_drv _ (by rw [hsame]), hsame]

/-! ### The driven level (R43, R62) -/

theorem telegramLevel_of_bit {bytes : List Byte} {byte : Byte} {k j : Nat} (hbyte : bytes[k]? = some byte) (hj : j < 10) :
    telegramLevel bytes (10 * k + j) = byteLevel byte j := by
  have hdiv : (10 * k + j) / Config.bitTimesPerByte = k := by simp only [Config.bitTimesPerByte]; omega
  have hmod : (10 * k + j) % Config.bitTimesPerByte = j := by simp only [Config.bitTimesPerByte]; omega
  unfold telegramLevel
  rw [hdiv, hmod, hbyte]

theorem byteLevel_eq_false_iff (b : Byte) {j : Nat} (hj : j < 10) :
    byteLevel b j = false ↔ j = 0 ∨ (1 ≤ j ∧ j ≤ 8 ∧ b.getLsbD (j - 1) = false) := by
  unfold byteLevel
  split
  · simp [*]
  · split
    · simp [*]
    · have : 1 ≤ j ∧ j ≤ 8 := by omega
      simp [*]

/-- Settles O19: the access wait by the head's class and collisions, and the level driven bit by bit. -/
theorem transmissionStartsAtTheAccessWait : Obligations.TransmissionStartsAtTheAccessWait := by
  refine ⟨fun s e rest n sound hq hn hwait => ?_, fun s e rest n hq hn hearly => ?_, fun s hn => ?_,
    fun l byte k j hsend hbyte hj hbits => ?_, fun l hover => ?_⟩
  · have hsend : s.act.line.sending = false := by
      obtain ⟨-, -, -, -, -, -, -, hidle, -⟩ := sound
      exact (s.act.line.waiting_iff.mp (hidle.mp (by rw [hn]; rfl)).1).1
    have hdue := LineUnit.startDue_of_reached (station := s.straps.stn.toNat) hsend hq hn
    rw [if_pos (show e.accessWait s.straps.stn.toNat ≤ n from hwait)] at hdue
    have hbegin : s.beginHead = { s with act := { s.act with
        line := s.act.line.begin s.clock (s.telegramOf e) } } := by
      unfold State.beginHead
      rw [hdue]
      rfl
    refine congrArg Host.Outcome.next ((s.event_line _ _ hbegin).trans ?_)
    unfold LineUnit.begin
    rw [LineUnit.rejudge_of_busy _ _ rfl]
    rfl
  · exact congrArg Host.Outcome.next (State.beginHead_of_none (LineUnit.startDue_of_early hq hn hearly))
  · refine congrArg Host.Outcome.next (State.beginHead_of_none ?_)
    rw [Option.eq_none_iff_forall_ne_some]
    intro head hdue
    obtain ⟨-, -, n, -, hsome, -⟩ := LineUnit.startDue_eq_some hdue
    rw [hn] at hsome
    cases hsome
  · have hlevel : l.lde = !byteLevel byte j := by
      unfold LineUnit.lde LineUnit.drivesDominant
      rw [hsend, Bool.true_and, hbits, telegramLevel_of_bit hbyte hj]
    refine ⟨?_, fun h => ?_⟩
    · rw [hlevel, Bool.not_eq_true', byteLevel_eq_false_iff byte hj]
    · exact congrArg Bool.not h
  · unfold LineUnit.lde LineUnit.drivesDominant
    rcases hover with hidle | hend
    · rw [hidle, Bool.false_and]
    · have hnone : l.txBytes[l.txBits / Config.bitTimesPerByte]? = none := by
        rw [List.getElem?_eq_none_iff]
        simp only [Config.bitTimesPerByte]
        omega
      unfold telegramLevel
      rw [hnone]
      exact Bool.and_false _

/-! ### Notices and requests together (R57 to R59) -/

theorem mem_requestInto_of_isState {w : List TxEntry} {e : TxEntry} (he : e ∈ w) (hs : e.isState = true)
    (k : RestartKind) : e ∈ requestInto w k := by
  unfold requestInto addRestart
  split
  · split
    · split <;> simp [he]
    · simp [he]
  · split
    · exact List.mem_filter.mpr ⟨he, hs⟩
    · exact List.mem_map.mpr ⟨e, he, by rw [if_pos hs]⟩

theorem any_restart_requestInto (w : List TxEntry) {k : RestartKind} (hk : k ≠ .yield) :
    (requestInto w k).any (fun e => e.restart? = some k) = true := by
  have hnew : (TxEntry.new (.restart k)).restart? = some k := rfl
  unfold requestInto addRestart
  split
  · split
    · split <;> simp [hnew]
    · simp [hnew]
  · next held hheld =>
    rw [if_neg (fun h => hk h.2)]
    obtain ⟨e, he, hrestart⟩ := List.exists_of_findSome?_eq_some hheld
    have hkind : e.isState = false := by
      rw [← Bool.not_eq_true, ← TxEntry.restart?_eq_none_iff, hrestart]
      simp
    rw [List.any_map, List.any_eq_true]
    exact ⟨e, he, by simp [hkind, hnew]⟩

theorem LineUnit.request_eq (l : LineUnit) (now : Stamp) (k : RestartKind) :
    l.request now k = (if l.inTransit.any (fun e => !e.isState) then { l with deferred := deferInto l.deferred k }
      else { l with queue := l.inTransit ++ requestInto l.waitingEntries k }).rejudge now := rfl

theorem LineUnit.urgentDue_rejudge (l : LineUnit) (now : Stamp) : (l.rejudge now).urgentDue = l.urgentDue := rfl

theorem LineUnit.restartAsked_rejudge (l : LineUnit) (now : Stamp) (k : RestartKind) :
    (l.rejudge now).restartAsked k = l.restartAsked k := rfl

/-- The Line Unit with other entries behind the one in transmission. -/
theorem LineUnit.waitingEntries_replace {l : LineUnit} (hsend : l.sending → l.queue ≠ []) (w : List TxEntry) :
    ({ l with queue := l.inTransit ++ w }).inTransit = l.inTransit
      ∧ ({ l with queue := l.inTransit ++ w }).waitingEntries = w :=
  LineUnit.split_of_append hsend rfl

/-- A request leaves an urgent STATE due (R57, R58). -/
theorem LineUnit.urgentDue_request {l : LineUnit} (hsend : l.sending → l.queue ≠ []) (now : Stamp) (k : RestartKind)
    (h : l.urgentDue = true) : (l.request now k).urgentDue = true := by
  rw [LineUnit.request_eq, LineUnit.urgentDue_rejudge]
  split
  · exact h
  · obtain ⟨htransit, hwaiting⟩ := LineUnit.waitingEntries_replace hsend (requestInto l.waitingEntries k)
    unfold LineUnit.urgentDue at h ⊢
    rw [htransit, hwaiting]
    rw [Bool.or_eq_true] at h ⊢
    refine h.imp_left fun hany => ?_
    obtain ⟨e, he, hkind⟩ := List.any_eq_true.mp hany
    exact List.any_eq_true.mpr ⟨e, mem_requestInto_of_isState he (e.isState_iff.mpr (.inl (by simpa using hkind))) k, hkind⟩

/-- What is asked for, other than a YIELD, waits or is deferred (R58, R59). -/
theorem LineUnit.restartAsked_request {l : LineUnit} (hsend : l.sending → l.queue ≠ []) (now : Stamp) {k : RestartKind}
    (hk : k ≠ .yield) : (l.request now k).restartAsked k = true := by
  rw [LineUnit.request_eq, LineUnit.restartAsked_rejudge]
  split
  · have hdefer : deferInto l.deferred k = some k := if_neg (fun h => hk h.2)
    simp [LineUnit.restartAsked, hdefer]
  · obtain ⟨-, hwaiting⟩ := LineUnit.waitingEntries_replace hsend (requestInto l.waitingEntries k)
    unfold LineUnit.restartAsked
    rw [hwaiting, any_restart_requestInto _ hk, Bool.true_or]

/-! ### Leave to restart (R157, R158) -/

theorem Actors.authorityHolds_iff (a : Actors) (v : View) : a.authorityHolds v = true ↔
    ((a.coord.permit = true ∧ a.line.stuck = false) ∨ (v.scanner.active 7 = true ∧ a.coord.keyWithheld = false))
      ∧ a.line.mute = none ∧ v.scanner.fault = false := by
  simp [Actors.authorityHolds, Actors.keyAuthority, View.keyTurned, LineUnit.muted_eq_false_iff, and_assoc]

theorem Actors.checkAuthority_of_not {a : Actors} {v : View} (h : a.coord.phase = .awaitPermit → a.authorityHolds v = false) :
    a.checkAuthority v = a := by
  refine if_neg fun hboth => ?_
  rw [Bool.and_eq_true, decide_eq_true_iff] at hboth
  rw [h hboth.1] at hboth
  cases hboth.2

theorem Actors.checkAuthority_of_holds {a : Actors} {v : View} (hphase : a.coord.phase = .awaitPermit)
    (h : a.authorityHolds v = true) : a.checkAuthority v = a.enterBidding v := by
  unfold Actors.checkAuthority
  rw [hphase, h]
  rfl

/-- A change of phase that neither gives a turn up nor leaves ENERGIZING: the coordinator enters it, cadence and stand-down
timer are judged, and an urgent STATE is due. -/
theorem Actors.setPhase_eq_of_no_turn (a : Actors) (v : View) {phase : Phase} (hne : a.coord.phase ≠ phase)
    (hturn : (a.coord.phase.inTurn && phase.standsAside) = false) (henergizing : a.coord.phase ≠ .energizing) :
    a.setPhase v phase = ((a.withCoord (a.coord.enter phase)).judge v).urgent v := by
  unfold Actors.setPhase
  rw [if_neg hne]
  simp only [hturn, henergizing, if_false, Bool.false_eq_true]

/-- The Line Unit as BIDDING is entered: the cadence FAST, an urgent STATE due, a BID asked. -/
def LineUnit.bid (l : LineUnit) (now : Stamp) : LineUnit := ((l.setCadence now true).urgent now).request now .bid

theorem LineUnit.served_bid (l : LineUnit) (now : Stamp) : l.Served now (l.bid now) :=
  ((LineUnit.Served.refl l).cadence true).urgent.request .bid

theorem LineUnit.Sound.nonempty {l : LineUnit} (h : l.Sound) (hs : l.sending = true) : l.queue ≠ [] :=
  h.composed.nonempty hs

theorem LineUnit.Sound.bid {l : LineUnit} (h : l.Sound) (now : Stamp) :
    (l.bid now).fast = true ∧ (l.bid now).urgentDue = true ∧ (l.bid now).restartAsked .bid = true := by
  have hcadence : (l.setCadence now true).Sound := ((LineUnit.Served.refl l).cadence true).sound h
  have hurgent : ((l.setCadence now true).urgent now).Sound := ((LineUnit.Served.refl l).cadence true).urgent.sound h
  refine ⟨?_, LineUnit.urgentDue_request hurgent.nonempty now .bid (LineUnit.urgentDue_urgent _ now hcadence.nonempty),
    LineUnit.restartAsked_request hurgent.nonempty now (by decide)⟩
  unfold LineUnit.bid
  rw [LineUnit.request_fast, LineUnit.urgent_fast, LineUnit.setCadence_fast]

/-- BIDDING entered from a phase other than it and ENERGIZING (R158). -/
theorem Actors.enterBidding_eq (a : Actors) (v : View) (hne : a.coord.phase ≠ .bidding)
    (henergizing : a.coord.phase ≠ .energizing) :
    a.enterBidding v = { a with
      line := a.line.bid v.now
      seq := { a.seq with standDown := none }
      coord := a.coord.enter .bidding } := by
  unfold Actors.enterBidding
  rw [a.setPhase_eq_of_no_turn v hne (Bool.and_false _) henergizing]
  have hfast : (a.withCoord (a.coord.enter .bidding)).wantsFast v = true := by
    simp [Actors.wantsFast, Phase.isFast]
  have hstand : (a.withCoord (a.coord.enter .bidding)).wantsStandDown v = false := by
    simp [Actors.wantsStandDown]
  unfold Actors.judge
  rw [hfast, hstand]
  rfl

end Sys2Proof.Machine
end

section
/-! PROOFS. The line-idle event and the Line Unit's timers (R44, R66, R68, R70), with the authority check that follows (R157). -/

namespace Sys2Proof.Machine

/-! ### The check in AWAIT_PERMIT as a step of the Line Unit calls it (R157) -/

/-- What a Line Unit's change with its authority check makes where the check fails: the Line Unit alone. -/
theorem State.check_of_not (s : State) {l : LineUnit}
    (h : s.act.coord.phase = .awaitPermit → (s.act.withLine l).authorityHolds s.view = false) :
    s.withAct ((s.act.withLine l).checkAuthority s.view) = { s with act := { s.act with line := l } } := by
  rw [Actors.checkAuthority_of_not (a := s.act.withLine l) h]
  rfl

/-- Where it holds: BIDDING, with its BID, FAST cadence and urgent STATE. -/
theorem State.check_of_holds (s : State) {l : LineUnit} (hphase : s.act.coord.phase = .awaitPermit)
    (h : (s.act.withLine l).authorityHolds s.view = true) :
    s.withAct ((s.act.withLine l).checkAuthority s.view) = { s with act := { s.act with
      line := l.bid s.clock
      seq := { s.act.seq with standDown := none }
      coord := s.act.coord.enter .bidding } } := by
  rw [Actors.checkAuthority_of_holds (a := s.act.withLine l) hphase h,
    Actors.enterBidding_eq (s.act.withLine l) s.view (by rw [Actors.withLine_coord, hphase]; decide)
      (by rw [Actors.withLine_coord, hphase]; decide)]
  rfl

theorem State.eventWhen_to (s : State) {occurs : Bool} (hoccurs : occurs = true) (f : State → State) {t : State}
    (h : f s = t) (hdrv : t.act.drv = s.act.drv) : s.eventWhen occurs f = t := by
  rw [hoccurs, State.eventWhen_true, s.event_of_drv f (by rw [h, hdrv]), h]

theorem authority_fails_iff (a : Actors) (v : View) : a.authorityHolds v = false ↔
    a.line.mute ≠ none ∨ v.scanner.fault = true
      ∨ ((a.coord.permit = false ∨ a.line.stuck = true) ∧ (v.scanner.active 7 = false ∨ a.coord.keyWithheld = true)) := by
  rw [← Bool.not_eq_true, a.authorityHolds_iff v]
  cases a.coord.permit <;> cases a.line.stuck <;> cases v.scanner.active 7 <;> cases a.coord.keyWithheld
    <;> cases v.scanner.fault <;> simp

/-! ### LINE_STUCK_EXPIRY, HEARTBEAT_EXPIRY and MUTE_EXPIRY -/

/-- Settles O22: the three timers at their times and ahead of them. -/
theorem lineTimersExpire : Obligations.LineTimersExpire := by
  refine ⟨fun s st sound htimer hran hclear => ?_, fun s st htimer hran => ?_, fun s m hmute hran hfails => ?_,
    fun s m sound hmute hran hphase hleave hfault => ?_, fun s hearly => ?_, fun s hearly => ?_, fun s hearly => ?_⟩
  · obtain ⟨-, -, -, -, -, -, -, hidle, hstuck⟩ := sound
    obtain ⟨hwaiting, hbusy, hunmuted⟩ := hstuck (by rw [htimer]; rfl)
    have hcount : s.act.line.idleCount = none := by
      rw [← Option.not_isSome_iff_eq_none, hidle, hbusy]
      simp
    have hwaits : s.act.line.sending = false ∧ s.act.line.queue ≠ [] ∧ s.act.line.mute = none :=
      and_assoc.mp ⟨s.act.line.waiting_iff.mp hwaiting, s.act.line.muted_eq_false_iff.mp (Bool.not_eq_true _ ▸ hunmuted)⟩
    have hdue : (ranFor s.clock s.act.line.stuckTimer lineStuckLimit && !s.act.line.stuck) = true := by
      rw [htimer, hclear]
      simp [ranFor, lineStuckLimit, hran]
    refine congrArg Host.Outcome.next (s.eventWhen_line hdue _ _ ?_)
    have hline : ({ s.act.line with stuck := true } : LineUnit).rejudge s.clock = { s.act.line with stuck := true } := by
      rw [LineUnit.rejudge_of_busy { s.act.line with stuck := true } s.clock hbusy]
      simp only [hwaits, ne_eq, not_false_iff, and_self, if_true, htimer, Option.getD_some, hcount]
    rw [← hline]
    rfl
  · have hdue : ranFor s.clock s.act.line.heartbeat s.act.line.period = true := by
      rw [htimer]
      simp [ranFor, LineUnit.period, fastPeriod, slowPeriod, hran]
    refine congrArg Host.Outcome.next (s.eventWhen_line hdue _ _ ?_)
    show ({ s with act := { s.act with line := s.act.line.beat s.clock } } : State) = _
    unfold LineUnit.beat LineUnit.routine
    split <;> simp_all
    rfl
  · have hdue : s.act.line.muteDue s.clock = true := by simpa [LineUnit.muteDue, hmute] using hran
    refine congrArg Host.Outcome.next (s.eventWhen_line hdue _ _ (s.check_of_not fun hphase => ?_))
    rw [authority_fails_iff]
    exact (hfails.resolve_left (not_not.mpr hphase)).imp (fun h => h) (fun h => h) |> .inr
  · have hdue : s.act.line.muteDue s.clock = true := by simpa [LineUnit.muteDue, hmute] using hran
    have hholds := s.check_of_holds (l := ({ s.act.line with mute := none } : LineUnit).rejudge s.clock) hphase
      ((Actors.authorityHolds_iff _ _).mpr ⟨hleave, rfl, hfault⟩)
    have hsound : (({ s.act.line with mute := none } : LineUnit).rejudge s.clock).Sound :=
      (sound.composed.congr (m := { s.act.line with mute := none }) rfl rfl rfl sound.composed.errors).sound_rejudge s.clock
    obtain ⟨-, hurgent, hasked⟩ := hsound.bid s.clock
    have hkept := (LineUnit.served_bid (({ s.act.line with mute := none } : LineUnit).rejudge s.clock) s.clock).kept
    have hevent := s.eventWhen_to hdue (fun s => s.acting fun v a => a.endMute v) hholds rfl
    exact ⟨_, congrArg Host.Outcome.next (hevent), rfl, congrArg LineUnit.mute hkept, rfl, hasked, hurgent⟩
  · refine congrArg Host.Outcome.next (State.eventWhen_of_not _ _ ?_)
    cases htimer : s.act.line.stuckTimer with
    | none => rfl
    | some st => simp [ranFor, lineStuckLimit, Nat.not_le.mpr (hearly st htimer)]
  · refine congrArg Host.Outcome.next (State.eventWhen_of_not _ _ ?_)
    cases htimer : s.act.line.heartbeat with
    | none => rfl
    | some st => exact decide_eq_false (Nat.not_le.mpr (hearly st htimer))
  · refine congrArg Host.Outcome.next (State.eventWhen_of_not _ _ ?_)
    cases hmute : s.act.line.mute with
    | none => simp [LineUnit.muteDue, hmute]
    | some m => simp [LineUnit.muteDue, hmute, Nat.not_le.mpr (hearly m hmute)]

/-! ### LINE_IDLE and TELEGRAM_TORN -/

theorem LineUnit.ReceiverSound.receiver_of_sending {l : LineUnit} (h : l.ReceiverSound) (hs : l.sending = true) :
    l.receiver = .skip := by
  obtain ⟨-, -, hskip, -⟩ := h
  exact hskip hs

theorem LineUnit.becomeIdle_eq {l : LineUnit} (h : l.ReceiverSound) (now : Stamp) : l.becomeIdle now =
    ({ l with
      condition := .idle, rxBuf := [], stuck := false, inByte := false
      receiver := if l.sending then .skip else .ready } : LineUnit).rejudge now := by
  unfold LineUnit.becomeIdle
  cases hs : l.sending with
  | false => rfl
  | true => rw [h.receiver_of_sending hs]

theorem LineUnit.Sound.becomeIdle {l : LineUnit} (h : l.Sound) (now : Stamp) : (l.becomeIdle now).Sound :=
  (h.composed.congr (m := { l with
    condition := .idle, receiver := if l.sending then l.receiver else .ready, rxBuf := [], inByte := false, stuck := false })
    rfl rfl rfl h.composed.errors).sound_rejudge now

/-- The line idle, the check not made or failing: the Line Unit alone. -/
theorem State.lineIdle_of_not (s : State) (l : LineUnit)
    (hfails : l.stuck = false ∨ s.act.coord.phase ≠ .awaitPermit ∨ l.mute ≠ none ∨ s.scanner.fault = true
      ∨ (s.act.coord.permit = false ∧ (s.scanner.active 7 = false ∨ s.act.coord.keyWithheld = true))) :
    s.withAct ((s.act.withLine l).lineIdle s.view) = { s with act := { s.act with line := l.becomeIdle s.clock } } := by
  unfold Actors.lineIdle
  dsimp only
  split
  · next hstuck =>
    rw [Actors.withLine_line] at hstuck
    refine s.check_of_not fun hphase => (authority_fails_iff _ _).mpr ?_
    have hrest := (hfails.resolve_left (by rw [hstuck]; decide)).resolve_left (not_not.mpr hphase)
    exact hrest.imp_right (Or.imp_right (And.imp_left .inl))
  · rfl

/-- The line idle, the line-stuck flag having kept the permit from counting: BIDDING. -/
theorem State.lineIdle_of_holds (s : State) (l : LineUnit) (hstuck : l.stuck = true)
    (hphase : s.act.coord.phase = .awaitPermit)
    (hleave : s.act.coord.permit = true ∨ (s.scanner.active 7 = true ∧ s.act.coord.keyWithheld = false))
    (hmute : l.mute = none) (hfault : s.scanner.fault = false) :
    s.withAct ((s.act.withLine l).lineIdle s.view) = { s with act := { s.act with
      line := (l.becomeIdle s.clock).bid s.clock
      seq := { s.act.seq with standDown := none }
      coord := s.act.coord.enter .bidding } } := by
  have hline : (s.act.withLine l).lineIdle s.view
      = (s.act.withLine (l.becomeIdle s.clock)).checkAuthority s.view := if_pos hstuck
  rw [hline]
  exact s.check_of_holds hphase
    ((Actors.authorityHolds_iff _ _).mpr ⟨hleave.imp_left fun hpermit => ⟨hpermit, rfl⟩, hmute, hfault⟩)

/-- What the Line Unit has of the line-idle event is left it by the BID that follows. -/
theorem LineUnit.bid_becomeIdle (l : LineUnit) (now : Stamp) :
    ((l.becomeIdle now).bid now).condition = .idle ∧ ((l.becomeIdle now).bid now).stuck = false
      ∧ ((l.becomeIdle now).bid now).rxBuf = [] ∧ ((l.becomeIdle now).bid now).inByte = false
      ∧ ((l.becomeIdle now).bid now).errors = l.errors
      ∧ ((l.becomeIdle now).bid now).receiver = if l.sending then l.receiver else .ready := by
  rw [(LineUnit.served_bid (l.becomeIdle now) now).kept]
  exact ⟨rfl, rfl, rfl, rfl, rfl, rfl⟩

/-- Settles O17: the line-idle event and a torn telegram, with the authority check where the line-stuck flag clears. -/
theorem lineIdleReadiesTheReceiver : Obligations.LineIdleReadiesTheReceiver := by
  refine ⟨fun s receiver hfails hbusy hquiet hassemble => ?_, fun s receiver hfails hassemble hbyte hgap => ?_,
    fun s hnot => ?_, fun s hnot => ?_, fun s sound hbusy hquiet hassemble hstuck hphase hleave hmute hfault => ?_,
    fun s sound receiver hassemble hbyte hgap hstuck hphase hleave hmute hfault => ?_⟩
  · have hdue : s.act.line.idleDue = true := by simp [LineUnit.idleDue, hbusy, hquiet, hassemble]
    refine congrArg Host.Outcome.next (s.eventWhen_line hdue _ _ ?_)
    rw [← LineUnit.becomeIdle_eq receiver]
    exact s.lineIdle_of_not s.act.line hfails
  · have hdue : s.act.line.tornDue = true := by simp [LineUnit.tornDue, hassemble, hbyte, hgap]
    have hsending : s.act.line.sending = false := by
      rw [← Bool.not_eq_true]
      intro hs
      rw [receiver.receiver_of_sending hs] at hassemble
      cases hassemble
    refine congrArg Host.Outcome.next (s.eventWhen_line hdue _ _ ?_)
    refine (s.lineIdle_of_not s.act.line.countError hfails).trans ?_
    rw [LineUnit.becomeIdle_eq (l := s.act.line.countError) receiver]
    simp [LineUnit.countError, hsending]
  · refine congrArg Host.Outcome.next (State.eventWhen_of_not _ _ ?_)
    rcases hnot with hidle | hquiet | hassemble
    · simp [LineUnit.idleDue, hidle]
    · simp [LineUnit.idleDue, Nat.not_le.mpr hquiet]
    · simp [LineUnit.idleDue, hassemble]
  · refine congrArg Host.Outcome.next (State.eventWhen_of_not _ _ ?_)
    rcases hnot with hassemble | hbyte | hgap
    · simp [LineUnit.tornDue, hassemble]
    · simp [LineUnit.tornDue, hbyte]
    · simp [LineUnit.tornDue, Nat.not_le.mpr hgap]
  · have hdue : s.act.line.idleDue = true := by simp [LineUnit.idleDue, hbusy, hquiet, hassemble]
    have hholds := s.lineIdle_of_holds s.act.line hstuck hphase hleave hmute hfault
    obtain ⟨hfast, hurgent, hasked⟩ := (sound.becomeIdle s.clock).bid s.clock
    obtain ⟨hcondition, hclear, hbuf, hin, herrors, hreceiver⟩ := s.act.line.bid_becomeIdle s.clock
    have hevent := s.eventWhen_to hdue (fun s => s.acting fun v a => a.lineIdle v) hholds rfl
    exact ⟨_, congrArg Host.Outcome.next (hevent), rfl, hcondition, hclear, hbuf, hin, hfast, hurgent,
      hasked, herrors, hreceiver⟩
  · have hdue : s.act.line.tornDue = true := by simp [LineUnit.tornDue, hassemble, hbyte, hgap]
    have hsending : s.act.line.sending = false := by
      rw [← Bool.not_eq_true]
      intro hs
      rw [receiver.receiver_of_sending hs] at hassemble
      cases hassemble
    have hcounted : s.act.line.countError.Sound :=
      (LineUnit.Fit.countError ⟨sound, receiver⟩).1
    have hholds := s.lineIdle_of_holds s.act.line.countError hstuck hphase hleave hmute hfault
    obtain ⟨hfast, hurgent, hasked⟩ := (hcounted.becomeIdle s.clock).bid s.clock
    obtain ⟨hcondition, hclear, hbuf, hin, herrors, hreceiver⟩ := s.act.line.countError.bid_becomeIdle s.clock
    have hevent := s.eventWhen_to hdue (fun s => s.acting fun v a => (a.withLine a.line.countError).lineIdle v) hholds rfl
    refine ⟨_, congrArg Host.Outcome.next (hevent), rfl, hcondition, hclear, hbuf, hin, hfast, hurgent,
      hasked, herrors, hreceiver.trans ?_⟩
    exact if_neg (by rw [show s.act.line.countError.sending = false from hsending]; decide)

end Sys2Proof.Machine
end

section
/-! PROOFS. How a transmission ends: by a collision (R63, R65), or after its last stop bit (R64). -/

namespace Sys2Proof.Machine

/-! ### The entry in transmission -/

theorem LineUnit.sent?_of_head {l : LineUnit} {e : TxEntry} {rest : List TxEntry} (hs : l.sending = true)
    (hq : l.queue = e :: rest) : l.sent? = some (e, rest) := by
  simp [LineUnit.sent?, hs, hq]

theorem LineUnit.sent?_of_idle {l : LineUnit} (hs : l.sending = false) : l.sent? = none := by
  simp [LineUnit.sent?, hs]

theorem State.collision_to (s : State) {e : TxEntry} {rest : List TxEntry} (hs : s.act.line.sending = true)
    (hbits : s.act.line.txBits < 10 * s.act.line.txBytes.length) (hq : s.act.line.queue = e :: rest) :
    exec .collision s = .next { s with act := { s.act with line := s.act.line.collide s.clock e rest } } := by
  have hlast : s.act.line.lastBitSent = false := decide_eq_false (Nat.not_le.mpr hbits)
  refine congrArg Host.Outcome.next (s.event_line _ _ ?_)
  unfold State.collideHead
  rw [LineUnit.sent?_of_head hs hq, hlast]
  rfl

/-! ### Collision (R63, R65, R59) -/

theorem LineUnit.congest_of_not {l : LineUnit} {now : Stamp} {n : Nat} (h : ¬ (n = 16 ∧ (!l.congested) = true)) :
    l.congest now n = l := if_neg h

/-- The sixteenth collision is the one that turns congestion on. -/
theorem sixteenth_iff (n : Nat) : min 255 (n + 1) = 16 ↔ n = 15 := by omega

/-- The Line Unit as an aborted transmission leaves it, congestion and a deferred request apart. -/
def LineUnit.cut (l : LineUnit) (now : Stamp) (e : TxEntry) (rest : List TxEntry) : LineUnit :=
  { l with quietBits := if l.drivesDominant then l.quietBits else 0 }.aborted now e rest

theorem LineUnit.collide_eq (l : LineUnit) (now : Stamp) (e : TxEntry) (rest : List TxEntry) :
    l.collide now e rest =
      if e.isState then (l.cut now e rest).congest now (min 255 (e.collisions + 1))
      else ((l.cut now e rest).congest now (min 255 (e.collisions + 1))).applyDeferred now := rfl

theorem LineUnit.congest_cut {l : LineUnit} {e : TxEntry} (now : Stamp) (rest : List TxEntry)
    (h : e.collisions ≠ 15 ∨ l.congested = true) :
    (l.cut now e rest).congest now (min 255 (e.collisions + 1)) = l.cut now e rest := by
  refine LineUnit.congest_of_not fun hboth => ?_
  obtain ⟨hcount, hclear⟩ := hboth
  rcases h with h | h
  · exact h ((sixteenth_iff _).mp hcount)
  · rw [show (l.cut now e rest).congested = l.congested from rfl, h] at hclear
    cases hclear

/-- The deferred request takes effect once nothing is in transmission (R59). -/
theorem LineUnit.applyDeferred_of_some {l : LineUnit} {k : RestartKind} (h : l.deferred = some k) (hs : l.sending = false)
    (now : Stamp) : l.applyDeferred now = { l with deferred := none, queue := requestInto l.queue k }.rejudge now := by
  unfold LineUnit.applyDeferred
  rw [h]
  show ({ l with deferred := none } : LineUnit).request now k = _
  rw [LineUnit.request_eq, LineUnit.inTransit_of_idle (l := { l with deferred := none }) hs,
    LineUnit.waitingEntries_of_idle (l := { l with deferred := none }) hs]
  rfl

/-- Behind a restart entry only STATE entries wait (R56). -/
theorem LineUnit.Sound.states_behind {l : LineUnit} (h : l.Sound) {e : TxEntry} {rest : List TxEntry}
    (hq : l.queue = e :: rest) (he : e.isState = false) : ∀ f ∈ rest, f.isState = true := by
  have hone : l.QueueSound := h.1
  obtain ⟨-, hrestart⟩ := hone
  rw [hq, List.countP_cons, he] at hrestart
  have hzero : rest.countP (fun f => !f.isState) = 0 := by simpa using hrestart
  simpa [List.countP_eq_zero] using hzero

/-- A request that meets an aborted restart entry at the head: a YIELD and a CLAIM go both, and otherwise it takes the
entry's place (R58, R59). -/
theorem requestInto_cons_restart {e : TxEntry} {held : RestartKind} (hkind : e.kind = .restart held) {rest : List TxEntry}
    (hrest : ∀ f ∈ rest, f.isState = true) (k : RestartKind) :
    requestInto (e :: rest) k = if held = .claim ∧ k = .yield then rest else ⟨.restart k, 0, false⟩ :: rest := by
  have hrestart : e.restart? = some held := by simp [TxEntry.restart?, hkind]
  have hstate : e.isState = false := by simp [TxEntry.isState, hkind]
  have hfilter : rest.filter TxEntry.isState = rest := List.filter_eq_self.mpr hrest
  have hmap : rest.map (fun f => if f.isState then f else .new (.restart k)) = rest := by
    refine (List.map_congr_left fun f hf => ?_).trans (List.map_id rest)
    rw [if_pos (hrest f hf)]
    rfl
  unfold requestInto
  simp only [List.findSome?_cons, hrestart, List.filter_cons, hstate, Bool.false_eq_true, if_false, hfilter,
    List.map_cons, hmap]
  rfl

/-- A collision of a restart telegram with a request deferred behind it, congestion not turning on. -/
theorem LineUnit.Sound.collide_restart {l : LineUnit} (h : l.Sound) (now : Stamp) {e : TxEntry} {rest : List TxEntry}
    (hq : l.queue = e :: rest) {held k : RestartKind} (hkind : e.kind = .restart held) (hdeferred : l.deferred = some k)
    (hcalm : e.collisions ≠ 15 ∨ l.congested = true) :
    l.collide now e rest = ({ l.cut now e rest with
      deferred := none
      queue := if held = .claim ∧ k = .yield then rest else ⟨.restart k, 0, false⟩ :: rest } : LineUnit).rejudge now := by
  have hstate : e.isState = false := by simp [TxEntry.isState, hkind]
  have hrequest := requestInto_cons_restart (e := ⟨e.kind, min 255 (e.collisions + 1), false⟩) hkind
    (h.states_behind hq hstate) k
  rw [LineUnit.collide_eq, LineUnit.congest_cut _ _ hcalm, hstate, if_neg (by decide),
    LineUnit.applyDeferred_of_some (l := l.cut now e rest) hdeferred rfl, ← hrequest]
  rfl

/-- The deferred request applied leaves an urgent STATE due. -/
theorem LineUnit.urgentDue_applyDeferred {l : LineUnit} (hs : l.sending = false) (now : Stamp) (h : l.urgentDue = true) :
    (l.applyDeferred now).urgentDue = true := by
  cases hd : l.deferred with
  | none => rw [LineUnit.applyDeferred_of_none hd, h]
  | some k =>
    have happly : l.applyDeferred now = ({ l with deferred := none } : LineUnit).request now k := by
      unfold LineUnit.applyDeferred
      rw [hd]
    rw [happly]
    exact LineUnit.urgentDue_request (l := { l with deferred := none }) (fun h' => absurd h' (by simp [hs])) now k h

theorem backoffSlots_spec {i j n : Nat} (hi : i < 32) (hj : j < 32) (hne : i ≠ j) :
    1 ≤ backoffSlots i n ∧ backoffSlots i n ≤ 40 ∧ backoffSlots i n ≠ backoffSlots j n := by
  unfold backoffSlots
  omega

/-- Settles O20: the collision of each kind of entry, the sixteenth, and the backoffs of two stations. -/
theorem collisionBacksOff : Obligations.CollisionBacksOff := by
  refine ⟨fun s e rest hs hbits hq halone hcalm => ?_, fun s e rest hs hbits hq hcount hclear => ?_,
    fun s e rest sound hs hbits hq hkind hdeferred hcalm => ?_,
    fun s e rest held k sound hs hbits hq hkind hdeferred hother hcalm => ?_, fun s hnot => ?_,
    fun i j n hi hj hne _ => backoffSlots_spec hi hj hne⟩
  · rw [s.collision_to hs hbits hq, LineUnit.collide_eq, LineUnit.congest_cut _ _ hcalm]
    rcases halone with hstate | hdeferred
    · rw [if_pos hstate]
      rfl
    · rw [LineUnit.applyDeferred_of_none (l := s.act.line.cut s.clock e rest) hdeferred, ite_self]
      rfl
  · refine ⟨_, s.collision_to hs hbits hq, rfl, ?_⟩
    have hcongest : (s.act.line.cut s.clock e rest).congest s.clock (min 255 (e.collisions + 1))
        = ({ s.act.line.cut s.clock e rest with congested := true } : LineUnit).urgent s.clock := by
      refine if_pos ⟨(sixteenth_iff _).mpr hcount, ?_⟩
      rw [show (s.act.line.cut s.clock e rest).congested = s.act.line.congested from rfl, hclear]
      rfl
    show (s.act.line.collide s.clock e rest).congested = true ∧ (s.act.line.collide s.clock e rest).sending = false ∧ _
    rw [LineUnit.collide_eq, hcongest]
    generalize hcut : ({ s.act.line.cut s.clock e rest with congested := true } : LineUnit) = l
    have hidle : l.sending = false := by rw [← hcut]; rfl
    have hcongested : l.congested = true := by rw [← hcut]
    have hnonempty : ∀ {m : LineUnit}, m.sending = false → m.sending = true → m.queue ≠ [] := fun h h' => by
      rw [h] at h'
      cases h'
    have hurgent := l.urgentDue_urgent s.clock (hnonempty hidle)
    have hkept := l.queueOnly_urgent s.clock
    have hidle' : (l.urgent s.clock).sending = false := by rw [hkept]; exact hidle
    have hcongested' : (l.urgent s.clock).congested = true := by rw [hkept]; exact hcongested
    split
    · exact ⟨hcongested', hidle', hurgent⟩
    · refine ⟨?_, ?_, LineUnit.urgentDue_applyDeferred hidle' s.clock hurgent⟩
      · rw [(l.urgent s.clock).queueOnly_applyDeferred s.clock]
        exact hcongested'
      · rw [(l.urgent s.clock).queueOnly_applyDeferred s.clock]
        exact hidle'
  · have hline := sound.collide_restart s.clock hq hkind hdeferred hcalm
    rw [if_pos ⟨rfl, rfl⟩] at hline
    refine ⟨_, s.collision_to hs hbits hq, rfl, ?_⟩
    rw [hline]
    exact ⟨rfl, rfl, rfl⟩
  · have hline := sound.collide_restart s.clock hq hkind hdeferred hcalm
    rw [if_neg fun h => hother.elim (fun hn => hn h.1) fun hn => hn h.2] at hline
    refine ⟨_, s.collision_to hs hbits hq, rfl, ?_⟩
    rw [hline]
    exact ⟨rfl, rfl, rfl, rfl⟩
  · have hsame : s.collideHead = s := by
      unfold State.collideHead
      rcases hnot with hidle | hend
      · rw [LineUnit.sent?_of_idle hidle]
      · have hlast : s.act.line.lastBitSent = true := decide_eq_true hend
        rw [hlast]
        split <;> rfl
    exact congrArg Host.Outcome.next ((s.event_of_drv _ (by rw [hsame])).trans hsame)

/-! ### Completion (R64) -/

theorem State.completion_to (s : State) {e : TxEntry} {rest : List TxEntry} (hs : s.act.line.sending = true)
    (hbits : 10 * s.act.line.txBytes.length ≤ s.act.line.txBits) (hq : s.act.line.queue = e :: rest)
    (hdrv : (s.act.complete s.view e rest).drv = s.act.drv) :
    exec .transmissionComplete s = .next { s with act := s.act.complete s.view e rest } := by
  have hlast : s.act.line.lastBitSent = true := decide_eq_true hbits
  have hhead : s.completeHead = { s with act := s.act.complete s.view e rest } := by
    unfold State.completeHead
    rw [LineUnit.sent?_of_head hs hq, hlast]
    rfl
  exact congrArg Host.Outcome.next ((s.event_of_drv _ (by rw [hhead]; exact hdrv)).trans hhead)

/-- The Line Unit as a completed restart telegram leaves it, a deferred request apart. -/
def LineUnit.left (l : LineUnit) (now : Stamp) (rest : List TxEntry) : LineUnit :=
  ({ l with sending := false, txBytes := [], txBits := 0, congested := false, queue := rest } : LineUnit).rejudge now

theorem LineUnit.completed_of_restart (l : LineUnit) (now : Stamp) {e : TxEntry} (he : e.isState = false)
    (rest : List TxEntry) : l.completed now e rest = l.left now rest := by
  unfold LineUnit.completed
  rw [he]
  rfl

theorem Actors.complete_of_restart (a : Actors) (v : View) {e : TxEntry} {k : RestartKind} (hkind : e.kind = .restart k)
    (rest : List TxEntry) : a.complete v e rest =
      (((a.withLine (a.line.left v.now rest)).onSent v k).withLine
        (((a.withLine (a.line.left v.now rest)).onSent v k).line.applyDeferred v.now)) := by
  have hstate : e.isState = false := by simp [TxEntry.isState, hkind]
  have hrestart : e.restart? = some k := by simp [TxEntry.restart?, hkind]
  unfold Actors.complete
  rw [hrestart, LineUnit.completed_of_restart _ _ hstate]

/-- With nothing deferred, a completed restart telegram only leaves the queue and is told to the coordinator. -/
theorem Actors.complete_of_alone (a : Actors) (v : View) {e : TxEntry} {k : RestartKind} (hkind : e.kind = .restart k)
    (rest : List TxEntry)
    (hdeferred : ((a.withLine (a.line.left v.now rest)).onSent v k).line.deferred = none) :
    a.complete v e rest = (a.withLine (a.line.left v.now rest)).onSent v k := by
  rw [a.complete_of_restart v hkind, LineUnit.applyDeferred_of_none hdeferred]
  rfl

/-- What the completion notice of a telegram makes the coordinator do to the Line Unit: nothing, or the notices of CONTEST. -/
theorem Actors.onSent_line (a : Actors) (v : View) (k : RestartKind) :
    (a.onSent v k).drv = a.drv ∧ ((a.onSent v k).line = a.line ∨ (a.onSent v k).line = (a.line.setCadence v.now true).urgent v.now) := by
  cases k with
  | yield => exact ⟨rfl, .inl rfl⟩
  | done => exact ⟨rfl, .inl rfl⟩
  | bid =>
    unfold Actors.onSent
    dsimp only
    split <;> exact ⟨rfl, .inl rfl⟩
  | claim =>
    unfold Actors.onSent
    dsimp only
    split
    · next hpending =>
      rw [Bool.and_eq_true, decide_eq_true_iff] at hpending
      rw [a.setPhase_eq_of_no_turn v (phase := .contest) (by rw [hpending.1]; decide) (Bool.and_false _)
        (by rw [hpending.1]; decide)]
      have hfast : (a.withCoord (a.coord.enter .contest)).wantsFast v = true := by
        simp [Actors.wantsFast, Phase.isFast]
      refine ⟨rfl, .inr ?_⟩
      show (a.line.setCadence v.now ((a.withCoord (a.coord.enter .contest)).wantsFast v)).urgent v.now = _
      rw [hfast]
    · exact ⟨rfl, .inl rfl⟩

theorem Actors.complete_drv (a : Actors) (v : View) (e : TxEntry) (rest : List TxEntry) :
    (a.complete v e rest).drv = a.drv := by
  unfold Actors.complete
  dsimp only
  split
  · exact (Actors.onSent_line _ _ _).1
  · rfl

/-! ### Queues of STATE entries alone -/

theorem states_urgentInto {w : List TxEntry} (h : ∀ e ∈ w, e.isState = true) : ∀ e ∈ urgentInto w, e.isState = true := by
  unfold urgentInto
  split
  · intro e he
    rcases List.mem_cons.mp he with rfl | he
    · rfl
    · exact h e he
  · split
    · intro e he
      rcases List.mem_cons.mp he with rfl | he
      · rfl
      · exact h e (List.mem_of_mem_filter he)
    · exact h

theorem LineUnit.setCadence_deferred (l : LineUnit) (now : Stamp) (fast : Bool) :
    (l.setCadence now fast).deferred = l.deferred := by
  have h := l.setCadence_withDeferred now fast l.deferred
  rw [show { l with deferred := l.deferred } = l from rfl] at h
  rw [h]

theorem LineUnit.states_urgent {l : LineUnit} (hs : l.sending = false) (now : Stamp)
    (h : ∀ e ∈ l.queue, e.isState = true) : ∀ e ∈ (l.urgent now).queue, e.isState = true := by
  rw [LineUnit.urgent_queue, LineUnit.inTransit_of_idle hs, LineUnit.waitingEntries_of_idle hs]
  exact states_urgentInto h

theorem LineUnit.states_beat {l : LineUnit} (now : Stamp) (h : ∀ e ∈ l.queue, e.isState = true) :
    ∀ e ∈ (l.beat now).queue, e.isState = true := by
  unfold LineUnit.beat LineUnit.routine
  split
  · exact h
  · intro e he
    rcases List.mem_append.mp he with he | he
    · exact h e he
    · rw [List.mem_singleton.mp he]
      rfl

theorem LineUnit.states_setCadence {l : LineUnit} (hs : l.sending = false) (now : Stamp) (fast : Bool)
    (h : ∀ e ∈ l.queue, e.isState = true) : ∀ e ∈ (l.setCadence now fast).queue, e.isState = true := by
  unfold LineUnit.setCadence
  dsimp only
  split
  · split
    · refine LineUnit.states_urgent ?_ now (LineUnit.states_beat (l := { l with fast := true }) now h)
      unfold LineUnit.beat
      rw [LineUnit.queueOnly_routine]
      exact hs
    · exact LineUnit.states_urgent (l := { l with fast := true }) hs now h
  · exact h

theorem mem_requestInto_of_states {w : List TxEntry} (h : ∀ e ∈ w, e.isState = true) (k : RestartKind) :
    ⟨.restart k, 0, false⟩ ∈ requestInto w k := by
  have hnone : w.findSome? TxEntry.restart? = none := by
    rw [List.findSome?_eq_none_iff]
    exact fun e he => e.restart?_eq_none_iff.mpr (h e he)
  unfold requestInto addRestart
  rw [hnone]
  dsimp only
  split
  · split <;> simp [TxEntry.new]
  · simp [TxEntry.new]

theorem LineUnit.restartAsked_of_states {l : LineUnit} (hs : l.sending = false) (hd : l.deferred = none)
    (h : ∀ e ∈ l.queue, e.isState = true) (k : RestartKind) : l.restartAsked k = false := by
  unfold LineUnit.restartAsked
  rw [LineUnit.waitingEntries_of_idle hs, hd, Bool.or_eq_false_iff]
  refine ⟨List.any_eq_false.mpr fun e he => ?_, by simp⟩
  rw [e.restart?_eq_none_iff.mpr (h e he)]
  simp

theorem LineUnit.setCadence_of_fast {l : LineUnit} (h : l.fast = true) (now : Stamp) : l.setCadence now true = l := by
  unfold LineUnit.setCadence
  rw [h]
  simp [← h]

theorem LineUnit.states_contest {l : LineUnit} (hs : l.sending = false) (now : Stamp) {k : Option RestartKind}
    (hd : l.deferred = k) (h : ∀ e ∈ l.queue, e.isState = true) :
    ((l.setCadence now true).urgent now).sending = false ∧ ((l.setCadence now true).urgent now).deferred = k
      ∧ ∀ e ∈ ((l.setCadence now true).urgent now).queue, e.isState = true := by
  have hcadence := l.setCadence_eq now true
  have hsending : (l.setCadence now true).sending = false := by rw [hcadence]; exact hs
  refine ⟨by rw [LineUnit.queueOnly_urgent]; exact hsending, ?_,
    LineUnit.states_urgent hsending now (LineUnit.states_setCadence hs now true h)⟩
  rw [LineUnit.urgent_deferred, LineUnit.setCadence_deferred, hd]

/-! ### The claim sent (R161) -/

theorem State.standDown_of_phase (s : State) (h : s.JudgedSound) (hphase : s.act.coord.phase ≠ .none) :
    s.act.seq.standDown = none := by
  have hstand := h.2.1
  rwa [show s.act.wantsStandDown s.view = false by simp [Actors.wantsStandDown, hphase], Option.isSome_eq_false_iff,
    Option.isNone_iff_eq_none] at hstand

theorem Coordinator.Sound.quietStart_of_phase {c : Coordinator} (h : c.Sound) (hphase : c.phase ≠ .quietWait) :
    c.quietStart = none := by
  obtain ⟨-, -, -, -, -, -, -, -, hquiet⟩ := h
  exact Option.not_isSome_iff_eq_none.mp fun hsome => hphase (hquiet hsome)

theorem Coordinator.Sound.stagger_of_phase {c : Coordinator} (h : c.Sound) (hphase : c.phase ≠ .backoff) :
    c.stagger = none := by
  obtain ⟨-, -, -, -, -, -, -, hstagger, -⟩ := h
  exact Option.not_isSome_iff_eq_none.mp fun hsome => hphase (hstagger hsome)

/-- The CLAIM sent, the cadence being FAST already: CONTEST, its interval started, an urgent STATE due. -/
theorem Actors.onSent_claim {a : Actors} {v : View} {l : LineUnit} (hphase : a.coord.phase = .bidding)
    (hpending : a.coord.claimPending = true) (hfast : l.fast = true) (hstand : a.seq.standDown = none)
    (hquiet : a.coord.quietStart = none) (hstagger : a.coord.stagger = none) :
    (a.withLine l).onSent v .claim = { a with
      line := l.urgent v.now
      coord := { a.coord with phase := .contest, claimPending := false, contest := some (later v.now contestTime) } } := by
  have hdue : ((a.withLine l).coord.phase = .bidding && (a.withLine l).coord.claimPending) = true := by
    simp [hphase, hpending]
  refine (if_pos hdue).trans ?_
  rw [(a.withLine l).setPhase_eq_of_no_turn v (phase := .contest) (by rw [Actors.withLine_coord, hphase]; decide)
    (Bool.and_false _) (by rw [Actors.withLine_coord, hphase]; decide)]
  have hwants : ((a.withLine l).withCoord (a.coord.enter .contest)).wantsFast v = true := by
    simp [Actors.wantsFast, Phase.isFast]
  have hrests : ((a.withLine l).withCoord (a.coord.enter .contest)).wantsStandDown v = false := by
    simp [Actors.wantsStandDown]
  unfold Actors.judge
  rw [Actors.withLine_coord, hwants, hrests]
  have hsame : ((a.withLine l).withCoord (a.coord.enter .contest)).line.setCadence v.now true = l :=
    LineUnit.setCadence_of_fast hfast v.now
  rw [hsame]
  obtain ⟨line, seq, drv, coord⟩ := a
  obtain ⟨stage, floor, grace, safeWait, standDown, solo, rejoinHold, target⟩ := seq
  obtain ⟨phase, permit, withheld, quietStart, outstanding, pending, window, contest, stagger, step, held⟩ := coord
  cases hstand
  cases hquiet
  cases hstagger
  rfl

/-- Settles O21: what each kind of entry leaves when its last stop bit has been sent. -/
theorem completionLeavesTheQueue : Obligations.CompletionLeavesTheQueue := by
  refine ⟨fun s e rest sound hs hq hbits hstate => ?_,
    fun s e rest sound hs hq hbits hkind hdeferred hphase hwindow hpending => ?_,
    fun s e rest sound hs hq hbits hkind hdeferred hphase hpending => ?_,
    fun s e rest sound hs hq hbits hquiet hdeferred => ?_,
    fun s e rest k line hs hq hbits hrestart hdeferred => ?_, fun s hnot => ?_⟩
  · rw [s.completion_to hs hbits hq (Actors.complete_drv ..)]
    have hnone : e.restart? = none := e.restart?_eq_none_iff.mpr hstate
    unfold Actors.complete LineUnit.completed
    rw [hnone, hstate]
    rfl
  · rw [s.completion_to hs hbits hq (Actors.complete_drv ..)]
    have hsent : (s.act.withLine (s.act.line.left s.clock rest)).onSent s.view .bid
        = (s.act.withLine (s.act.line.left s.clock rest)).withCoord
          { s.act.coord with bidWindow := some (later s.clock bidWindowTime) } :=
      if_pos (by simp [hphase, hwindow, hpending])
    rw [s.act.complete_of_alone s.view hkind rest (by rw [State.view_now, hsent]; exact hdeferred), State.view_now, hsent]
    rfl
  · obtain ⟨-, -, line, -, -, -, -, -, -, -, hcoord, -, hjudged, -⟩ := sound
    have hstates : ∀ f ∈ rest, f.isState = true := line.states_behind hq (by simp [TxEntry.isState, hkind])
    have hfast : (s.act.line.left s.clock rest).fast = true := by
      refine hjudged.1.trans ?_
      simp [Actors.wantsFast, hphase, Phase.isFast]
    have hsent : (s.act.withLine (s.act.line.left s.clock rest)).onSent s.view .claim = { s.act with
        line := (s.act.line.left s.clock rest).urgent s.clock
        coord := { s.act.coord with
          phase := .contest, claimPending := false, contest := some (later s.clock contestTime) } } :=
      Actors.onSent_claim hphase hpending hfast (s.standDown_of_phase hjudged (by rw [hphase]; decide))
        (hcoord.quietStart_of_phase (by rw [hphase]; decide)) (hcoord.stagger_of_phase (by rw [hphase]; decide))
    have hdeferred' : ((s.act.line.left s.clock rest).urgent s.clock).deferred = none :=
      (LineUnit.urgent_deferred ..).trans hdeferred
    have hdone := s.completion_to hs hbits hq (Actors.complete_drv ..)
    rw [s.act.complete_of_alone s.view hkind rest (by rw [State.view_now, hsent]; exact hdeferred'), State.view_now,
      hsent] at hdone
    refine ⟨_, hdone, rfl, ?_⟩
    have hkept := (s.act.line.left s.clock rest).queueOnly_urgent s.clock
    have hsending : ((s.act.line.left s.clock rest).urgent s.clock).sending = false := by rw [hkept]; rfl
    refine ⟨hsending, by rw [hkept]; rfl, by rw [hkept]; rfl, LineUnit.urgentDue_urgent _ _ nofun, ?_⟩
    exact LineUnit.restartAsked_of_states hsending hdeferred' (LineUnit.states_urgent rfl s.clock hstates) .claim
  · rw [s.completion_to hs hbits hq (Actors.complete_drv ..)]
    have hsent : ∃ k, e.kind = .restart k ∧ (s.act.withLine (s.act.line.left s.clock rest)).onSent s.view k
        = s.act.withLine (s.act.line.left s.clock rest) := by
      rcases hquiet with hkind | hkind | ⟨hstate, hphase⟩
      · exact ⟨_, hkind, rfl⟩
      · exact ⟨_, hkind, rfl⟩
      · cases hkind : e.kind with
        | state urgent => simp [TxEntry.isState, hkind] at hstate
        | restart k =>
          refine ⟨k, rfl, ?_⟩
          cases k with
          | bid => exact if_neg (by simp [hphase])
          | claim => exact if_neg (by simp [hphase])
          | yield => rfl
          | done => rfl
    obtain ⟨k, hkind, hsent⟩ := hsent
    rw [s.act.complete_of_alone s.view hkind rest (by rw [State.view_now, hsent]; exact hdeferred), State.view_now, hsent]
    rfl
  · cases hkind : e.kind with
    | state urgent => simp [TxEntry.isState, hkind] at hrestart
    | restart held =>
      have hstates : ∀ f ∈ rest, f.isState = true := line.states_behind hq hrestart
      obtain ⟨-, hline⟩ := (s.act.withLine (s.act.line.left s.clock rest)).onSent_line s.view held
      have hsent : ((s.act.withLine (s.act.line.left s.clock rest)).onSent s.view held).line.sending = false
          ∧ ((s.act.withLine (s.act.line.left s.clock rest)).onSent s.view held).line.deferred = some k
          ∧ ∀ f ∈ ((s.act.withLine (s.act.line.left s.clock rest)).onSent s.view held).line.queue, f.isState = true := by
        rcases hline with hline | hline
        · rw [hline]
          exact ⟨rfl, hdeferred, hstates⟩
        · rw [hline]
          exact LineUnit.states_contest rfl s.clock hdeferred hstates
      obtain ⟨hsending, hheld, hqueue⟩ := hsent
      refine ⟨_, s.completion_to hs hbits hq (Actors.complete_drv ..), ?_⟩
      rw [s.act.complete_of_restart s.view hkind rest]
      show LineUnit.deferred (LineUnit.applyDeferred _ _) = none ∧ LineUnit.sending (LineUnit.applyDeferred _ _) = false
        ∧ _ ∈ LineUnit.queue (LineUnit.applyDeferred _ _)
      rw [State.view_now, LineUnit.applyDeferred_of_some hheld hsending]
      exact ⟨rfl, hsending, mem_requestInto_of_states hqueue k⟩
  · have hsame : s.completeHead = s := by
      unfold State.completeHead
      rcases hnot with hidle | hearly
      · rw [LineUnit.sent?_of_idle hidle]
      · have hlast : s.act.line.lastBitSent = false := decide_eq_false (Nat.not_le.mpr hearly)
        rw [hlast]
        split <;> rfl
    exact congrArg Host.Outcome.next ((s.event_of_drv _ (by rw [hsame])).trans hsame)

end Sys2Proof.Machine
end

section
/-! PROOFS. The peers' telegrams and the Peer Table's expiries (04): the records they write, and what the acting blocks make of
the table's notice. -/

namespace Sys2Proof.Machine

/-! ### Telegrams to a READY receiver -/

/-- The state once its receiver has taken a run of bytes up to a judgement. -/
def State.listened (s : State) (bytes : List RxByte) : State :=
  { s with act := { s.act with line := s.act.line.heard s.clock bytes } }

theorem State.hearBytes_frameBytes (s : State) (hears : s.act.line.Hears) {kind sender : Byte} {payload : List Byte}
    (hkind : kindLength kind.toNat = some payload.length) (hsender : sender.toNat ≤ 35) {t : Telegram}
    (hfields : readFields? kind.toNat sender payload = some t) (hsuits : t.suitsSender = true) :
    s.hearBytes (onTheLine (frameBytes kind sender payload))
      = (s.listened (onTheLine (frameBytes kind sender payload))).onVerdict (.valid t) := by
  have hreceived := receiveBytes_frameBytes hkind hsender hfields hsuits
  rw [s.hearBytes_of_verdict _ hears (by rw [hreceived]; nofun), hreceived]
  rfl

theorem stationSender_lt {sender : Byte} (h : stationSender sender = true) : sender.toNat < 32 := of_decide_eq_true h

theorem extractLsb'_group (group : Byte) : group.extractLsb' 0 2 = BitVec.ofNat 2 group.toNat := by
  apply BitVec.eq_of_toNat_eq
  simp

/-- A restart telegram heard from a station number. -/
theorem State.exec_restartCommand (s : State) (hears : s.act.line.Hears) (k : RestartKind) {sender group : Byte}
    (hsender : sender.toNat < 32) (hgroup : groupByte group = true) :
    ∃ bytes, exec (restartCommand k sender group) s =
      .next (s.event fun s => s.hearBytes bytes)
      ∧ s.hearBytes bytes = (s.listened bytes).takeRestart k sender (BitVec.ofNat 2 group.toNat)
      ∧ bytes = onTheLine (frameBytes k.code sender [group]) := by
  have hgroup : group.toNat ≤ 3 := by simpa [groupByte] using hgroup
  have hfields : readFields? k.code.toNat sender [group] = some (.restart k sender (BitVec.ofNat 2 group.toNat)) := by
    have hread : restartTelegram? k sender [group] = some (.restart k sender (BitVec.ofNat 2 group.toNat)) := by
      rw [← extractLsb'_group]
      exact if_pos hgroup
    cases k <;> exact hread
  refine ⟨onTheLine (frameBytes k.code sender [group]), by cases k <;> rfl, ?_, rfl⟩
  exact s.hearBytes_frameBytes hears (by cases k <;> rfl) (by omega) hfields (decide_eq_true hsender)

/-- A STATE heard from a station number. -/
theorem State.hear_state (s : State) (hears : s.act.line.Hears) {sender : Byte} (hsender : sender.toNat < 32)
    {payload : Vector Byte 12} {p : StatePayload} (hdecode : StatePayload.decode? payload.toList = some p) :
    s.hearBytes (onTheLine (frameBytes 1 sender payload.toList))
      = (s.listened (onTheLine (frameBytes 1 sender payload.toList))).takeState sender p := by
  have hfields : readFields? (1 : Byte).toNat sender payload.toList = some (.state sender p) := by
    show (StatePayload.decode? payload.toList).map (Telegram.state sender) = _
    rw [hdecode]
    rfl
  exact s.hearBytes_frameBytes hears (by simp [kindLength]) (by omega) hfields (decide_eq_true hsender)

/-! ### The own number (R74) -/

/-- A telegram with the own number as sender, once heard. -/
theorem State.duplicated_spec (s : State) (bytes : List RxByte) (sound : s.act.line.Sound) :
    ∃ t, (s.event fun s => (s.listened bytes).duplicated) = t ∧
      t = { s with duplicate := true, act := { s.act with line := t.act.line } }
      ∧ t.act.line.errors = s.act.line.errors
      ∧ (s.duplicate = false → t.act.line.urgentDue)
      ∧ (s.duplicate → t.act.line.queue = s.act.line.queue ∧ t.act.line.receiver = .skip) := by
  have hdrv : (s.listened bytes).duplicated.act.drv = s.act.drv := by
    unfold State.duplicated
    split <;> rfl
  refine ⟨_, s.event_of_drv _ hdrv, ?_⟩
  unfold State.duplicated
  split
  · next hset =>
    have hset : s.duplicate = true := hset
    refine ⟨?_, rfl, fun hclear => absurd hclear (by simp [hset]), fun _ => ⟨rfl, rfl⟩⟩
    rw [← hset]
    rfl
  · next hclear =>
    have hclear : ¬ s.duplicate = true := hclear
    refine ⟨rfl, ?_, fun _ => LineUnit.urgentDue_urgent _ _ sound.nonempty, fun hset => absurd hset hclear⟩
    exact ((s.act.line.heard s.clock bytes).queueOnly_urgent s.clock).keeps.2.2.2.2.1

/-- Settles O28: every telegram with the own number as sender is the duplicate of R74. -/
theorem ownNumberSetsTheDuplicateFlag : Obligations.OwnNumberSetsTheDuplicateFlag := by
  refine ⟨fun s k group sound hears hgroup => ?_, fun s payload sound hears hrange => ?_⟩
  · obtain ⟨bytes, hexec, hheard, -⟩ := s.exec_restartCommand hears k s.sender_lt hgroup
    have htake : s.hearBytes bytes = (s.listened bytes).duplicated := hheard.trans (if_pos rfl)
    obtain ⟨t, ht, hspec⟩ := s.duplicated_spec bytes sound
    refine ⟨t, hexec.trans (congrArg Host.Outcome.next ?_), hspec⟩
    rw [← ht]
    show (s.hearBytes bytes).endEvent s = _
    rw [htake]
    rfl
  · obtain ⟨p, hdecode⟩ := Option.isSome_iff_exists.mp hrange
    have htake := (s.hear_state hears s.sender_lt hdecode).trans (if_pos rfl)
    obtain ⟨t, ht, hspec⟩ := s.duplicated_spec (onTheLine (frameBytes 1 s.sender payload.toList)) sound
    refine ⟨t, congrArg Host.Outcome.next ?_, hspec⟩
    rw [← ht]
    show (s.hearBytes _).endEvent s = _
    rw [htake]
    rfl

/-! ### The table's notice (R86) -/

/-- An event that ends with T formed from its view ends with T formed. -/
theorem State.target_event (s : State) (f : State → State) (h : (f s).act.seq.target = target (f s).view) :
    (s.event f).act.seq.target = target (s.event f).view := by
  show ((f s).endEvent s).act.seq.target = target ((f s).endEvent s).view
  unfold State.endEvent
  split
  · exact ((Actors.reach_serve _ _).target).trans h
  · exact h

theorem Actors.onPeers_target (a : Actors) (v : View) : (a.onPeers v).seq.target = target v :=
  (Actors.reach_compareBackoff _ v).target.trans (a.formTarget_target v)

theorem State.withRecord_target (s : State) (n : Nat) (r : PeerRecord) :
    (s.withRecord n r).act.seq.target = target (s.withRecord n r).view := Actors.onPeers_target _ _

/-- With the detector in CALM, T at 0 and nothing to raise or to run, forming T changes nothing. -/
theorem Actors.formTarget_of_calm {a : Actors} {v : View} (hcalm : v.assessor.detector = .calm)
    (htarget : a.seq.target = .watch) (hmet : a.seq.rejoinHold = false → a.seq.demand.code ≤ a.seq.stage.code)
    (hstep : a.coord.step ≠ .postponed) : a.formTarget v = a := by
  have hsame : a.withSeq { a.seq with target := target v } = a := by
    rw [target_of_calm hcalm, ← htarget]
    rfl
  unfold Actors.formTarget
  dsimp only
  rw [hsame]
  split
  · rfl
  · next hhold =>
    rw [Actors.compare_of_le a v (hmet (by simpa using hhold))]
    have hgrade : a.cutByGrade v = a := if_neg (by simp [Actors.grade7, hcalm, Detector.inEvent])
    rw [hgrade]
    unfold Actors.onTarget
    split
    · rw [if_neg (by rw [htarget]; decide), if_neg (by simp [hstep])]
    · rfl

/-- The table's notice in CALM, outside BACKOFF and with no postponed step D. -/
theorem Actors.onPeers_of_calm {a : Actors} {v : View} (hcalm : v.assessor.detector = .calm)
    (htarget : a.seq.target = .watch) (hmet : a.seq.rejoinHold = false → a.seq.demand.code ≤ a.seq.stage.code)
    (hstep : a.coord.step ≠ .postponed) (hphase : a.coord.phase ≠ .backoff) : a.onPeers v = a := by
  unfold Actors.onPeers
  rw [Actors.formTarget_of_calm hcalm htarget hmet hstep, Actors.compareBackoff_of_phase a v hphase]

/-- T and the stage of a sound state in CALM. -/
theorem State.Sound.calm {s : State} (h : s.Sound) (hcalm : s.assessor.detector = .calm) :
    s.act.seq.target = .watch ∧ (s.act.seq.rejoinHold = false → s.act.seq.demand.code ≤ s.act.seq.stage.code) := by
  obtain ⟨-, -, -, -, -, -, -, -, -, -, -, ⟨-, -, hmet, -⟩, ⟨-, -, -, -, htarget⟩, -⟩ := h
  exact ⟨htarget hcalm, hmet⟩

/-- A record written in a sound state in CALM, outside BACKOFF and with no postponed step D, is all that changes. -/
theorem State.Sound.withRecord_of_calm {s : State} (h : s.Sound) (hcalm : s.assessor.detector = .calm)
    (hphase : s.act.coord.phase ≠ .backoff) (hstep : s.act.coord.step ≠ .postponed) (l : LineUnit) (n : Nat)
    (r : PeerRecord) :
    ({ s with act := { s.act with line := l } } : State).withRecord n r
      = { s with peers := s.peers.set n r, act := { s.act with line := l } } := by
  obtain ⟨htarget, hmet⟩ := h.calm hcalm
  have hact := Actors.onPeers_of_calm (a := { s.act with line := l })
    (v := ({ s with peers := s.peers.set n r, act := { s.act with line := l } } : State).view) hcalm htarget hmet hstep hphase
  exact congrArg (State.withAct _) hact

/-! ### The records written (R73 to R80) -/

theorem PeerRecord.hear_of_kept {r : PeerRecord} (h : r.kept = true) (stamp : Stamp) (group : BitVec 2) :
    r.hear stamp group = { r with liveness := .live, lastHeard := some stamp, group := some group } := by
  unfold PeerRecord.kept at h
  unfold PeerRecord.hear
  split
  · next hl => simp [hl] at h
  · next hl => simp [hl] at h
  · rfl
  · rfl

theorem PeerRecord.hear_of_not_kept {r : PeerRecord} (h : r.kept = false) (stamp : Stamp) (group : BitVec 2) :
    r.hear stamp group = { PeerRecord.never with liveness := .live, lastHeard := some stamp, group := some group } := by
  unfold PeerRecord.kept at h
  unfold PeerRecord.hear
  split
  · rfl
  · rfl
  · next hl => simp [hl] at h
  · next hl => simp [hl] at h

theorem PeerRecord.eventAfter_eq (r : PeerRecord) (stamp : Stamp) (p : StatePayload) :
    r.eventAfter stamp p =
      if p.detector ≠ .event ∧ p.detector ≠ .settling then none
      else if r.event.any (fun e => e.number = p.eventNumber) then r.event
      else if p.onsetAge = 65535 then none
      else some ⟨p.eventNumber, stamp - p.onsetAge.zeroExtend 32⟩ := by
  have hin : p.detector.inEvent = true ↔ ¬ (p.detector ≠ .event ∧ p.detector ≠ .settling) := by
    cases p.detector <;> simp [Detector.inEvent]
  unfold PeerRecord.eventAfter newEventPart
  by_cases hcase : p.detector ≠ .event ∧ p.detector ≠ .settling
  · rw [if_pos hcase, if_neg (fun h => hin.mp h hcase)]
  · rw [if_neg hcase, if_pos (hin.mpr hcase)]
    cases r.event with
    | none => rfl
    | some e =>
      by_cases hsame : e.number = p.eventNumber
      · simp [hsame]
      · simp [hsame]

theorem PeerRecord.claimAfter_eq (r : PeerRecord) (stamp : Stamp) (phase : Phase) :
    r.claimAfter stamp phase =
      if phase ≠ .contest ∧ phase ≠ .energizing then none
      else if r.claim.isSome then r.claim
      else if r.spent then none
      else some stamp := by
  have hclaiming : phase.claiming = true ↔ ¬ (phase ≠ .contest ∧ phase ≠ .energizing) := by
    cases phase <;> simp [Phase.claiming]
  unfold PeerRecord.claimAfter
  by_cases hcase : phase ≠ .contest ∧ phase ≠ .energizing
  · rw [if_pos hcase, if_neg (fun h => hclaiming.mp h hcase)]
  · rw [if_neg hcase, if_pos (hclaiming.mpr hcase)]
    cases r.claim <;> rfl

theorem Phase.claiming_eq (p : Phase) : p.claiming = (decide (p = .contest) || decide (p = .energizing)) := by
  cases p <;> rfl

/-- The record a STATE writes, in the record there was before (R73, R75 to R77). -/
theorem PeerRecord.hear_takeState (r : PeerRecord) (stamp : Stamp) (p : StatePayload) :
    (r.hear stamp p.group).takeState stamp p =
      { liveness := .live, lastHeard := some stamp, group := some p.group
        report := some ⟨p.detector, p.grade, p.stage, p.phase⟩
        event :=
          if p.detector ≠ .event ∧ p.detector ≠ .settling then none
          else if r.kept ∧ r.event.any (·.number = p.eventNumber) then r.event
          else if p.onsetAge = 65535 then none
          else some ⟨p.eventNumber, stamp - p.onsetAge.zeroExtend 32⟩
        bid := if r.kept ∧ p.phase = .bidding then r.bid else none
        claim :=
          if p.phase ≠ .contest ∧ p.phase ≠ .energizing then none
          else if r.kept ∧ r.claim.isSome then r.claim
          else if r.kept ∧ r.spent then none
          else some stamp
        spent := r.kept && r.spent && (p.phase = .contest || p.phase = .energizing) } := by
  unfold PeerRecord.takeState
  rw [PeerRecord.eventAfter_eq, PeerRecord.claimAfter_eq, Phase.claiming_eq]
  cases hk : r.kept with
  | true =>
    rw [PeerRecord.hear_of_kept hk]
    simp
  | false =>
    rw [PeerRecord.hear_of_not_kept hk]
    simp [PeerRecord.never]

/-- The record a restart telegram starts from (R73). -/
theorem PeerRecord.hear_eq (r : PeerRecord) (stamp : Stamp) (group : BitVec 2) :
    r.hear stamp group = { (if r.kept then r else ⟨.never, none, none, none, none, none, none, false⟩) with
      liveness := .live, lastHeard := some stamp, group := some group } := by
  cases hk : r.kept with
  | true => rw [PeerRecord.hear_of_kept hk, if_pos rfl]
  | false =>
    rw [PeerRecord.hear_of_not_kept hk, if_neg (by decide)]
    rfl

/-! ### STATE_TELEGRAM -/

/-- Settles O25: the record of the sender, and in a calm sound state nothing else. -/
theorem stateTelegramWritesTheRecord : Obligations.StateTelegramWritesTheRecord := by
  refine ⟨fun s sender payload p hears hsender hother hdecode => ?_,
    fun s sender payload p sound hears hsender hother hdecode hcalm hphase hstep => ?_⟩
  all_goals
    have hlt : sender.toNat < 32 := stationSender_lt hsender
    have hheard := (s.hear_state hears hlt hdecode).trans (if_neg hother)
  · refine ⟨_, rfl, ?_, ?_, ?_⟩
    · rw [State.event_other, hheard]
      rfl
    · refine s.target_event _ ?_
      rw [hheard]
      exact State.withRecord_target _ _ _
    · rw [State.event_other, hheard]
      show s.peers.set sender.toNat ((PeerRecord.hear _ s.clock _).takeState s.clock p) = _
      rw [PeerRecord.hear_takeState]
      rfl
  · have hcalmed := hheard.trans (sound.withRecord_of_calm hcalm hphase hstep _ _ _)
    refine ⟨_, congrArg Host.Outcome.next ((s.event_of_drv _ ?_).trans hcalmed), rfl⟩
    rw [hcalmed]

/-! ### BID, CLAIM, YIELD and DONE -/

/-- What a restart telegram other than a CLAIM makes: the record written, then the table's notice; a CLAIM is put to the yield
rule after it. -/
theorem State.takeRestart_spec (s : State) (k : RestartKind) {sender group : Byte} (hears : s.act.line.Hears)
    (hsender : stationSender sender = true) (hother : sender ≠ s.sender) (hgroup : groupByte group = true) :
    ∃ t, exec (restartCommand k sender group) s = .next t ∧
      t = { s with peers := t.peers, act := t.act } ∧ t.act.seq.target = target t.view
      ∧ t.peers = s.peers.set sender.toNat
        (((recordOf s.peers sender.toNat).hear s.clock (BitVec.ofNat 2 group.toNat)).takeRestart s.clock k) := by
  have hlt : sender.toNat < 32 := stationSender_lt hsender
  obtain ⟨bytes, hexec, hheard, -⟩ := s.exec_restartCommand hears k hlt hgroup
  have htake := hheard.trans (if_neg hother)
  have hwritten : (s.hearBytes bytes) = { s with
        peers := s.peers.set sender.toNat
          (((recordOf s.peers sender.toNat).hear s.clock (BitVec.ofNat 2 group.toNat)).takeRestart s.clock k)
        act := (s.hearBytes bytes).act }
      ∧ (s.hearBytes bytes).act.seq.target = target (s.hearBytes bytes).view := by
    rw [htake]
    dsimp only
    split
    · exact ⟨rfl, (Actors.reach_onClaim _ _ _).target.trans (State.withRecord_target _ _ _)⟩
    · exact ⟨rfl, State.withRecord_target _ _ _⟩
  refine ⟨_, hexec, ?_, s.target_event _ hwritten.2, ?_⟩
  · rw [State.event_other, hwritten.1]
  · rw [State.event_other, hwritten.1]

/-- Settles O26: the four restart telegrams, each the record it writes. -/
theorem restartTelegramsWriteTheRecord : Obligations.RestartTelegramsWriteTheRecord := by
  refine ⟨fun s sender group hears hsender hother hgroup => ?_, fun s sender group hears hsender hother hgroup => ?_,
    fun s sender group hears hsender hother hgroup => ?_, fun s sender group hears hsender hother hgroup => ?_⟩
  · have h := s.takeRestart_spec .bid hears hsender hother hgroup
    rwa [PeerRecord.hear_eq] at h
  · have h := s.takeRestart_spec .claim hears hsender hother hgroup
    rwa [PeerRecord.hear_eq] at h
  · have h := s.takeRestart_spec .yield hears hsender hother hgroup
    rwa [PeerRecord.hear_eq] at h
  · have h := s.takeRestart_spec .done hears hsender hother hgroup
    rwa [PeerRecord.hear_eq] at h

/-! ### The expiries (R81 to R84) -/

theorem olderThan_some (now st : Stamp) (age : Nat) : olderThan now (some st) age = decide (age < elapsed now st) := rfl

/-- A stamp not older than an age, or none at all. -/
theorem olderThan_of_all {now : Stamp} {st : Option Stamp} {age : Nat}
    (h : st.all (fun st => elapsed now st ≤ age) = true) : olderThan now st age = false := by
  cases st with
  | none => rfl
  | some st => simpa [olderThan_some] using h

theorem ranFor_of_all {now : Stamp} {st : Option Stamp} {limit : Nat}
    (h : st.all (fun st => elapsed now st < limit) = true) : ranFor now st limit = false := by
  cases st with
  | none => rfl
  | some st => simpa [ranFor] using h

theorem State.peerRecord_of_other (s : State) {peer : BitVec 5} (hother : peer ≠ s.straps.stn)
    (hlen : s.peers.length = 32) : s.peerRecord peer = some (recordOf s.peers peer.toNat) := by
  have hlt : peer.toNat < s.peers.length := by
    have := peer.isLt
    omega
  unfold State.peerRecord recordOf
  rw [if_neg hother, List.getElem?_eq_getElem hlt]

/-- An expiry that is due writes its record and forms T. -/
theorem State.expirePeer_due (s : State) {peer : BitVec 5} (hother : peer ≠ s.straps.stn) (hlen : s.peers.length = 32)
    {due : PeerRecord → Bool} {f : PeerRecord → PeerRecord} (hdue : due (recordOf s.peers peer.toNat) = true) :
    ∃ t, (s.event fun s => s.expirePeer peer due f) = t ∧
      t = { s with peers := t.peers, act := t.act } ∧ t.act.seq.target = target t.view
      ∧ t.peers = s.peers.set peer.toNat (f (recordOf s.peers peer.toNat)) := by
  have hwritten : s.expirePeer peer due f = s.withRecord peer.toNat (f (recordOf s.peers peer.toNat)) := by
    unfold State.expirePeer
    rw [s.peerRecord_of_other hother hlen]
    exact if_pos hdue
  refine ⟨_, rfl, ?_, ?_, ?_⟩
  · rw [State.event_other, hwritten]
    rfl
  · refine s.target_event _ ?_
    rw [hwritten]
    exact State.withRecord_target _ _ _
  · rw [State.event_other, hwritten]
    rfl

/-- An expiry of the own number, or one that is not due, changes nothing. -/
theorem State.expirePeer_of_not (s : State) {peer : BitVec 5} {due : PeerRecord → Bool} (f : PeerRecord → PeerRecord)
    (h : peer = s.straps.stn ∨ due (recordOf s.peers peer.toNat) = false) :
    (s.event fun s => s.expirePeer peer due f) = s := by
  have hsame : s.expirePeer peer due f = s := by
    unfold State.expirePeer State.peerRecord
    split
    · next r hr =>
      split at hr
      · cases hr
      · next hother =>
        have hrecord : recordOf s.peers peer.toNat = r := by
          unfold recordOf
          rw [hr]
        rw [if_neg]
        rw [← hrecord, h.resolve_left hother]
        decide
    · rfl
  rw [s.event_of_drv _ (by rw [hsame]), hsame]

/-- In a sound state in CALM, outside BACKOFF and with no postponed step D, an expiry changes its record alone. -/
theorem State.Sound.expirePeer_of_calm {s : State} (h : s.Sound) (hcalm : s.assessor.detector = .calm)
    (hphase : s.act.coord.phase ≠ .backoff) (hstep : s.act.coord.step ≠ .postponed) (peer : BitVec 5)
    (due : PeerRecord → Bool) (f : PeerRecord → PeerRecord) :
    ∃ t, (s.event fun s => s.expirePeer peer due f) = t ∧ t = { s with peers := t.peers } := by
  have hpeers : s.expirePeer peer due f = { s with peers := (s.expirePeer peer due f).peers } := by
    unfold State.expirePeer
    split
    · split
      · exact h.withRecord_of_calm hcalm hphase hstep s.act.line peer.toNat (f _)
      · rfl
    · rfl
  refine ⟨_, (s.event_of_drv _ (by rw [hpeers])).trans hpeers, rfl⟩

/-- Settles O29: the four expiries when due, in a calm sound state, and ahead of their times. -/
theorem peerTimersExpire : Obligations.PeerTimersExpire := by
  refine ⟨fun s peer st hother hlen hlive hst hold => ?_, fun s peer st hother hlen hquiet hst hold => ?_,
    fun s peer st hother hlen hst hold => ?_, fun s peer st hother hlen hst hold => ?_,
    fun s peer c sound hc hcalm hphase hstep => ?_, fun s peer hnot => ?_, fun s peer hnot => ?_, fun s peer hnot => ?_,
    fun s peer hnot => ?_⟩
  · obtain ⟨t, ht, hspec⟩ := s.expirePeer_due hother hlen (f := PeerRecord.toQuiet)
      (due := fun r => r.liveness = .live && olderThan s.clock r.lastHeard quietAge)
      (by simp [hlive, hst, olderThan_some, quietAge, hold])
    exact ⟨t, congrArg Host.Outcome.next ht, hspec⟩
  · obtain ⟨t, ht, hspec⟩ := s.expirePeer_due hother hlen (f := PeerRecord.toLost)
      (due := fun r => r.liveness = .quiet && olderThan s.clock r.lastHeard lostAge)
      (by simp [hquiet, hst, olderThan_some, lostAge, hold])
    exact ⟨t, congrArg Host.Outcome.next ht, hspec⟩
  · obtain ⟨t, ht, hspec⟩ := s.expirePeer_due hother hlen (f := PeerRecord.dropBid)
      (due := fun r => olderThan s.clock r.bid bidLife) (by simp [hst, olderThan_some, bidLife, hold])
    exact ⟨t, congrArg Host.Outcome.next ht, hspec⟩
  · obtain ⟨t, ht, hspec⟩ := s.expirePeer_due hother hlen (f := PeerRecord.spendClaim)
      (due := fun r => ranFor s.clock r.claim claimLife) (by simp [hst, ranFor, claimLife, hold])
    exact ⟨t, congrArg Host.Outcome.next ht, hspec⟩
  · have hevent := sound.expirePeer_of_calm hcalm hphase hstep peer
    simp only [List.mem_cons, List.not_mem_nil, or_false] at hc
    rcases hc with rfl | rfl | rfl | rfl
    all_goals
      obtain ⟨t, ht, hspec⟩ := hevent _ _
      exact ⟨t, congrArg Host.Outcome.next ht, hspec⟩
  · refine congrArg Host.Outcome.next (s.expirePeer_of_not _ (hnot.imp_right fun h => ?_))
    rcases h with hclass | hyoung
    · simp [hclass]
    · simp [olderThan_of_all (age := quietAge) hyoung]
  · refine congrArg Host.Outcome.next (s.expirePeer_of_not _ (hnot.imp_right fun h => ?_))
    rcases h with hclass | hyoung
    · simp [hclass]
    · simp [olderThan_of_all (age := lostAge) hyoung]
  · exact congrArg Host.Outcome.next (s.expirePeer_of_not _ (hnot.imp_right (olderThan_of_all (age := bidLife))))
  · exact congrArg Host.Outcome.next (s.expirePeer_of_not _ (hnot.imp_right (ranFor_of_all (limit := claimLife))))

end Sys2Proof.Machine
end

section
/-! PROOFS. The yield rule (R162): a CLAIM heard from a lower key, and what a withdrawn turn asks of the Line Unit (R152). -/

namespace Sys2Proof.Machine

/-! ### A YIELD asked for (R58, R59) -/

theorem any_restart_filter_isState (w : List TxEntry) (k : RestartKind) :
    (w.filter TxEntry.isState).any (fun e => e.restart? = some k) = false := by
  refine List.any_eq_false.mpr fun e he => ?_
  rw [e.restart?_eq_none_iff.mpr (List.mem_filter.mp he).2]
  simp

/-- A YIELD that meets the waiting entries leaves no CLAIM, and waits unless it removed one. -/
theorem requestInto_yield (w : List TxEntry) :
    (requestInto w .yield).any (fun e => e.restart? = some .claim) = false
      ∧ ((requestInto w .yield).any (fun e => e.restart? = some .yield) = true
        ∨ w.any (fun e => e.restart? = some .claim) = true) := by
  unfold requestInto
  split
  · next hnone =>
    rw [List.findSome?_eq_none_iff] at hnone
    have hnew : (TxEntry.new (.restart .yield)).restart? = some .yield := rfl
    have hclaim : w.any (fun e => e.restart? = some .claim) = false :=
      List.any_eq_false.mpr fun e he => by simp [hnone e he]
    unfold addRestart
    split
    · split <;> simp [hnew, hclaim]
    · simp [hnew, hclaim]
  · next held hheld =>
    obtain ⟨e, he, hrestart⟩ := List.exists_of_findSome?_eq_some hheld
    split
    · next hclaim =>
      refine ⟨any_restart_filter_isState w .claim, .inr (List.any_eq_true.mpr ⟨e, he, ?_⟩)⟩
      rw [hrestart, hclaim.1]
      simp
    · refine ⟨List.any_eq_false.mpr fun f hf => ?_, .inl (List.any_eq_true.mpr ?_)⟩
      · obtain ⟨g, -, rfl⟩ := List.mem_map.mp hf
        split
        · next hstate =>
          rw [g.restart?_eq_none_iff.mpr hstate]
          simp
        · simp [TxEntry.new, TxEntry.restart?]
      · have hstate : ¬ e.isState = true := fun hs => by
          rw [e.restart?_eq_none_iff.mpr hs] at hrestart
          cases hrestart
        exact ⟨_, List.mem_map.mpr ⟨e, he, rfl⟩, by simp [if_neg hstate, TxEntry.new, TxEntry.restart?]⟩

/-- A YIELD asked for: no CLAIM stays asked for, and a YIELD is, unless it removed an unsent CLAIM. -/
theorem LineUnit.Sound.request_yield {l : LineUnit} (h : l.Sound) (now : Stamp) :
    (l.request now .yield).restartAsked .claim = false
      ∧ ((l.request now .yield).restartAsked .yield = true ∨ l.restartAsked .claim = true) := by
  rw [LineUnit.request_eq, LineUnit.restartAsked_rejudge, LineUnit.restartAsked_rejudge]
  split
  · next hsent =>
    have hwaiting : ∀ e ∈ l.waitingEntries, e.isState = true := by
      have hone : OneOfEach (l.inTransit ++ l.waitingEntries) := by
        rw [LineUnit.inTransit_append_waitingEntries]
        exact h.1
      have htransit : 1 ≤ l.inTransit.countP (fun e => !e.isState) := by
        rw [Nat.one_le_iff_ne_zero, Ne, List.countP_eq_zero]
        intro hall
        obtain ⟨e, he, hrestart⟩ := List.any_eq_true.mp hsent
        exact hall e he hrestart
      have hzero : l.waitingEntries.countP (fun e => !e.isState) = 0 := by
        have := hone.2
        rw [List.countP_append] at this
        omega
      simpa [List.countP_eq_zero] using hzero
    have hnone : ∀ k, l.waitingEntries.any (fun e => e.restart? = some k) = false := fun k =>
      List.any_eq_false.mpr fun e he => by simp [e.restart?_eq_none_iff.mpr (hwaiting e he)]
    unfold LineUnit.restartAsked
    show (l.waitingEntries.any _ || decide (deferInto l.deferred .yield = some .claim)) = false
      ∧ ((l.waitingEntries.any _ || decide (deferInto l.deferred .yield = some .yield)) = true
        ∨ (l.waitingEntries.any _ || decide (l.deferred = some .claim)) = true)
    rw [hnone, hnone]
    by_cases hclaim : l.deferred = some .claim <;> simp [deferInto, hclaim]
  · next hquiet =>
    have hdeferred : l.deferred = none := by
      obtain ⟨-, -, -, -, -, -, hdefer, -⟩ := h
      refine Option.not_isSome_iff_eq_none.mp fun hsome => hquiet ?_
      obtain ⟨e, he, hrestart⟩ := hdefer hsome
      refine List.any_eq_true.mpr ⟨e, he, ?_⟩
      rw [Bool.not_eq_true', ← Bool.not_eq_true, ← e.restart?_eq_none_iff]
      exact Option.isSome_iff_ne_none.mp hrestart
    obtain ⟨-, hwaiting⟩ := LineUnit.waitingEntries_replace h.nonempty (requestInto l.waitingEntries .yield)
    obtain ⟨hclaim, hyield⟩ := requestInto_yield l.waitingEntries
    unfold LineUnit.restartAsked
    rw [hwaiting, hclaim, hdeferred]
    refine ⟨rfl, hyield.imp (fun hy => ?_) fun hc => ?_⟩
    · rw [hy, Bool.true_or]
    · rw [hc, Bool.true_or]

/-- An urgent notice leaves the restart telegrams asked for as they are (R57). -/
theorem any_restart_urgentInto (w : List TxEntry) (k : RestartKind) :
    (urgentInto w).any (fun e => e.restart? = some k) = w.any (fun e => e.restart? = some k) := by
  unfold urgentInto
  split
  · simp [TxEntry.new, TxEntry.restart?]
  · split
    · next e he _ =>
      rw [Bool.eq_iff_iff, List.any_eq_true, List.any_eq_true]
      constructor
      · rintro ⟨f, hf, hk⟩
        rcases List.mem_cons.mp hf with rfl | hf
        · simp [TxEntry.restart?] at hk
        · exact ⟨f, List.mem_of_mem_filter hf, hk⟩
      · rintro ⟨f, hf, hk⟩
        refine ⟨f, List.mem_cons_of_mem _ (List.mem_filter.mpr ⟨hf, ?_⟩), hk⟩
        rw [Bool.not_eq_true', ← Bool.not_eq_true, ← f.restart?_eq_none_iff]
        intro hnone
        simp [hnone] at hk
    · rfl

theorem LineUnit.restartAsked_urgent {l : LineUnit} (hsend : l.sending → l.queue ≠ []) (now : Stamp) (k : RestartKind) :
    (l.urgent now).restartAsked k = l.restartAsked k := by
  have hdeferred := l.urgent_deferred now
  unfold LineUnit.restartAsked
  rw [hdeferred]
  congr 1
  by_cases hstate : l.inTransit.any TxEntry.isState = true
  · rw [LineUnit.urgent_of_state hstate, LineUnit.waitingEntries_rejudge,
      (LineUnit.split_of_append hsend (List.length_map TxEntry.mark)).2]
  · rw [LineUnit.urgent_of_no_state hstate, LineUnit.waitingEntries_rejudge,
      (LineUnit.waitingEntries_replace hsend _).2, any_restart_urgentInto]

theorem LineUnit.restartAsked_beat {l : LineUnit} (hsend : l.sending → l.queue ≠ []) (now : Stamp) (k : RestartKind) :
    (l.beat now).restartAsked k = l.restartAsked k := by
  unfold LineUnit.beat LineUnit.routine
  split
  · rfl
  · rw [LineUnit.restartAsked_rejudge]
    have hsplit : l.queue ++ [TxEntry.new (.state false)] = l.inTransit ++ (l.waitingEntries ++ [.new (.state false)]) := by
      rw [← List.append_assoc, LineUnit.inTransit_append_waitingEntries]
    have hwaiting := (LineUnit.waitingEntries_replace hsend (l.waitingEntries ++ [.new (.state false)])).2
    unfold LineUnit.restartAsked
    congr 1
    show ({ l with queue := l.queue ++ [TxEntry.new (.state false)] } : LineUnit).waitingEntries.any _ = _
    rw [hsplit, hwaiting, List.any_append]
    simp [TxEntry.new, TxEntry.restart?]

theorem LineUnit.restartAsked_setCadence {l : LineUnit} (h : l.Sound) (now : Stamp) (fast : Bool) (k : RestartKind) :
    (l.setCadence now fast).restartAsked k = l.restartAsked k := by
  unfold LineUnit.setCadence
  dsimp only
  split
  · split
    · have hbeat : ({ l with fast := true } : LineUnit).beat now = { l.beat now with fast := true } := by
        unfold LineUnit.beat LineUnit.routine
        split <;> rfl
      have hkept : l.QueueOnly { l.beat now with heartbeat := l.heartbeat } := by
        unfold LineUnit.beat LineUnit.routine
        split <;> rfl
      have hsending : ({ l.beat now with fast := true } : LineUnit).sending = true →
          ({ l.beat now with fast := true } : LineUnit).queue ≠ [] := by
        have hsound := (h.composed.sound_routine now).nonempty
        unfold LineUnit.beat LineUnit.routine
        unfold LineUnit.routine at hsound
        split
        · next hstate =>
          rw [if_pos hstate] at hsound
          exact hsound
        · next hstate =>
          rw [if_neg hstate] at hsound
          exact hsound
      rw [hbeat, LineUnit.restartAsked_urgent hsending]
      exact LineUnit.restartAsked_beat h.nonempty now k
    · exact LineUnit.restartAsked_urgent (l := { l with fast := true }) h.nonempty now k
  · rfl

/-! ### What the other blocks tell the Line Unit without asking for a restart telegram -/

/-- Reached by urgent notices and cadences alone. -/
inductive LineUnit.Noticed (now : Stamp) : LineUnit → LineUnit → Prop
  | refl (l) : Noticed now l l
  | urgent {l m} : Noticed now l m → Noticed now l (m.urgent now)
  | cadence {l m} (fast) : Noticed now l m → Noticed now l (m.setCadence now fast)

theorem LineUnit.Noticed.trans {now : Stamp} {l m n : LineUnit} (h : l.Noticed now m) (k : m.Noticed now n) :
    l.Noticed now n := by
  induction k with
  | refl => exact h
  | urgent _ ih => exact ih.urgent
  | cadence fast _ ih => exact ih.cadence fast

theorem LineUnit.Noticed.served {now : Stamp} {l m : LineUnit} (h : l.Noticed now m) : l.Served now m := by
  induction h with
  | refl => exact .refl _
  | urgent _ ih => exact ih.urgent
  | cadence fast _ ih => exact ih.cadence fast

theorem LineUnit.Noticed.restartAsked {now : Stamp} {l m : LineUnit} (h : l.Noticed now m) (hl : l.Sound)
    (k : RestartKind) : m.restartAsked k = l.restartAsked k := by
  induction h with
  | refl => rfl
  | urgent h ih => rw [LineUnit.restartAsked_urgent (h.served.sound hl).nonempty, ih]
  | cadence fast h ih => rw [LineUnit.restartAsked_setCadence (h.served.sound hl), ih]

section
variable (a : Actors) (v : View)

theorem Actors.noticed_hear (n : Notice) : a.line.Noticed v.now (a.hear v n).line := by
  cases n with
  | tripOutcome p =>
    show a.line.Noticed v.now (a.tripOutcome v).line
    unfold Actors.tripOutcome
    split <;> exact .refl _
  | failedFlag => exact (LineUnit.Noticed.refl _).urgent
  | _ => exact .refl _

theorem Actors.noticed_drive (f : Driver → Driven) : a.line.Noticed v.now (a.drive v f).line := by
  have hall : ∀ (ns : List Notice) (b : Actors), b.line.Noticed v.now (ns.foldl (fun a n => a.hear v n) b).line := by
    intro ns
    induction ns with
    | nil => exact fun b => .refl _
    | cons n ns ih => exact fun b => (b.noticed_hear v n).trans (ih _)
  exact hall _ (a.withDrv (f a.drv).1)

/-- The Line Unit as a change of phase finds it once the turn is given up (R152). -/
def Actors.givenUp (phase : Phase) : LineUnit :=
  if a.coord.phase.inTurn && phase.standsAside && a.coord.claimOutstanding then a.line.request v.now .yield else a.line

theorem Actors.noticed_setPhase {phase : Phase} (hne : a.coord.phase ≠ phase) :
    (a.givenUp v phase).Noticed v.now (a.setPhase v phase).line := by
  unfold Actors.setPhase
  rw [if_neg hne]
  dsimp only
  refine LineUnit.Noticed.urgent (.cadence _ ?_)
  have hleft : (if a.coord.phase.inTurn && phase.standsAside then a.withdrawClaim v else a).line = a.givenUp v phase := by
    unfold Actors.givenUp Actors.withdrawClaim
    cases a.coord.phase.inTurn && phase.standsAside with
    | false => rfl
    | true => cases a.coord.claimOutstanding <;> rfl
  split
  · rw [← hleft]
    exact Actors.noticed_drive _ v _
  · rw [← hleft]
    exact .refl _

/-- A turn with its claim outstanding given up: no CLAIM stays asked for, and a YIELD is, unless it removed an unsent CLAIM. -/
theorem Actors.setPhase_yields {phase : Phase} (hl : a.line.Sound) (hturn : a.coord.phase.inTurn = true)
    (haside : phase.standsAside = true) (hclaim : a.coord.claimOutstanding = true) :
    (a.setPhase v phase).line.restartAsked .claim = false
      ∧ ((a.setPhase v phase).line.restartAsked .yield = true ∨ a.line.restartAsked .claim = true) := by
  have hne : a.coord.phase ≠ phase := fun h => by
    rw [h, (phase.not_inTurn_of_standsAside haside).1] at hturn
    cases hturn
  have hgiven : a.givenUp v phase = a.line.request v.now .yield := if_pos (by rw [hturn, haside, hclaim]; rfl)
  have hnoticed := a.noticed_setPhase v hne
  rw [hgiven] at hnoticed
  have hsound : (a.line.request v.now .yield).Sound := hl.composed.sound_request v.now .yield
  rw [hnoticed.restartAsked hsound, hnoticed.restartAsked hsound]
  exact hl.request_yield v.now

end

/-! ### CLAIM_TELEGRAM in CONTEST and BIDDING (R162) -/

theorem contenders_le_claimers (peers : List PeerRecord) (k : Nat) : contenders peers k ≤ claimers peers := by
  have hzip : claimers peers = peers.zipIdx.countP fun rn => rn.1.claim.isSome := by
    unfold claimers
    conv_lhs => rw [← List.zipIdx_map_fst 0 peers, List.countP_map]
    rfl
  rw [hzip]
  refine List.countP_mono_left fun rn _ h => ?_
  obtain ⟨r, n⟩ := rn
  dsimp only at h ⊢
  unfold PeerRecord.contestingClaimer PeerRecord.energizingClaimer at h
  cases hc : r.claim.isSome with
  | true => rfl
  | false => simp [hc] at h

/-- BACKOFF entered with K or more claimers: awaiting, the turn given up. -/
theorem Actors.enterBackoff_of_claimers (a : Actors) (v : View) (h : v.limit ≤ claimers v.peers) :
    a.enterBackoff v = (a.setPhase v .backoff).withCoord { a.coord.moved .backoff with stagger := none } := by
  unfold Actors.enterBackoff Actors.compareBackoff
  rw [if_neg (by rw [Actors.setPhase_phase]; exact not_not.mpr rfl), if_pos h, Actors.setPhase_coord]

/-- A CLAIM heard in a calm sound state with a turn taken: the record is written, and then the yield rule is put. -/
theorem State.Sound.claimHeard {s : State} (h : s.Sound) {sender group : Byte} (hears : s.act.line.Hears)
    (hsender : stationSender sender = true) (hother : sender ≠ s.sender) (hgroup : groupByte group = true)
    (hphase : s.act.coord.phase = .contest ∨ s.act.coord.phase = .bidding) (hcalm : s.assessor.detector = .calm) :
    ∃ peers l, l.fast = s.act.line.fast ∧ l.Sound ∧ (∀ k, l.restartAsked k = s.act.line.restartAsked k)
      ∧ ∀ b, ({ s.act with line := l } : Actors).onClaim ({ s with peers := peers } : State).view
          (restartKey (BitVec.ofNat 2 group.toNat) sender.toNat) = b → b.drv = s.act.drv →
        exec (.claimTelegram sender group) s = .next { s with peers := peers, act := b } := by
  obtain ⟨bytes, hexec, hheard, -⟩ := s.exec_restartCommand hears .claim (stationSender_lt hsender) hgroup
  have hstep : s.act.coord.step = .none := by
    obtain ⟨-, -, -, -, -, -, -, -, -, -, hcoord, -⟩ := h
    by_contra hne
    rw [hcoord.1 hne] at hphase
    rcases hphase with h | h <;> cases h
  have hwritten := h.withRecord_of_calm hcalm (by rcases hphase with h | h <;> rw [h] <;> decide)
    (by rw [hstep]; decide) (s.act.line.heard s.clock bytes) sender.toNat
    (((recordOf s.peers sender.toNat).hear s.clock (BitVec.ofNat 2 group.toNat)).takeRestart s.clock .claim)
  have hline : (s.act.line.heard s.clock bytes).Sound := by
    obtain ⟨-, -, hline, -⟩ := h
    exact (hline.composed.congr (m := { s.act.line with
      receiver := .skip, rxBuf := [], gapBits := 0, inByte := false, condition := .busy, quietBits := quietTail bytes })
      rfl rfl rfl hline.composed.errors).sound_rejudge s.clock
  have htake : s.hearBytes bytes = (({ s with act := { s.act with line := s.act.line.heard s.clock bytes } } : State).withRecord
      sender.toNat (((recordOf s.peers sender.toNat).hear s.clock (BitVec.ofNat 2 group.toNat)).takeRestart s.clock .claim)).acting
        fun v a => a.onClaim v (restartKey (BitVec.ofNat 2 group.toNat) sender.toNat) := hheard.trans (if_neg hother)
  rw [hwritten] at htake
  generalize s.peers.set sender.toNat _ = peers at htake
  refine ⟨peers, s.act.line.heard s.clock bytes, rfl, hline, fun k => rfl, fun b hb hdrv => hexec.trans
    (congrArg Host.Outcome.next ?_)⟩
  have hclaim : s.hearBytes bytes = { s with peers := peers, act := b } := by
    rw [htake, ← hb]
    rfl
  exact (s.event_of_drv _ (by rw [hclaim, hdrv])).trans hclaim

/-- Settles O27: the yield rule met, and every way it is not. -/
theorem lowerKeyClaimTakesTheTurnBack : Obligations.LowerKeyClaimTakesTheTurnBack := by
  refine ⟨fun s sender group sound hears hsender hother hgroup hturn hcalm hlower => ?_,
    fun s sender group sound hears hsender hother hgroup hphase hcalm hkeeps => ?_⟩
  · have hphase : s.act.coord.phase = .contest ∨ s.act.coord.phase = .bidding := hturn.imp_right And.left
    obtain ⟨peers, l, hfast, hsound, hasked, hexec⟩ := sound.claimHeard hears hsender hother hgroup hphase hcalm
    have hmay : (s.act.coord.phase = .contest || (s.act.coord.phase = .bidding && s.act.coord.claimPending)) = true := by
      rcases hturn with h | ⟨h, hp⟩
      · simp [h]
      · simp [h, hp]
    have houtstanding : s.act.coord.claimOutstanding = true := by
      obtain ⟨-, -, -, -, -, -, -, -, -, -, ⟨-, -, hpending, -, -, -, hout, -⟩, -⟩ := sound
      rcases hturn with h | ⟨h, hp⟩
      · exact hout (.inl h)
      · exact (hpending hp).2
    have hinTurn : s.act.coord.phase.inTurn = true := by rcases hphase with h | h <;> rw [h] <;> rfl
    have hne : s.act.coord.phase ≠ .energizing := by rcases hphase with h | h <;> rw [h] <;> decide
    have hback : s.act.coord.phase ≠ .backoff := by rcases hphase with h | h <;> rw [h] <;> decide
    set v : View := ({ s with peers := peers } : State).view with hv
    set a : Actors := { s.act with line := l } with ha
    by_cases hlimit : v.limit ≤ contenders peers v.key
    · have hyields : a.onClaim v (restartKey (BitVec.ofNat 2 group.toNat) sender.toNat)
          = (a.setPhase v .backoff).withCoord { a.coord.moved .backoff with stagger := none } :=
        (if_pos (by simp only [Bool.and_eq_true, decide_eq_true_iff]; exact ⟨⟨hmay, hlower⟩, hlimit⟩)).trans
          (a.enterBackoff_of_claimers v (hlimit.trans (contenders_le_claimers peers v.key)))
      have hdrv : (a.setPhase v .backoff).drv = s.act.drv := a.setPhase_drv v .backoff hne
      have hmoved : a.coord.moved .backoff = { s.act.coord with
          phase := .backoff, quietStart := none, stagger := none
          claimOutstanding := false, claimPending := false, bidWindow := none, contest := none } := by
        unfold Coordinator.moved
        rw [if_neg hback]
        simp [ha, hinTurn, hne, Phase.standsAside, Coordinator.enter]
      obtain ⟨hclaim, hyield⟩ := a.setPhase_yields v hsound hinTurn (phase := .backoff) rfl houtstanding
      refine ⟨_, hexec _ hyields hdrv, fun _ => ?_, fun hbelow => absurd hlimit (Nat.not_le.mpr hbelow), ?_⟩
      · rw [hmoved]
        exact ⟨rfl, rfl, rfl, rfl, rfl, hclaim, hyield.imp_right fun h => (hasked .claim).symm.trans h⟩
      · rw [← hdrv]
        rfl
    · have hstays : a.onClaim v (restartKey (BitVec.ofNat 2 group.toNat) sender.toNat) = a :=
        if_neg (by simp only [Bool.and_eq_true, decide_eq_true_iff]; exact fun h => hlimit h.2)
      exact ⟨_, hexec _ hstays rfl, fun h => absurd h hlimit, fun _ => rfl, rfl⟩
  · obtain ⟨peers, l, -, -, -, hexec⟩ := sound.claimHeard hears hsender hother hgroup hphase hcalm
    refine ⟨_, hexec _ (if_neg ?_) rfl, rfl⟩
    rcases hkeeps with hkey | ⟨hbidding, hidle⟩
    · simp only [Bool.and_eq_true, decide_eq_true_iff]
      rintro ⟨⟨-, hlower⟩, -⟩
      exact absurd hlower (Nat.not_lt.mpr hkey)
    · simp [hbidding, hidle]

end Sys2Proof.Machine
end

section
/-! PROOFS. The nine directives (10): judged, recorded, and what the Line Unit's, the coordinator's and the driver's do. -/

namespace Sys2Proof.Machine

/-! ### What the other blocks ask leaves an urgent STATE due -/

theorem LineUnit.urgentDue_setCadence {l : LineUnit} (h : l.Sound) (now : Stamp) (fast : Bool) (hdue : l.urgentDue = true) :
    (l.setCadence now fast).urgentDue = true := by
  unfold LineUnit.setCadence
  dsimp only
  split
  · split
    · refine LineUnit.urgentDue_urgent _ now ?_
      have hbeat : ({ l with fast := true } : LineUnit).beat now = { l.beat now with fast := true } := by
        unfold LineUnit.beat LineUnit.routine
        split <;> rfl
      have hqueue : (l.beat now).queue = (l.routine now).queue := by
        unfold LineUnit.beat LineUnit.routine
        split <;> rfl
      have hsending : (l.beat now).sending = (l.routine now).sending := by
        unfold LineUnit.beat LineUnit.routine
        split <;> rfl
      rw [hbeat]
      show (l.beat now).sending = true → (l.beat now).queue ≠ []
      rw [hqueue, hsending]
      exact (h.composed.sound_routine now).nonempty
    · exact LineUnit.urgentDue_urgent (l := { l with fast := true }) now h.nonempty
  · exact hdue

theorem LineUnit.Served.urgentDue {now : Stamp} {l m : LineUnit} (h : l.Served now m) (hl : l.Sound)
    (hdue : l.urgentDue = true) : m.urgentDue = true := by
  induction h with
  | refl => exact hdue
  | urgent h _ => exact LineUnit.urgentDue_urgent _ now (h.sound hl).nonempty
  | request k h ih => exact LineUnit.urgentDue_request (h.sound hl).nonempty now k ih
  | cadence fast h ih => exact LineUnit.urgentDue_setCadence (h.sound hl) now fast ih

/-! ### A directive taken (R49, R53, R185) -/

theorem DirectiveKind.ofCode?_code (kind : DirectiveKind) :
    DirectiveKind.ofCode? (BitVec.ofNat 8 kind.code).toNat = some kind := by
  cases kind <;> decide

theorem exec_directiveCommand (kind : DirectiveKind) (sender target argument : Byte) (s : State) :
    exec (directiveCommand kind sender target argument) s =
      .next (s.event fun s => s.hearBytes (directiveBytes kind sender target argument)) := by
  cases kind <;> rfl

theorem State.hear_directive (s : State) (hears : s.act.line.Hears) {sender target : Byte}
    (hsender : consoleSender sender = true) (htarget : targetByte target = true) (kind : DirectiveKind) (argument : Byte) :
    s.hearBytes (directiveBytes kind sender target argument)
      = (s.listened (directiveBytes kind sender target argument)).takeDirective sender target kind argument := by
  have hconsole : 32 ≤ sender.toNat ∧ sender.toNat ≤ 35 := by simpa [consoleSender] using hsender
  have htarget : target.toNat < 32 ∨ target.toNat = 63 := by
    rwa [targetByte, Bool.or_eq_true, decide_eq_true_iff, decide_eq_true_iff] at htarget
  have hfields : readFields? (6 : Byte).toNat sender [target, BitVec.ofNat 8 kind.code, argument]
      = some (.directive sender target kind argument) := by
    show directiveTelegram? sender [target, BitVec.ofNat 8 kind.code, argument] = _
    refine (if_pos htarget).trans ?_
    rw [DirectiveKind.ofCode?_code]
    rfl
  exact s.hearBytes_frameBytes hears rfl hconsole.2 hfields
    (by simpa [Telegram.suitsSender] using hconsole)

theorem State.targetByte_of_takes {s : State} {sender target : Byte} (h : s.Takes sender target) :
    targetByte target = true := by
  obtain ⟨-, -, rfl | rfl⟩ := h
  · have := s.sender_lt
    simp [targetByte, Config.stations, this]
  · decide

/-- The receiver having taken a telegram, the Line Unit is as sound as before. -/
theorem LineUnit.Sound.heard {l : LineUnit} (h : l.Sound) (now : Stamp) (bytes : List RxByte) : (l.heard now bytes).Sound :=
  (h.composed.congr (m := { l with
    receiver := .skip, rxBuf := [], gapBits := 0, inByte := false, condition := .busy, quietBits := quietTail bytes })
    rfl rfl rfl h.composed.errors).sound_rejudge now

theorem LineUnit.receiverSound_heard (l : LineUnit) (now : Stamp) (bytes : List RxByte) :
    (l.heard now bytes).ReceiverSound :=
  ⟨⟨nofun, fun h => absurd rfl h⟩, nofun, fun _ => rfl, nofun⟩

/-- A directive taken: judged, its effect, the record, and the arbiter at the event's end. -/
theorem State.exec_taken {s : State} {sender target : Byte} (h : s.Takes sender target) (kind : DirectiveKind)
    (argument : Byte) :
    exec (directiveCommand kind sender target argument) s = .next
      (((if s.judgeDirective kind target argument = .accepted then
          (s.listened (directiveBytes kind sender target argument)).applyDirective kind argument
        else s.listened (directiveBytes kind sender target argument)).recordDirective sender kind
          (s.judgeDirective kind target argument)).endEvent s) := by
  rw [exec_directiveCommand]
  refine congrArg Host.Outcome.next (congrArg (fun t : State => t.endEvent s) ?_)
  dsimp only
  rw [s.hear_directive h.1 h.2.1 (State.targetByte_of_takes h)]
  exact if_pos h.2.2

/-- A directive not accepted: the record and the Line Unit alone. -/
theorem State.exec_refused {s : State} {sender target : Byte} (h : s.Takes sender target) {kind : DirectiveKind}
    {argument : Byte} (hnot : s.judgeDirective kind target argument ≠ .accepted) :
    exec (directiveCommand kind sender target argument) s = .next { s with
      directive := ⟨some kind, some (s.judgeDirective kind target argument), BitVec.ofNat 2 (sender.toNat - 32)⟩
      act := { s.act with
        line := (s.act.line.heard s.clock (directiveBytes kind sender target argument)).urgent s.clock } } := by
  rw [State.exec_taken h, if_neg hnot]
  exact congrArg Host.Outcome.next (State.endEvent_of_calm _ _ rfl rfl)

/-- A directive accepted, its effect keeping the driver's queue and gap. -/
theorem State.exec_accepted {s : State} {sender target : Byte} (h : s.Takes sender target) {kind : DirectiveKind}
    {argument : Byte} (haccepted : s.judgeDirective kind target argument = .accepted) {t : State}
    (happly : (s.listened (directiveBytes kind sender target argument)).applyDirective kind argument = t)
    (hqueue : t.act.drv.pulseQueue = s.act.drv.pulseQueue) (hgap : t.act.drv.gap = s.act.drv.gap) :
    exec (directiveCommand kind sender target argument) s = .next { t with
      directive := ⟨some kind, some .accepted, BitVec.ofNat 2 (sender.toNat - 32)⟩
      act := { t.act with line := t.act.line.urgent t.clock } } := by
  rw [State.exec_taken h, if_pos haccepted, happly, haccepted]
  exact congrArg Host.Outcome.next (State.endEvent_of_calm _ _ hqueue hgap)

/-! ### The three tests (R186) -/

theorem tripStage?_isSome (argument : Byte) :
    (tripStage? argument).isSome = true ↔ 1 ≤ argument.toNat ∧ argument.toNat ≤ 4 := by
  revert argument
  decide

theorem testChannel?_isSome (argument : Byte) : (testChannel? argument).isSome = true ↔ argument.toNat ≤ 3 := by
  revert argument
  decide

theorem argumentSuits_iff (kind : DirectiveKind) (target argument : Byte) : argumentSuits kind target argument = true ↔
    (kind = .trip → 1 ≤ argument.toNat ∧ argument.toNat ≤ 4) ∧ (kind = .mute → argument ≠ 0 ∧ target ≠ 63)
      ∧ (kind = .test → argument.toNat ≤ 3) ∧ (kind ∉ [.trip, .mute, .test] → argument = 0) := by
  cases kind with
  | trip => simpa [argumentSuits] using tripStage?_isSome argument
  | test => simpa [argumentSuits] using testChannel?_isSome argument
  | _ => simp [argumentSuits]

theorem State.suits_iff (s : State) (kind : DirectiveKind) : s.suits kind = true ↔
    (kind = .unmute → s.act.line.mute ≠ none)
      ∧ (kind = .reseed ∨ kind = .test → s.act.seq.stage = .watch ∧ s.assessor.detector = .calm) := by
  cases kind with
  | unmute => simp [State.suits, LineUnit.muted, Option.isSome_iff_ne_none]
  | reseed => simp [State.suits, and_comm]
  | test => simp [State.suits]
  | _ => simp [State.suits]

theorem State.judgeDirective_eq (s : State) (kind : DirectiveKind) (target argument : Byte) :
    s.judgeDirective kind target argument =
      if (kind = .trip → 1 ≤ argument.toNat ∧ argument.toNat ≤ 4) ∧ (kind = .mute → argument ≠ 0 ∧ target ≠ 63)
          ∧ (kind = .test → argument.toNat ≤ 3) ∧ (kind ∉ [.trip, .mute, .test] → argument = 0) then
        if (kind = .unmute → s.act.line.mute ≠ none)
            ∧ (kind = .reseed ∨ kind = .test → s.act.seq.stage = .watch ∧ s.assessor.detector = .calm) then
          if kind = .test ∧ s.scanner.active 9 = false then .keyAbsent else .accepted
        else .wrongState
      else .badArgument := by
  simp only [← argumentSuits_iff, ← State.suits_iff]
  unfold State.judgeDirective
  cases argumentSuits kind target argument <;> cases s.suits kind <;> cases s.scanner.active 9 <;> simp

/-- Settles O49: the record of every taken directive, and one for another target disregarded. -/
theorem takenDirectiveIsRecorded : Obligations.TakenDirectiveIsRecorded := by
  refine ⟨fun s kind sender target argument sound takes => ?_,
    fun s kind sender target argument hears hsender htarget hother hnotAll => ?_⟩
  · simp only [← State.judgeDirective_eq]
    by_cases haccepted : s.judgeDirective kind target argument = .accepted
    · refine ⟨_, State.exec_taken takes kind argument, ?_⟩
      rw [if_pos haccepted]
      set u := s.listened (directiveBytes kind sender target argument) with hu
      set w := (u.applyDirective kind argument).recordDirective sender kind (s.judgeDirective kind target argument) with hw
      have hline : (u.applyDirective kind argument).act.line.Sound := by
        have hfit : u.act.line.Fit := ⟨sound.heard s.clock _, LineUnit.receiverSound_heard ..⟩
        exact ((u.passes_applyDirective kind argument).line hfit).1
      have hdirective : (w.endEvent s).directive = w.directive := by rw [State.endEvent_eq]
      refine ⟨hdirective, ?_, fun hnot => absurd ?_ hnot⟩
      · have hdue : w.act.line.urgentDue = true := LineUnit.urgentDue_urgent _ _ hline.nonempty
        unfold State.endEvent
        split
        · refine (Actors.reach_serve _ _).line.urgentDue ?_ hdue
          exact hline.composed.sound_urgent _
        · exact hdue
      · rw [hdirective, hw, haccepted]
        rfl
    · have hrefused := State.exec_refused takes haccepted
      refine ⟨_, hrefused, rfl, LineUnit.urgentDue_urgent _ _ sound.nonempty, fun _ => rfl⟩
  · rw [exec_directiveCommand]
    have hsame : s.hearBytes (directiveBytes kind sender target argument)
        = s.listened (directiveBytes kind sender target argument) :=
      (s.hear_directive hears hsender htarget kind argument).trans
        (State.takeDirective_other _ _ _ _ _ fun h => h.elim hother hnotAll)
    exact congrArg Host.Outcome.next ((s.event_of_drv _ (by rw [hsame]; rfl)).trans hsame)

end Sys2Proof.Machine
end

section
/-! PROOFS. RESUME and HOLD (R187), and the directives to Line Unit, assessor, driver and start-up (R188 to R191). -/

namespace Sys2Proof.Machine

/-! ### The arbiter with no step under way -/

theorem Actors.asks_operate (a : Actors) (v : View) (f : Driver → Driven) (h : a.coord.step = .none) :
    Actors.Asks False False a (a.operate v f) := by
  have hall : ∀ (ns : List Notice) (b : Actors), b.coord.step = .none →
      Actors.Asks False False b (ns.foldl (fun a n => a.report v n) b) := by
    intro ns
    induction ns with
    | nil => exact fun b _ => .refl b
    | cons n ns ih =>
      intro b hb
      have hone : Actors.Asks False False b (b.report v n) := by
        rw [b.report_of_no_step v n hb]
        exact b.asks_hear v n
      exact hone.andThen (ih _ (by rw [hone.coord]; exact hb))
  exact (a.asks_withDrv (f a.drv).1).andThen (hall _ _ h)

/-- With no step under way the arbiter at an event's end leaves coordinator, stage and floor. -/
theorem State.endEvent_of_no_step (s old : State) (h : s.act.coord.step = .none) :
    Actors.Asks False False s.act (s.endEvent old).act := by
  unfold State.endEvent
  split
  · exact Actors.asks_operate _ _ _ h
  · exact .refl _

/-! ### RESUME (R155, R157, R174) -/

theorem Actors.onResume_eq (a : Actors) (v : View) : a.onResume v =
    ((a.withCoord { a.coord with permit := true, holdPending := false }).withLine
      (if a.coord.permit then a.line else a.line.urgent v.now)).checkAuthority v := by
  unfold Actors.onResume
  cases a.coord.permit <;> rfl

theorem LineUnit.noticed_if_urgent (l : LineUnit) (now : Stamp) (c : Bool) :
    l.Noticed now (if c then l else l.urgent now) := by
  cases c
  · exact (LineUnit.Noticed.refl l).urgent
  · exact .refl l

theorem LineUnit.Served.leave {now : Stamp} {l m : LineUnit} (h : l.Served now m) :
    m.stuck = l.stuck ∧ m.mute = l.mute := by
  rw [h.kept]
  exact ⟨rfl, rfl⟩

theorem State.resume_accepted (s : State) (target : Byte) : s.judgeDirective .resume target 0 = .accepted := rfl

/-- RESUME where the check is not made or fails: permit and hold pending alone. -/
theorem State.exec_resume_of_not {s : State} {sender target : Byte} (takes : s.Takes sender target)
    (hfails : s.act.coord.phase ≠ .awaitPermit ∨ s.act.line.mute ≠ none ∨ s.scanner.fault = true
      ∨ (s.act.line.stuck = true ∧ (s.scanner.active 7 = false ∨ s.act.coord.keyWithheld = true))) :
    ∃ t, exec (.resume sender target 0) s = .next t ∧
      t = { s with
        directive := t.directive
        act := { s.act with line := t.act.line, coord := { s.act.coord with permit := true, holdPending := false } } } := by
  set b := directiveBytes .resume sender target 0
  have hsame : ((s.listened b).applyDirective .resume 0) = { s with act := { s.act with
      line := if s.act.coord.permit then s.act.line.heard s.clock b else (s.act.line.heard s.clock b).urgent s.clock
      coord := { s.act.coord with permit := true, holdPending := false } } } := by
    show (s.listened b).withAct ((s.listened b).act.onResume s.view) = _
    rw [Actors.onResume_eq, Actors.checkAuthority_of_not]
    · rfl
    · intro hphase
      obtain ⟨hstuck, hmute⟩ := ((s.act.line.heard s.clock b).noticed_if_urgent s.clock s.act.coord.permit).served.leave
      refine (authority_fails_iff _ _).mpr ?_
      refine (hfails.resolve_left (not_not.mpr hphase)).imp (fun h => ?_) (Or.imp_right (And.imp_left fun h => .inr ?_))
      · exact fun h' => h (hmute.symm.trans h')
      · exact hstuck.trans h
  exact ⟨_, State.exec_accepted takes (s.resume_accepted target) hsame rfl rfl, rfl⟩

/-- RESUME in AWAIT_PERMIT where the check holds: BIDDING. -/
theorem State.exec_resume_of_holds {s : State} {sender target : Byte} (takes : s.Takes sender target)
    (sound : s.act.line.Sound) (hphase : s.act.coord.phase = .awaitPermit)
    (hleave : s.act.line.stuck = false ∨ (s.scanner.active 7 = true ∧ s.act.coord.keyWithheld = false))
    (hmute : s.act.line.mute = none) (hfault : s.scanner.fault = false) :
    ∃ l d, l.restartAsked .bid = true ∧ exec (.resume sender target 0) s = .next { s with
        directive := d
        act := { s.act with
          line := l
          seq := { s.act.seq with standDown := none }
          coord := { s.act.coord with
            permit := true, holdPending := false, phase := .bidding, quietStart := none, stagger := none } } } := by
  set b := directiveBytes .resume sender target 0
  set l := if s.act.coord.permit then s.act.line.heard s.clock b else (s.act.line.heard s.clock b).urgent s.clock with hl
  have hserved : (s.act.line.heard s.clock b).Served s.clock l :=
    ((s.act.line.heard s.clock b).noticed_if_urgent s.clock s.act.coord.permit).served
  have hsound : l.Sound := hserved.sound (sound.heard s.clock b)
  have hsame : ((s.listened b).applyDirective .resume 0) = { s with act := { s.act with
      line := l.bid s.clock
      seq := { s.act.seq with standDown := none }
      coord := { s.act.coord with
        permit := true, holdPending := false, phase := .bidding, quietStart := none, stagger := none } } } := by
    show (s.listened b).withAct ((s.listened b).act.onResume s.view) = _
    obtain ⟨hstuck, hunmuted⟩ := hserved.leave
    rw [Actors.onResume_eq, Actors.checkAuthority_of_holds, Actors.enterBidding_eq]
    · rfl
    · show s.act.coord.phase ≠ .bidding
      rw [hphase]
      decide
    · show s.act.coord.phase ≠ .energizing
      rw [hphase]
      decide
    · exact hphase
    · exact (Actors.authorityHolds_iff _ _).mpr
        ⟨hleave.imp_left fun h => ⟨rfl, hstuck.trans h⟩, hunmuted.trans hmute, hfault⟩
  refine ⟨_, _, ?_, State.exec_accepted takes (s.resume_accepted target) hsame rfl rfl⟩
  have hbid := (l.served_bid s.clock).sound hsound
  exact (LineUnit.restartAsked_urgent hbid.nonempty s.clock .bid).trans (hsound.bid s.clock).2.2

/-! ### HOLD (R155, R156, R166, R174) -/

theorem State.hold_accepted (s : State) (target : Byte) : s.judgeDirective .hold target 0 = .accepted := rfl

/-- AWAIT_PERMIT entered with the permit clear and a turned key withheld ends there (R157). -/
theorem Actors.enterAwaitPermit_of_no_leave (a : Actors) (v : View) (hpermit : a.coord.permit = false)
    (hkey : v.scanner.active 7 = false ∨ a.coord.keyWithheld = true) : a.enterAwaitPermit v = a.setPhase v .awaitPermit := by
  obtain ⟨hp, hk⟩ := a.setPhase_leave v .awaitPermit
  refine Actors.checkAuthority_of_not fun _ => (authority_fails_iff _ _).mpr (.inr (.inr ⟨.inl (hp.trans hpermit), ?_⟩))
  exact hkey.imp_right hk.trans

/-- The coordinator with its leave taken back (R155, R156). -/
def Actors.leaveTaken (a : Actors) (v : View) : Actors :=
  a.withCoord { a.coord with permit := false, keyWithheld := a.coord.keyWithheld || v.scanner.active 7 }

theorem Actors.leaveTaken_key (a : Actors) (v : View) :
    v.scanner.active 7 = false ∨ (a.leaveTaken v).coord.keyWithheld = true := by
  show _ ∨ (a.coord.keyWithheld || v.scanner.active 7) = true
  cases v.scanner.active 7 <;> simp

/-- The coordinator as a turn is given up (R152). -/
theorem Coordinator.moved_of_turn {c : Coordinator} {p : Phase} (hturn : c.phase.inTurn = true)
    (haside : p.standsAside = true) : c.moved p = { c with
      phase := p, quietStart := none, stagger := none
      claimOutstanding := false, claimPending := false, bidWindow := none, contest := none
      step := if c.phase = .energizing then .none else c.step
      holdPending := if c.phase = .energizing then false else c.holdPending } := by
  have hne : c.phase ≠ p := fun h => by
    rw [h, (p.not_inTurn_of_standsAside haside).1] at hturn
    cases hturn
  unfold Coordinator.moved
  rw [if_neg hne]
  simp only [hturn, haside, Bool.and_self, if_true]
  split <;> rfl

/-- HOLD in a phase before ENERGIZING, or in it with no step under way: AWAIT_PERMIT. -/
theorem Actors.onHold_leaves {a : Actors} {v : View}
    (h : a.coord.phase ∈ [.bidding, .contest, .backoff] ∨ (a.coord.phase = .energizing ∧ a.coord.step.underWay = false)) :
    a.onHold v = (a.leaveTaken v).setPhase v .awaitPermit := by
  rw [← (a.leaveTaken v).enterAwaitPermit_of_no_leave v rfl (a.leaveTaken_key v)]
  have hnot : a.coord.phase ∉ [.none, .quietWait, .awaitPermit, .rejoin] := by
    rcases h with h | ⟨h, -⟩
    · simp only [List.mem_cons, List.not_mem_nil, or_false] at h ⊢
      rcases h with h | h | h <;> rw [h] <;> decide
    · rw [h]
      decide
  unfold Actors.onHold
  dsimp only
  split
  · rfl
  · rfl
  · rfl
  · next hphase =>
    have hphase : a.coord.phase = .energizing := hphase
    have hstep : a.coord.step.underWay = false := by simpa [hphase] using h
    rw [if_neg (by rw [Actors.withCoord_coord, hstep]; decide)]
    rfl
  all_goals
    next hphase =>
      rw [show a.coord.phase = _ from hphase] at hnot
      exact absurd (by decide) hnot

/-- HOLD with a step of energizing under way: pending. -/
theorem Actors.onHold_pending {a : Actors} {v : View} (hphase : a.coord.phase = .energizing)
    (hstep : a.coord.step.underWay = true) :
    a.onHold v = (a.leaveTaken v).withCoord { (a.leaveTaken v).coord with holdPending := true } := by
  unfold Actors.onHold
  dsimp only
  split
  case h_4 => exact if_pos hstep
  all_goals
    next hother =>
      rw [Actors.withCoord_coord, hphase] at hother
      cases hother

/-- HOLD in any other phase takes the leave back and no more. -/
theorem Actors.onHold_stands {a : Actors} {v : View} (h : a.coord.phase ∈ [.none, .quietWait, .awaitPermit, .rejoin]) :
    a.onHold v = a.leaveTaken v := by
  have hnot : a.coord.phase ∉ [.bidding, .contest, .backoff, .energizing] := by
    simp only [List.mem_cons, List.not_mem_nil, or_false] at h ⊢
    rcases h with h | h | h | h <;> rw [h] <;> decide
  unfold Actors.onHold
  dsimp only
  split
  case h_5 => rfl
  case h_6 => rfl
  case h_7 => rfl
  case h_8 => rfl
  all_goals
    next hphase =>
      rw [show a.coord.phase = _ from hphase] at hnot
      exact absurd (by decide) hnot

/-- Settles O50: RESUME with and without leave, HOLD in every phase. -/
theorem resumeAndHoldMoveThePermit : Obligations.ResumeAndHoldMoveThePermit := by
  refine ⟨fun s sender target sound takes hphase hleave hmute hfault => ?_, fun s sender target takes _ hfails => ?_,
    fun s sender target takes hphase => ?_, fun s sender target takes hleaves => ?_,
    fun s sender target takes hphase hstep => ?_, fun s sender target takes hphase => ?_⟩
  · obtain ⟨l, d, hasked, hexec⟩ := State.exec_resume_of_holds takes sound hphase hleave hmute hfault
    exact ⟨_, hexec, rfl, rfl, hasked, rfl, rfl, rfl, rfl⟩
  · exact State.exec_resume_of_not takes (.inr hfails)
  · exact State.exec_resume_of_not takes (.inl hphase)
  · set b := directiveBytes .hold sender target 0
    have hsame : ((s.listened b).applyDirective .hold 0)
        = (s.listened b).withAct (((s.listened b).act.leaveTaken s.view).setPhase s.view .awaitPermit) :=
      congrArg (s.listened b).withAct (Actors.onHold_leaves (a := (s.listened b).act) (v := s.view) hleaves)
    set a := (s.listened b).act.leaveTaken s.view with ha
    have hcoord : (a.setPhase s.view .awaitPermit).coord = a.coord.moved .awaitPermit := a.setPhase_coord s.view .awaitPermit
    have hstep : (a.coord.moved .awaitPermit).step = .none ∨ s.act.coord.phase ≠ .energizing := by
      by_cases hphase : s.act.coord.phase = .energizing
      · have hphase : a.coord.phase = .energizing := hphase
        refine .inl ?_
        rw [Coordinator.moved_of_turn (by rw [hphase]; rfl) rfl]
        exact if_pos hphase
      · exact .inr hphase
    have hmoved : (a.coord.moved .awaitPermit).permit = false
        ∧ (a.coord.moved .awaitPermit).keyWithheld = (s.act.coord.keyWithheld || s.scanner.active 7)
        ∧ (a.coord.moved .awaitPermit).phase = .awaitPermit
        ∧ (s.act.coord.phase ≠ .backoff → (a.coord.moved .awaitPermit).claimOutstanding = false) := by
      refine ⟨?_, ?_, Coordinator.moved_phase _ _, fun hback => ?_⟩
      · rw [← hcoord, (a.setPhase_leave s.view .awaitPermit).1]
        rfl
      · rw [← hcoord, (a.setPhase_leave s.view .awaitPermit).2]
        rfl
      · have hturn : a.coord.phase.inTurn = true := by
          show s.act.coord.phase.inTurn = true
          rcases hleaves with h | ⟨h, -⟩
          · simp only [List.mem_cons, List.not_mem_nil, or_false] at h
            rcases h with h | h | h
            · rw [h]; rfl
            · rw [h]; rfl
            · exact absurd h hback
          · rw [h]; rfl
        rw [Coordinator.moved_of_turn hturn rfl]
    have hseq := a.setPhase_seq s.view .awaitPermit
    have hexec := State.exec_taken takes .hold 0
    rw [if_pos (s.hold_accepted target), hsame] at hexec
    set w := (((s.listened b).withAct (a.setPhase s.view .awaitPermit)).recordDirective sender .hold
      (s.judgeDirective .hold target 0)) with hw
    have hwcoord : w.act.coord = a.coord.moved .awaitPermit := hcoord
    have hkept : (w.endEvent s).act.coord = a.coord.moved .awaitPermit ∧ (w.endEvent s).act.seq.stage = s.act.seq.stage
        ∧ (w.endEvent s).act.seq.floor = s.act.seq.floor
        ∧ (s.act.coord.phase ≠ .energizing → (w.endEvent s).act.drv = s.act.drv) := by
      have hwseq : w.act.seq.stage = s.act.seq.stage ∧ w.act.seq.floor = s.act.seq.floor := by
        show (a.setPhase s.view .awaitPermit).seq.stage = _ ∧ (a.setPhase s.view .awaitPermit).seq.floor = _
        rw [hseq]
        exact ⟨rfl, rfl⟩
      by_cases hphase : s.act.coord.phase = .energizing
      · have hasks := w.endEvent_of_no_step s (by rw [hwcoord]; exact hstep.resolve_right (not_not.mpr hphase))
        refine ⟨hasks.coord.trans hwcoord, ?_, ?_, fun h => absurd hphase h⟩
        · rw [hasks.seq]
          exact hwseq.1
        · rw [hasks.seq]
          exact hwseq.2
      · have hdrv : w.act.drv = s.act.drv := a.setPhase_drv s.view .awaitPermit hphase
        rw [State.endEvent_of_calm w s (by rw [hdrv]) (by rw [hdrv])]
        exact ⟨hwcoord, hwseq.1, hwseq.2, fun _ => hdrv⟩
    refine ⟨w.endEvent s, hexec, ?_⟩
    obtain ⟨hc, hstage, hfloor, hdrv⟩ := hkept
    rw [hc]
    refine ⟨hmoved.1, hmoved.2.1, hmoved.2.2.1, hmoved.2.2.2, hstage, hfloor, hdrv, ?_⟩
    rw [State.endEvent_eq]
    rfl
  · set b := directiveBytes .hold sender target 0
    have hsame : ((s.listened b).applyDirective .hold 0) = { s with act := { s.act with
        line := s.act.line.heard s.clock b
        coord := { s.act.coord with
          permit := false, holdPending := true, keyWithheld := s.act.coord.keyWithheld || s.scanner.active 7 } } } := by
      show (s.listened b).withAct ((s.listened b).act.onHold s.view) = _
      have hphase : (s.listened b).act.coord.phase = .energizing := hphase
      have hstep : (s.listened b).act.coord.step.underWay = true := hstep
      have hpending : (s.listened b).act.onHold s.view = ((s.listened b).act.leaveTaken s.view).withCoord
          { ((s.listened b).act.leaveTaken s.view).coord with holdPending := true } :=
        Actors.onHold_pending hphase hstep
      rw [hpending]
      rfl
    exact ⟨_, State.exec_accepted takes (s.hold_accepted target) hsame rfl rfl, rfl⟩
  · set b := directiveBytes .hold sender target 0
    have hsame : ((s.listened b).applyDirective .hold 0) = { s with act := { s.act with
        line := s.act.line.heard s.clock b
        coord := { s.act.coord with
          permit := false, keyWithheld := s.act.coord.keyWithheld || s.scanner.active 7 } } } := by
      show (s.listened b).withAct ((s.listened b).act.onHold s.view) = _
      have hphase : (s.listened b).act.coord.phase ∈ [.none, .quietWait, .awaitPermit, .rejoin] := hphase
      rw [Actors.onHold_stands hphase]
      rfl
    exact ⟨_, State.exec_accepted takes (s.hold_accepted target) hsame rfl rfl, rfl⟩

end Sys2Proof.Machine
end

section
/-! PROOFS. MUTE, UNMUTE, RESEED, TEST, ACK_RESET and CLEAR_COUNTS (R188 to R191). -/

namespace Sys2Proof.Machine

/-- A directive that touches the acting blocks, the driver kept. -/
theorem State.directed_eq {s t : State} (h : t = { s with directive := t.directive, act := t.act })
    (hdrv : t.act.drv = s.act.drv) : t = { s with
      directive := t.directive
      act := { s.act with line := t.act.line, seq := t.act.seq, coord := t.act.coord } } := by
  simp only [← hdrv]
  exact h

/-! ### MUTE (R70, R166, R189) -/

/-- While the station is muted neither wait runs (R61, R66). -/
theorem LineUnit.waits_rejudge_of_muted {l : LineUnit} (h : l.mute ≠ none) (now : Stamp) :
    (l.rejudge now).idleCount = none ∧ (l.rejudge now).stuckTimer = none := by
  have hmuted : l.muted = true := by
    rw [← Bool.not_eq_false, l.muted_eq_false_iff]
    exact h
  simp [LineUnit.rejudge, hmuted]

theorem LineUnit.waits_urgent_of_muted {l : LineUnit} (h : l.mute ≠ none) (now : Stamp) :
    (l.urgent now).idleCount = none ∧ (l.urgent now).stuckTimer = none := by
  unfold LineUnit.urgent
  refine LineUnit.waits_rejudge_of_muted ?_ now
  split <;> exact h

/-- AWAIT_PERMIT entered while muted ends there (R157). -/
theorem Actors.enterAwaitPermit_of_muted (a : Actors) (v : View) (h : a.line.mute ≠ none) :
    a.enterAwaitPermit v = a.setPhase v .awaitPermit := by
  refine Actors.checkAuthority_of_not fun _ => (authority_fails_iff _ _).mpr (.inl ?_)
  rw [(a.setPhase_served v .awaitPermit).leave.2]
  exact h

/-- A mute that begins in BIDDING or BACKOFF; any other changes the Line Unit alone. -/
theorem Actors.onMute_cases (a : Actors) (v : View) :
    (a.onMute v = a.enterAwaitPermit v ∧ (a.coord.phase = .bidding ∨ a.coord.phase = .backoff))
      ∨ (a.onMute v = a ∧ a.coord.phase ≠ .bidding ∧ a.coord.phase ≠ .backoff) := by
  unfold Actors.onMute
  split
  · next h => exact .inl ⟨rfl, .inl h⟩
  · next h => exact .inl ⟨rfl, .inr h⟩
  all_goals
    next h =>
      rw [h]
      exact .inr ⟨rfl, by decide, by decide⟩

/-- The Line Unit muted for a time, both waits judged. -/
def LineUnit.mutedFor (l : LineUnit) (now : Stamp) (seconds : Nat) : LineUnit :=
  ({ l with mute := some ⟨now, seconds⟩ } : LineUnit).rejudge now

theorem Actors.muteFor_cases (a : Actors) (v : View) (seconds : Nat) :
    (a.muteFor v seconds = (a.withLine (a.line.mutedFor v.now seconds)).setPhase v .awaitPermit
        ∧ a.line.mute = none ∧ (a.coord.phase = .bidding ∨ a.coord.phase = .backoff))
      ∨ (a.muteFor v seconds = a.withLine (a.line.mutedFor v.now seconds)
        ∧ (a.line.mute ≠ none ∨ (a.coord.phase ≠ .bidding ∧ a.coord.phase ≠ .backoff))) := by
  unfold Actors.muteFor
  dsimp only
  split
  · next hbegins =>
    have hunmuted : a.line.mute = none := by simpa [LineUnit.muted] using hbegins
    rcases (a.withLine (a.line.mutedFor v.now seconds)).onMute_cases v with ⟨heq, hphase⟩ | ⟨heq, hphase⟩
    · refine .inl ⟨heq.trans (Actors.enterAwaitPermit_of_muted _ v nofun), hunmuted, hphase⟩
    · exact .inr ⟨heq, .inr hphase⟩
  · next hmuted =>
    refine .inr ⟨rfl, .inl fun h => hmuted ?_⟩
    simp [LineUnit.muted, h]

theorem State.mute_accepted (s : State) {argument : Byte} (h : argument ≠ 0) :
    s.judgeDirective .mute s.sender argument = .accepted := by
  have htarget : s.sender ≠ 63 := fun hsender => by
    have := s.sender_lt
    rw [hsender] at this
    exact absurd this (by decide)
  have hsuits : argumentSuits .mute s.sender argument = true :=
    (argumentSuits_iff _ _ _).mpr ⟨nofun, fun _ => ⟨h, htarget⟩, nofun, fun hother => absurd (by decide) hother⟩
  simp [State.judgeDirective, hsuits, State.suits]

/-- The Line Unit at the end of an accepted MUTE. -/
theorem LineUnit.Served.muted {now : Stamp} {l m : LineUnit} {seconds : Nat} (h : (l.mutedFor now seconds).Served now m) :
    (m.urgent now).mute = some ⟨now, seconds⟩ ∧ (m.urgent now).idleCount = none ∧ (m.urgent now).stuckTimer = none
      ∧ (m.urgent now).sending = l.sending := by
  have hmute : m.mute = some ⟨now, seconds⟩ := h.leave.2
  obtain ⟨hidle, hstuck⟩ := LineUnit.waits_urgent_of_muted (l := m) (by rw [hmute]; nofun) now
  refine ⟨h.urgent.leave.2, hidle, hstuck, ?_⟩
  rw [h.urgent.kept]
  rfl

/-- The arbiter at an event's end leaves T formed as it was. -/
theorem State.target_endEvent {s : State} (h : s.act.seq.target = target s.view) (old : State) :
    (s.endEvent old).act.seq.target = target (s.endEvent old).view := by
  unfold State.endEvent
  split
  · exact (Actors.reach_serve _ _).target.trans h
  · exact h

/-! ### UNMUTE, RESEED and TEST -/

theorem State.unmute_accepted (s : State) (target : Byte) (h : s.act.line.mute ≠ none) :
    s.judgeDirective .unmute target 0 = .accepted := by
  simp [State.judgeDirective, argumentSuits, State.suits, LineUnit.muted, h]

/-- Settles O52: the six directives accepted, UNMUTE with and without authority. -/
theorem otherDirectivesAct : Obligations.OtherDirectivesAct := by
  refine ⟨fun s sender argument takes hargument => ?_, fun s sender target m takes hmute hfails => ?_,
    fun s sender target takes hcalm hwatch => ?_, fun s sender target argument ch takes hch hcalm hwatch hkey => ?_,
    fun s sender target takes => ?_, fun s sender target takes => ?_,
    fun s sender target m sound takes hmute hphase hleave hfault => ?_⟩
  · set b := directiveBytes .mute sender s.sender argument
    have haccepted := s.mute_accepted hargument
    rcases (s.listened b).act.muteFor_cases s.view argument.toNat with ⟨heq, hunmuted, hphase⟩ | ⟨heq, hstays⟩
    · have hphase : s.act.coord.phase = .bidding ∨ s.act.coord.phase = .backoff := hphase
      set a := (s.listened b).act.withLine ((s.listened b).act.line.mutedFor s.view.now argument.toNat) with ha
      have happly : (s.listened b).applyDirective .mute argument = (s.listened b).withAct (a.setPhase s.view .awaitPermit) :=
        congrArg (s.listened b).withAct heq
      have hdrv : (a.setPhase s.view .awaitPermit).drv = s.act.drv :=
        a.setPhase_drv s.view .awaitPermit (by
          show s.act.coord.phase ≠ .energizing
          rcases hphase with h | h <;> rw [h] <;> decide)
      have hseq := a.setPhase_seq s.view .awaitPermit
      obtain ⟨hmute, hidle, hstuck, hsending⟩ := (a.setPhase_served s.view .awaitPermit).muted
      refine ⟨_, State.exec_accepted takes haccepted happly (by rw [State.withAct_act, hdrv]) (by rw [State.withAct_act, hdrv]),
        ?_, hmute, hidle, hstuck, ?_, hsending, fun _ _ => Actors.setPhase_phase _ _ _, fun hnot => ?_⟩
      · exact State.directed_eq rfl hdrv
      · show (a.setPhase s.view .awaitPermit).seq.stage = _
        rw [hseq]
        rfl
      · rcases hnot with h | ⟨h, h'⟩
        · exact absurd hunmuted h
        · exact hphase.elim (absurd · h) (absurd · h')
    · have happly : (s.listened b).applyDirective .mute argument = (s.listened b).withAct _ :=
        congrArg (s.listened b).withAct heq
      obtain ⟨hmute, hidle, hstuck, hsending⟩ :=
        (LineUnit.Served.refl (now := s.clock) ((s.listened b).act.line.mutedFor s.clock argument.toNat)).muted
      refine ⟨_, State.exec_accepted takes haccepted happly rfl rfl, rfl, hmute, hidle, hstuck, rfl, hsending,
        fun hunmuted hphase => ?_, fun _ => ⟨rfl, rfl⟩⟩
      rcases hstays with h | ⟨h, h'⟩
      · exact absurd hunmuted h
      · exact hphase.elim (absurd · h) (absurd · h')
  · set b := directiveBytes .unmute sender target 0
    set l := ({ (s.listened b).act.line with mute := none } : LineUnit).rejudge s.clock with hl
    have happly : (s.listened b).applyDirective .unmute 0 = { s.listened b with act := { s.act with line := l } } := by
      refine State.check_of_not (s.listened b) (l := l) fun hphase => (authority_fails_iff _ _).mpr (.inr ?_)
      exact hfails.resolve_left (not_not.mpr hphase)
    have hkept := (LineUnit.Served.refl (now := s.clock) l).urgent.leave.2
    exact ⟨_, State.exec_accepted takes (s.unmute_accepted target (by rw [hmute]; nofun)) happly rfl rfl, rfl, hkept⟩
  · have haccepted : s.judgeDirective .reseed target 0 = .accepted := by
      simp [State.judgeDirective, argumentSuits, State.suits, hcalm, hwatch]
    have hexec := State.exec_taken takes .reseed 0
    rw [if_pos haccepted] at hexec
    set b := directiveBytes .reseed sender target 0
    set w := ((s.listened b).applyDirective .reseed 0).recordDirective sender .reseed (s.judgeDirective .reseed target 0) with hw
    have htarget : w.act.seq.target = Machine.target w.view := by
      show (Actors.afterAssessor _ _ _).seq.target = _
      rw [Actors.afterAssessor_eq, Actors.formTarget_target]
      rfl
    refine ⟨w.endEvent s, hexec, ?_, ?_, ?_, ?_⟩
    · rw [State.endEvent_eq]
      rfl
    · rw [State.endEvent_eq]
      rfl
    · rw [State.endEvent_eq]
      rfl
    · exact State.target_endEvent htarget s
  · set b := directiveBytes .test sender target argument
    have haccepted : s.judgeDirective .test target argument = .accepted := by
      simp [State.judgeDirective, argumentSuits, State.suits, hcalm, hwatch, hch, hkey]
    have happly : (s.listened b).applyDirective .test argument
        = { s.listened b with act := { (s.listened b).act with drv := s.act.drv.testLevel ch s.clock } } := by
      unfold State.applyDirective
      dsimp only
      rw [hch]
      rfl
    have hkept : (s.act.drv.testLevel ch s.clock).pulseQueue = s.act.drv.pulseQueue
        ∧ (s.act.drv.testLevel ch s.clock).gap = s.act.drv.gap := by
      unfold Driver.testLevel
      split <;> simp
    exact ⟨_, State.exec_accepted takes haccepted happly hkept.1 hkept.2, rfl⟩
  · set b := directiveBytes .ackReset sender target 0
    have happly : (s.listened b).applyDirective .ackReset 0
        = { s.listened b with startup := { s.startup with resetSeen := false } } := rfl
    have hkept := (s.act.line.heard s.clock b).queueOnly_urgent s.clock
    exact ⟨_, State.exec_accepted takes rfl happly rfl rfl, rfl, hkept.keeps.2.2.2.2.1⟩
  · set b := directiveBytes .clearCounts sender target 0
    have happly : (s.listened b).applyDirective .clearCounts 0
        = { s.listened b with act := { (s.listened b).act with line := { s.act.line.heard s.clock b with errors := 0 } } } := rfl
    have hkept := ({ s.act.line.heard s.clock b with errors := 0 } : LineUnit).queueOnly_urgent s.clock
    exact ⟨_, State.exec_accepted takes rfl happly rfl rfl, rfl, hkept.keeps.2.2.2.2.1⟩
  · set b := directiveBytes .unmute sender target 0
    set l := ({ (s.listened b).act.line with mute := none } : LineUnit).rejudge s.clock with hl
    have happly := State.check_of_holds (s.listened b) (l := l) hphase
      ((Actors.authorityHolds_iff _ _).mpr ⟨hleave, rfl, hfault⟩)
    have hsound : l.Sound := by
      have hheard := (sound.heard s.clock b).composed
      exact (hheard.congr (m := { (s.listened b).act.line with mute := none }) rfl rfl rfl hheard.errors).sound_rejudge s.clock
    have hbid := (l.served_bid s.clock).sound hsound
    refine ⟨_, State.exec_accepted takes (s.unmute_accepted target (by rw [hmute]; nofun)) happly rfl rfl, rfl,
      (l.served_bid s.clock).urgent.leave.2, ?_, LineUnit.urgentDue_urgent _ _ hbid.nonempty⟩
    exact (LineUnit.restartAsked_urgent hbid.nonempty s.clock .bid).trans (hsound.bid s.clock).2.2

end Sys2Proof.Machine
end

section
/-! PROOFS. The arbiter at an event's end, and what its notices can make of the acting blocks (R131, R138). -/

namespace Sys2Proof.Machine

/-! ### Notices of the arbiter -/

/-- Notices the arbiter can make: outcomes of trips and closes, none of a HOLD channel and none of a failure. -/
def Notice.ofArbiter : Notice → Bool
  | .tripOutcome _ | .closeConfirmed _ | .closeUnconfirmed _ | .closeCut _ | .closeWithdrawn _ => true
  | .closeFailed _ | .closeRefused _ | .releaseConfirmed _ | .releaseUnconfirmed _ | .releaseFailed _ | .failedFlag => false

section
variable (d : Driver) (sc : Scanner) (now : Stamp) (energizing : Bool)

theorem Driver.arbiter_cutClose (p : Pdu) : ∀ n ∈ (d.cutClose now p).2, n.ofArbiter = true := by
  unfold Driver.cutClose
  split <;> simp [Notice.ofArbiter]

theorem Driver.arbiter_requestTrip (p : Pdu) : ∀ n ∈ (d.requestTrip sc now p).2, n.ofArbiter = true := by
  unfold Driver.requestTrip
  rw [Driven.next_snd]
  intro n hn
  rcases List.mem_append.mp hn with hn | hn
  · exact d.arbiter_cutClose now p n hn
  · split at hn
    · split at hn
      · rw [List.mem_singleton.mp hn]
        rfl
      · cases hn
    all_goals cases hn

theorem Driver.arbiter_finishClose (p : Pdu) : ∀ n ∈ (d.finishClose sc now energizing p).2, n.ofArbiter = true := by
  unfold Driver.finishClose
  dsimp only
  split
  · simp [Notice.ofArbiter]
  · rw [Driven.next_snd]
    intro n hn
    rcases List.mem_append.mp hn with hn | hn
    · rw [List.mem_singleton.mp hn]
      rfl
    · unfold Driver.rearmAfterClose at hn
      split at hn
      · cases hn
      · exact Driver.arbiter_requestTrip _ sc now p n hn

theorem Driver.arbiter_judgeHead (id : PulseId) : ∀ n ∈ (d.judgeHead sc now energizing id).2, n.ofArbiter = true := by
  unfold Driver.judgeHead
  split
  · split <;> simp [Notice.ofArbiter]
  · split
    · simp [Notice.ofArbiter]
    · split
      · simp
      · exact d.arbiter_finishClose sc now energizing _

theorem Driver.arbiter_serve (n : Nat) : ∀ m ∈ (Driver.serve sc now energizing n d).2, m.ofArbiter = true := by
  induction n generalizing d with
  | zero => simp [Driver.serve]
  | succ n ih =>
    unfold Driver.serve
    split
    · simp
    · split
      · simp
      · rw [Driven.next_snd]
        intro m hm
        rcases List.mem_append.mp hm with hm | hm
        · exact Driver.arbiter_judgeHead _ sc now energizing _ m hm
        · exact ih _ m hm

end

/-! ### What they make of the acting blocks -/

/-- Nothing differs but the driver, the SAFE wait and the step: no phase, no stage, no grace, no telegram. -/
structure Actors.StepOnly (a b : Actors) : Prop where
  line : b.line = a.line
  seq : b.seq = { a.seq with safeWait := b.seq.safeWait }
  coord : b.coord = { a.coord with step := b.coord.step }
  wait : a.seq.safeWait = false → b.seq.safeWait = false
  step : a.coord.step = .none → b.coord.step = .none

theorem Actors.StepOnly.refl (a : Actors) : a.StepOnly a := ⟨rfl, rfl, rfl, id, id⟩

theorem Actors.StepOnly.trans {a b c : Actors} (h : a.StepOnly b) (k : b.StepOnly c) : a.StepOnly c :=
  ⟨k.line.trans h.line, by rw [k.seq, h.seq], by rw [k.coord, h.coord], k.wait ∘ h.wait, k.step ∘ h.step⟩

theorem Actors.stepOnly_withDrv (a : Actors) (d : Driver) : a.StepOnly (a.withDrv d) := ⟨rfl, rfl, rfl, id, id⟩

section
variable (a : Actors) (v : View)

theorem Actors.stepOnly_settleIfClosed (h : a.coord.step ≠ .none) : a.StepOnly (a.settleIfClosed v) := by
  unfold Actors.settleIfClosed
  split
  · exact ⟨rfl, rfl, rfl, id, fun hnone => absurd hnone h⟩
  · exact .refl a

theorem Actors.stepOnly_onClosed (p : Pdu) : a.StepOnly (a.onClosed v p) := by
  have hawait : ∀ (closeA closeB : Bool), a.coord.step ≠ .none →
      a.StepOnly ((a.inStep (.b closeA closeB)).progress v) := by
    intro closeA closeB hne
    have hin : a.StepOnly (a.inStep (.b closeA closeB)) := ⟨rfl, rfl, rfl, id, fun h => absurd h hne⟩
    refine hin.trans ?_
    unfold Actors.progress
    split
    · next h => cases h
    · exact Actors.stepOnly_settleIfClosed _ v nofun
    · exact .refl _
  unfold Actors.onClosed
  split
  · next h => exact hawait _ _ (by rw [h]; nofun)
  · next h => exact hawait _ _ (by rw [h]; nofun)
  · exact .refl a

theorem Actors.stepOnly_tripOutcome : a.StepOnly (a.tripOutcome v) := by
  unfold Actors.tripOutcome
  split
  · exact ⟨rfl, rfl, rfl, fun _ => rfl, id⟩
  · exact .refl a

theorem Actors.stepOnly_report {n : Notice} (h : n.ofArbiter = true) : a.StepOnly (a.report v n) := by
  cases n with
  | tripOutcome p => exact a.stepOnly_tripOutcome v
  | closeConfirmed p => exact a.stepOnly_onClosed v p
  | closeUnconfirmed p => exact .refl a
  | closeCut p => exact .refl a
  | closeWithdrawn p => exact .refl a
  | closeFailed | closeRefused | releaseConfirmed | releaseUnconfirmed | releaseFailed | failedFlag => cases h

theorem Actors.stepOnly_operate {f : Driver → Driven} (h : ∀ n ∈ (f a.drv).2, n.ofArbiter = true) :
    a.StepOnly (a.operate v f) := by
  have hall : ∀ (ns : List Notice) (b : Actors), (∀ n ∈ ns, n.ofArbiter = true) →
      b.StepOnly (ns.foldl (fun a n => a.report v n) b) := by
    intro ns
    induction ns with
    | nil => exact fun b _ => .refl b
    | cons n ns ih =>
      exact fun b hb => (b.stepOnly_report v (hb n List.mem_cons_self)).trans (ih _ fun m hm => hb m (List.mem_cons_of_mem n hm))
  exact (a.stepOnly_withDrv _).trans (hall _ _ h)

theorem Actors.stepOnly_serve : a.StepOnly (a.serve v) :=
  a.stepOnly_operate v (Driver.arbiter_serve _ _ _ _ _)

/-- Without a SAFE wait the arbiter's notices leave the driver to it. -/
theorem Actors.report_drv_of_wait {n : Notice} (hn : n.ofArbiter = true) (h : a.seq.safeWait = false) :
    (a.report v n).drv = a.drv := by
  have hprogress : ∀ (closeA closeB : Bool), ((a.inStep (.b closeA closeB)).progress v).drv = a.drv := by
    intro closeA closeB
    unfold Actors.progress
    split
    · next h => cases h
    · unfold Actors.settleIfClosed
      split <;> rfl
    · rfl
  cases n with
  | tripOutcome p => exact a.hear_drv_of_wait v _ h
  | closeConfirmed p =>
    show (a.onClosed v p).drv = a.drv
    unfold Actors.onClosed
    split
    · exact hprogress _ _
    · exact hprogress _ _
    · rfl
  | closeUnconfirmed p => rfl
  | closeCut p => rfl
  | closeWithdrawn p => rfl
  | closeFailed | closeRefused | releaseConfirmed | releaseUnconfirmed | releaseFailed | failedFlag => cases hn

theorem Actors.operate_drv_of_wait {f : Driver → Driven} (hn : ∀ n ∈ (f a.drv).2, n.ofArbiter = true)
    (h : a.seq.safeWait = false) : (a.operate v f).drv = (f a.drv).1 := by
  have hall : ∀ (ns : List Notice) (b : Actors), (∀ n ∈ ns, n.ofArbiter = true) → b.seq.safeWait = false →
      (ns.foldl (fun a n => a.report v n) b).drv = b.drv := by
    intro ns
    induction ns with
    | nil => exact fun b _ _ => rfl
    | cons n ns ih =>
      intro b hb hw
      have hn := hb n List.mem_cons_self
      exact (ih _ (fun m hm => hb m (List.mem_cons_of_mem n hm)) ((b.stepOnly_report v hn).wait hw)).trans
        (b.report_drv_of_wait v hn hw)
  exact hall _ _ hn h

theorem Actors.serve_drv_of_wait (h : a.seq.safeWait = false) :
    (a.serve v).drv = (Driver.serve v.scanner v.now a.energizing a.drv.pulseQueue.length a.drv).1 :=
  a.operate_drv_of_wait v (Driver.arbiter_serve _ _ _ _ _) h

end

/-- The arbiter at an event's end. -/
theorem State.stepOnly_endEvent (s old : State) : s.act.StepOnly (s.endEvent old).act := by
  unfold State.endEvent
  split
  · exact Actors.stepOnly_serve _ _
  · exact .refl _

/-! ### Operations whose notices nobody acts on -/

/-- A notice that sequencer, coordinator and Line Unit leave be: no step awaits it, and no SAFE wait stands for it. -/
def Actors.Ignores (a : Actors) (n : Notice) : Prop :=
  match n with
  | .failedFlag => False
  | .tripOutcome _ => a.seq.safeWait = false
  | .closeConfirmed _ | .closeFailed _ | .releaseConfirmed _ | .releaseFailed _ => a.coord.step = .none
  | .closeUnconfirmed _ | .closeRefused _ | .closeCut _ | .closeWithdrawn _ | .releaseUnconfirmed _ => True

theorem Actors.report_of_ignores {a : Actors} {n : Notice} (h : a.Ignores n) (v : View) : a.report v n = a := by
  cases n with
  | failedFlag => cases h
  | tripOutcome p =>
    have h : a.seq.safeWait = false := h
    exact if_neg (by simp [h])
  | closeConfirmed p => exact a.report_of_no_step v _ h
  | closeFailed p => exact a.report_of_no_step v _ h
  | releaseConfirmed id => exact a.report_of_no_step v _ h
  | releaseFailed id => exact a.report_of_no_step v _ h
  | closeUnconfirmed | closeRefused | closeCut | closeWithdrawn | releaseUnconfirmed => rfl

theorem Actors.operate_of_ignored {a : Actors} {v : View} {f : Driver → Driven} {d : Driver} {ns : List Notice}
    (hf : f a.drv = (d, ns)) (h : ∀ n ∈ ns, a.Ignores n) : a.operate v f = a.withDrv d := by
  have hall : ∀ ms : List Notice, (∀ n ∈ ms, a.Ignores n) →
      ms.foldl (fun a n => a.report v n) (a.withDrv d) = a.withDrv d := by
    intro ms
    induction ms with
    | nil => exact fun _ => rfl
    | cons n ms ih =>
      intro hms
      rw [List.foldl_cons, Actors.report_of_ignores (a := a.withDrv d) (hms n List.mem_cons_self)]
      exact ih fun m hm => hms m (List.mem_cons_of_mem n hm)
  unfold Actors.operate
  rw [hf]
  exact hall ns h

/-- An operation that reports nothing but, at most, its channel's failed flag turning on, and what nobody acts on. -/
theorem Actors.operate_of_flag {a : Actors} {v : View} {f : Driver → Driven} {d : Driver} {already : Bool} {ns : List Notice}
    (hf : f a.drv = (d, flagNotice already ++ ns)) (h : ∀ n ∈ ns, a.Ignores n) :
    a.operate v f = { a with drv := d, line := if already then a.line else a.line.urgent v.now } := by
  cases already with
  | true => exact Actors.operate_of_ignored hf h
  | false =>
    have hrest : ∀ ms : List Notice, (∀ n ∈ ms, a.Ignores n) →
        ms.foldl (fun a n => a.report v n) ((a.withDrv d).urgent v) = (a.withDrv d).urgent v := by
      intro ms
      induction ms with
      | nil => exact fun _ => rfl
      | cons n ms ih =>
        intro hms
        rw [List.foldl_cons, Actors.report_of_ignores (a := (a.withDrv d).urgent v) (hms n List.mem_cons_self)]
        exact ih fun m hm => hms m (List.mem_cons_of_mem n hm)
    unfold Actors.operate
    rw [hf]
    exact hrest ns h

end Sys2Proof.Machine
end

section
/-! PROOFS. The stand-down of ALERT (R115), the test, pull-in and window expiries (R121 to R125), and the stop of a step
(R173). -/

namespace Sys2Proof.Machine

/-! ### Conditional events -/

theorem ranFor_some (now st : Stamp) (limit : Nat) : ranFor now (some st) limit = decide (limit ≤ elapsed now st) := rfl

theorem State.eventWhen_calm (s : State) {occurs : Bool} (hoccurs : occurs = true) (f : State → State) {t : State}
    (h : f s = t) (hqueue : t.act.drv.pulseQueue = s.act.drv.pulseQueue) (hgap : t.act.drv.gap = s.act.drv.gap) :
    s.eventWhen occurs f = t := by
  rw [hoccurs, State.eventWhen_true, s.event_of_calm f (by rw [h, hqueue]) (by rw [h, hgap]), h]

/-! ### STAND_DOWN_EXPIRY (R115) -/

theorem Driver.releaseLevel_of_order {d : Driver} {id : LevelId} (h : d.assertedAbove (levelStage id) = false) :
    d.releaseLevel id = (d.setLevel id ⟨.normal, none, (d.level id).failed⟩, true) := by
  unfold Driver.releaseLevel
  rw [if_neg (by rw [h]; decide)]

/-- The release order above ALERT looks at none of its two channels (R126, R127). -/
theorem Driver.assertedAbove_alert_setLevel (d : Driver) (c : LevelChannel) :
    (d.setLevel .advise c).assertedAbove .alert = d.assertedAbove .alert := rfl

/-- ADVISE and LIFT released together (R127). -/
theorem Driver.release_alert {d : Driver} (h : d.assertedAbove .alert = false) :
    d.releaseLevel .advise = ({ d with advise := ⟨.normal, none, d.advise.failed⟩ }, true)
      ∧ ({ d with advise := ⟨.normal, none, d.advise.failed⟩ } : Driver).releaseLevel .lift
        = ({ d with advise := ⟨.normal, none, d.advise.failed⟩, lift := ⟨.normal, none, d.lift.failed⟩ }, true) :=
  ⟨Driver.releaseLevel_of_order (id := .advise) h, Driver.releaseLevel_of_order (id := .lift) h⟩

theorem Actors.standDown_eq {a : Actors} (v : View) (h : a.drv.assertedAbove .alert = false) :
    a.standDown v = { a with
      line := (a.setStage v .watch).line.urgent v.now
      seq := { a.seq with
        stage := .watch, standDown := none, floor := if a.seq.floor = .alert then .watch else a.seq.floor }
      drv := { a.drv with
        advise := ⟨.normal, none, a.drv.advise.failed⟩, lift := ⟨.normal, none, a.drv.lift.failed⟩ } } := by
  obtain ⟨hadvise, hlift⟩ := Driver.release_alert h
  have hstand : (a.withSeq { a.seq with stage := .watch }).wantsStandDown v = false := by
    simp [Actors.wantsStandDown]
  have hset : (a.setStage v .watch).seq = { a.seq with stage := .watch, standDown := none } := by
    unfold Actors.setStage Actors.judge
    rw [hstand]
    rfl
  have hdrv : (a.setStage v .watch).drv = a.drv := rfl
  unfold Actors.standDown
  simp only [Actors.withDrv_seq, hdrv, hadvise, hlift, hset]
  rfl

/-- Settles O35: the stage falls to WATCH with its two channels released, and nothing happens ahead of the time. -/
theorem standDownReturnsAlertToWatch : Obligations.StandDownReturnsAlertToWatch := by
  refine ⟨fun s st sound hst hran hstage horder => ?_, fun s hearly => ?_⟩
  · have hdue : ranFor s.clock s.act.seq.standDown standDownTime = true := by
      rw [hst, ranFor_some]
      exact decide_eq_true hran
    have hdown := Actors.standDown_eq (a := s.act) s.view horder
    refine ⟨_, congrArg Host.Outcome.next (s.eventWhen_calm hdue _ (congrArg s.withAct hdown) rfl rfl), rfl, ?_⟩
    have hset : (s.act.setStage s.view .watch).line.Sound :=
      ((LineUnit.Served.refl s.act.line).cadence _).sound sound
    exact LineUnit.urgentDue_urgent _ _ hset.nonempty
  · refine congrArg Host.Outcome.next (State.eventWhen_of_not _ _ ?_)
    cases hst : s.act.seq.standDown with
    | none => rfl
    | some st => exact decide_eq_false (Nat.not_le.mpr (hearly st hst))

/-! ### The stop of a step of energizing (R173) -/

theorem Actors.stop_of_energizing {a : Actors} {v : View} (h : a.coord.phase = .energizing) :
    (a.stop v).coord = { a.coord with
        phase := .awaitPermit, permit := false, keyWithheld := a.coord.keyWithheld || v.scanner.active 7
        quietStart := none, stagger := none, claimOutstanding := false, claimPending := false, bidWindow := none
        contest := none, step := .none, holdPending := false }
      ∧ (a.stop v).seq = { a.seq with standDown := (a.stop v).seq.standDown }
      ∧ (a.stop v).drv = (a.drv.leaveEnergizing v.now).1 := by
  have hstop : a.stop v = (a.leaveTaken v).setPhase v .awaitPermit :=
    (a.leaveTaken v).enterAwaitPermit_of_no_leave v rfl (a.leaveTaken_key v)
  have hphase : (a.leaveTaken v).coord.phase = .energizing := h
  rw [hstop]
  refine ⟨?_, (a.leaveTaken v).setPhase_seq v .awaitPermit, ?_⟩
  · rw [Actors.setPhase_coord, Coordinator.moved_of_turn (by rw [hphase]; rfl) rfl, if_pos hphase, if_pos hphase]
    rfl
  · rw [Actors.setPhase_drv_eq, if_pos ⟨hphase, by decide⟩]
    rfl

/-- ENERGIZING left: both closes taken back, as far as they are queued or energized (R135). -/
theorem Driver.leaveEnergizing_fst (d : Driver) (now : Stamp) :
    (d.leaveEnergizing now).1 = (d.stopClose now .a).stopClose now .b := by
  have one : ∀ (p : Pdu) (e : Driver),
      (match (e.pulse (.close p)).state with
        | .queued | .firing => (e.stopClose now p, [Notice.closeWithdrawn p])
        | .ready | .checking | .spent | .failed => (e, [])).1 = e.stopClose now p := by
    intro p e
    cases h : (e.pulse (.close p)).state <;> simp only [Driver.stopClose, h]
  exact (one .b _).trans (congrArg (fun e : Driver => e.stopClose now .b) (one .a d))

theorem Driver.sameBut_leaveEnergizing (d : Driver) (now : Stamp) : d.SameBut (d.leaveEnergizing now).1 := by
  rw [Driver.leaveEnergizing_fst]
  exact (d.sameBut_stopClose now .a).trans (Driver.sameBut_stopClose _ now .b)

/-- Without a SAFE wait the arbiter at an event's end touches no LEVEL or HOLD channel. -/
theorem State.sameBut_endEvent (s old : State) (h : s.act.seq.safeWait = false) :
    s.act.drv.SameBut (s.endEvent old).act.drv := by
  unfold State.endEvent
  split
  · show s.act.drv.SameBut (s.act.serve s.view).drv
    rw [Actors.serve_drv_of_wait _ _ h]
    exact Driver.sameBut_serve ..
  · exact .refl _

/-- An operation with, at most, a failed flag turning on, and then one notice. -/
theorem Actors.operate_of_flag_then {a : Actors} {v : View} {f : Driver → Driven} {d : Driver} {already : Bool}
    {n : Notice} (hf : f a.drv = (d, flagNotice already ++ [n])) :
    a.operate v f = ({ a with drv := d, line := if already then a.line else a.line.urgent v.now } : Actors).report v n := by
  unfold Actors.operate
  rw [hf]
  cases already <;> rfl

/-! ### TEST_TIMER_EXPIRY, PULL_IN_EXPIRY and HOLD_WINDOW_EXPIRY -/

theorem holdWindow_eq (ch : HoldId) : holdWindow ch = if ch = .valve then 60000 else 10000 := by
  cases ch <;> rfl

theorem Driver.failHold_of_on {d : Driver} {id : HoldId} (h : (d.hold id).state = .pullIn ∨ (d.hold id).state = .holding) :
    d.failHold id = (d.setHold id ⟨.failed true, none, none, (d.hold id).unconfirmed, true⟩,
      flagNotice (d.hold id).failed ++ []) := by
  unfold Driver.failHold
  rw [List.append_nil]
  rcases h with h | h <;> simp only [h]

theorem Driver.failHold_of_releasing {d : Driver} {id : HoldId} (h : (d.hold id).state = .releasing) :
    d.failHold id = (d.setHold id { d.hold id with state := .failed false, window := none, failed := true },
      flagNotice (d.hold id).failed ++ [.releaseFailed id]) := by
  unfold Driver.failHold
  simp only [h]

/-- The Line Unit once a failed flag has turned on, or was on before (R67). -/
theorem LineUnit.Sound.flagged {l : LineUnit} (h : l.Sound) (now : Stamp) (already : Bool) :
    (already = false → (if already then l else l.urgent now).urgentDue = true)
      ∧ (already = true → (if already then l else l.urgent now) = l) := by
  cases already with
  | true => exact ⟨nofun, fun _ => rfl⟩
  | false => exact ⟨fun _ => LineUnit.urgentDue_urgent l now h.nonempty, nofun⟩

theorem Actors.onReleaseFailed_awaited {a : Actors} {v : View} {ch : HoldId} {valve coolstop : Bool}
    (hstep : a.coord.step = .a valve coolstop) (h : if ch = .valve then valve = true else coolstop = true) :
    a.onReleaseFailed v ch = a.stop v := by
  unfold Actors.onReleaseFailed
  cases ch with
  | valve =>
    have h : valve = true := h
    rw [hstep, h]
  | coolstop =>
    have h : coolstop = true := h
    rw [hstep, h]
    cases valve <;> rfl

/-- Settles O36: each expiry at its time, the stop of step A, and nothing ahead of the times. -/
theorem levelAndHoldTimersExpire : Obligations.LevelAndHoldTimersExpire := by
  refine ⟨fun s ch st hstate hst hran => ?_, fun s ch st hstate hst hran => ?_, fun s ch st sound hstate hst hran => ?_,
    fun s ch st sound hstate hst hran hstep => ?_,
    fun s ch st valve coolstop hstate hst hran hwait hphase hstep hawaited => ?_, fun s ch hnot => ?_, fun s ch hnot => ?_,
    fun s ch hnot => ?_⟩
  · have hdue : ((s.act.drv.level ch).state = .testing && ranFor s.clock (s.act.drv.level ch).testTimer testTime) = true := by
      rw [hst, ranFor_some]
      simp [hstate, testTime, hran]
    refine ⟨_, congrArg Host.Outcome.next (s.eventWhen_calm hdue (fun s => s.acting fun _ a => a.withDrv (a.drv.endTest ch)) rfl
      ((s.act.drv.pulseQueue_setLevel ..)) (s.act.drv.gap_setLevel ..)), rfl, ?_⟩
    show ((s.act.drv.setLevel ch _).level ch).energized = false
    rw [Driver.level_setLevel_self]
    rfl
  · have hdue : ((s.act.drv.hold ch).state = .pullIn && ranFor s.clock (s.act.drv.hold ch).pullInTimer pullInTime) = true := by
      rw [hst, ranFor_some]
      simp [hstate, pullInTime, hran]
    refine ⟨_, congrArg Host.Outcome.next (s.eventWhen_calm hdue (fun s => s.acting fun _ a => a.withDrv (a.drv.endPullIn ch))
      rfl (s.act.drv.pulseQueue_setHold ..) (s.act.drv.gap_setHold ..)), rfl, ?_⟩
    show ((s.act.drv.setHold ch _).hold ch).energized = true
    rw [Driver.hold_setHold_self]
    rfl
  · have hdue : ranFor s.clock (s.act.drv.hold ch).window (holdWindow ch) = true := by
      rw [hst, ranFor_some, holdWindow_eq]
      exact decide_eq_true hran
    have hfail : s.act.operate s.view (fun d => d.failHold ch) = _ :=
      Actors.operate_of_flag (Driver.failHold_of_on hstate) nofun
    refine ⟨_, congrArg Host.Outcome.next (s.eventWhen_calm hdue _ (congrArg s.withAct hfail) (s.act.drv.pulseQueue_setHold ..)
      (s.act.drv.gap_setHold ..)), rfl, ?_, LineUnit.Sound.flagged sound s.clock _⟩
    show ((s.act.drv.setHold ch _).hold ch).energized = true
    rw [Driver.hold_setHold_self]
    rfl
  · have hdue : ranFor s.clock (s.act.drv.hold ch).window (holdWindow ch) = true := by
      rw [hst, ranFor_some, holdWindow_eq]
      exact decide_eq_true hran
    have hfail : s.act.operate s.view (fun d => d.failHold ch) = _ :=
      Actors.operate_of_flag (Driver.failHold_of_releasing hstate) fun n hn => by
        rw [List.mem_singleton.mp hn]
        exact hstep
    refine ⟨_, congrArg Host.Outcome.next (s.eventWhen_calm hdue _ (congrArg s.withAct hfail) (s.act.drv.pulseQueue_setHold ..)
      (s.act.drv.gap_setHold ..)), rfl, ?_, LineUnit.Sound.flagged sound s.clock _⟩
    show ((s.act.drv.setHold ch _).hold ch).energized = false
    rw [Driver.hold_setHold_self]
    rfl
  · have hdue : ranFor s.clock (s.act.drv.hold ch).window (holdWindow ch) = true := by
      rw [hst, ranFor_some, holdWindow_eq]
      exact decide_eq_true hran
    set b : Actors := { s.act with
      drv := s.act.drv.setHold ch { s.act.drv.hold ch with state := .failed false, window := none, failed := true }
      line := if (s.act.drv.hold ch).failed then s.act.line else s.act.line.urgent s.clock } with hb
    have hreport : s.act.operate s.view (fun d => d.failHold ch) = b.report s.view (.releaseFailed ch) :=
      Actors.operate_of_flag_then (Driver.failHold_of_releasing hstate)
    have hstop : s.act.operate s.view (fun d => d.failHold ch) = b.stop s.view :=
      hreport.trans (Actors.onReleaseFailed_awaited (a := b) hstep hawaited)
    obtain ⟨hcoord, hseq, hdrv⟩ := Actors.stop_of_energizing (a := b) (v := s.view) hphase
    set w := s.withAct (b.stop s.view) with hw
    have hafter := w.stepOnly_endEvent s
    have hsame := w.sameBut_endEvent s (by
      show (b.stop s.view).seq.safeWait = false
      rw [hseq]
      exact hwait)
    have hhold : ((w.endEvent s).act.drv.hold ch) =
        { s.act.drv.hold ch with state := .failed false, window := none, failed := true } := by
      rw [hsame.2 ch]
      show (b.stop s.view).drv.hold ch = _
      rw [hdrv, (Driver.sameBut_leaveEnergizing ..).2 ch]
      exact s.act.drv.hold_setHold_self ..
    have hwcoord : w.act.coord = _ := hcoord
    have hstepNone : (w.endEvent s).act.coord.step = .none := hafter.step (by rw [hwcoord])
    refine ⟨w.endEvent s, congrArg Host.Outcome.next ?_, State.endEvent_eq _ _, ?_⟩
    · rw [hdue, State.eventWhen_true]
      exact congrArg (fun t : State => t.endEvent s) (congrArg s.withAct hstop)
    · rw [hhold, hafter.coord, hafter.seq, hstepNone, hwcoord]
      refine ⟨rfl, rfl, rfl, rfl, rfl, rfl, rfl, ?_⟩
      show (b.stop s.view).seq.stage = _
      rw [hseq]
  · refine congrArg Host.Outcome.next (State.eventWhen_of_not _ _ ?_)
    rcases hnot with h | h
    · simp [h]
    · simp [ranFor_of_all (limit := testTime) h]
  · refine congrArg Host.Outcome.next (State.eventWhen_of_not _ _ ?_)
    rcases hnot with h | h
    · simp [h]
    · simp [ranFor_of_all (limit := pullInTime) h]
  · refine congrArg Host.Outcome.next (State.eventWhen_of_not _ _ (ranFor_of_all (limit := holdWindow ch) ?_))
    rw [holdWindow_eq]
    exact hnot

end Sys2Proof.Machine
end

section
/-! PROOFS. The arbiter's expiries and the breakers they move (R129 to R134), and the end of the grace (R104). -/

namespace Sys2Proof.Machine

/-! ### When the arbiter is held, and what it does with a head -/

theorem elapsed_self (now : Stamp) : elapsed now now = 0 := by simp [elapsed]

theorem Driver.not_gapServed_now (d : Driver) (now : Stamp) (h : d.gap = some now) : d.gapServed now = false := by
  unfold Driver.gapServed
  rw [h]
  simp [elapsed_self, pulseGap]

theorem Actors.serve_of_held {a : Actors} {v : View} (h : (a.drv.anyFiring || !a.drv.gapServed v.now) = true) :
    a.serve v = a := by
  have hheld : Driver.serve v.scanner v.now a.energizing a.drv.pulseQueue.length a.drv = (a.drv, []) :=
    Driver.serve_of_held _ _ _ _ _ h
  unfold Actors.serve
  rw [Actors.operate_of_quiet _ _ _ (by rw [hheld]), hheld]
  rfl

/-- An event that ends with the arbiter held ends without it. -/
theorem State.endEvent_of_held {s : State} (h : (s.act.drv.anyFiring || !s.act.drv.gapServed s.clock) = true) (old : State) :
    s.endEvent old = s := by
  unfold State.endEvent
  split
  · exact congrArg s.withAct (Actors.serve_of_held (v := s.view) h)
  · rfl

theorem State.endEvent_of_stirred {s old : State} (h : arbiterStirred old.act.drv s.act.drv = true) :
    s.endEvent old = s.withAct (s.act.serve s.view) := if_pos h

theorem Driver.anyFiring_of_none {d : Driver} (h : ∀ id ∈ pulseIds, (d.pulse id).state ≠ .firing) : d.anyFiring = false :=
  d.anyFiring_eq_false_iff.mpr fun id => decide_eq_false (h id (mem_pulseIds id))

theorem Driver.anyFiring_fire (d : Driver) (now : Stamp) (id : PulseId) : (d.fire now id).anyFiring = true := by
  rw [← Bool.not_eq_false, Driver.anyFiring_eq_false_iff]
  intro h
  have hfiring := h id
  unfold Driver.firing Driver.fire at hfiring
  rw [Driver.pulse_setPulse_self] at hfiring
  cases hfiring

theorem Driver.serve_free {sc : Scanner} {now : Stamp} {energizing : Bool} {n : Nat} {d : Driver} {id : PulseId}
    {rest : List PulseId} (hfree : d.anyFiring = false) (hgap : d.gapServed now = true) (hq : d.pulseQueue = id :: rest) :
    Driver.serve sc now energizing (n + 1) d =
      Driven.next (({ d with pulseQueue := rest } : Driver).judgeHead sc now energizing id) (Driver.serve sc now energizing n) := by
  rw [Driver.serve, hfree, hgap, hq]
  rfl

/-- A head whose awaited condition does not hold fires; a close does so in ENERGIZING alone (R131). -/
theorem Driver.judgeHead_fires {d : Driver} {sc : Scanner} {now : Stamp} {energizing : Bool} {id : PulseId}
    (hawait : awaitedHolds sc id = false) (hclose : ∀ p, id = .close p → energizing = true) :
    d.judgeHead sc now energizing id = (d.fire now id, []) := by
  cases id with
  | trip p =>
    have hclosed : pduOpen sc p = false := hawait
    simp [Driver.judgeHead, hclosed]
  | close p =>
    have hopen : pduOpen sc p = true := by simpa [awaitedHolds] using hawait
    simp [Driver.judgeHead, hopen, hclose p rfl]

/-- The arbiter, free to serve, fires its head and stops there. -/
theorem Driver.serve_fires {d : Driver} {sc : Scanner} {now : Stamp} {energizing : Bool} {id : PulseId}
    {rest : List PulseId} (hfree : d.anyFiring = false) (hgap : d.gapServed now = true) (hq : d.pulseQueue = id :: rest)
    (hawait : awaitedHolds sc id = false) (hclose : ∀ p, id = .close p → energizing = true) :
    Driver.serve sc now energizing d.pulseQueue.length d = (({ d with pulseQueue := rest } : Driver).fire now id, []) := by
  have hlen : d.pulseQueue.length = rest.length + 1 := by rw [hq, List.length_cons]
  rw [hlen, Driver.serve_free hfree hgap hq, Driver.judgeHead_fires hawait hclose]
  have hheld := Driver.serve_of_held sc now energizing rest.length (({ d with pulseQueue := rest } : Driver).fire now id)
    (by rw [Driver.anyFiring_fire]; rfl)
  unfold Driven.next
  rw [hheld]
  rfl

/-- The arbiter with one entry that does not fire. -/
theorem Driver.serve_settles {d e : Driver} {sc : Scanner} {now : Stamp} {energizing : Bool} {id : PulseId}
    {ns : List Notice} (hfree : d.anyFiring = false) (hgap : d.gapServed now = true) (hq : d.pulseQueue = [id])
    (hjudge : ({ d with pulseQueue := [] } : Driver).judgeHead sc now energizing id = (e, ns)) :
    Driver.serve sc now energizing d.pulseQueue.length d = (e, ns) := by
  have hlen : d.pulseQueue.length = 0 + 1 := by rw [hq]; rfl
  rw [hlen, Driver.serve_free hfree hgap hq, hjudge]
  simp [Driven.next, Driver.serve]

theorem Actors.serve_fires {a : Actors} {v : View} {id : PulseId} {rest : List PulseId} (hfree : a.drv.anyFiring = false)
    (hgap : a.drv.gapServed v.now = true) (hq : a.drv.pulseQueue = id :: rest)
    (hawait : awaitedHolds v.scanner id = false) (hclose : ∀ p, id = .close p → a.coord.phase = .energizing) :
    a.serve v = a.withDrv (({ a.drv with pulseQueue := rest } : Driver).fire v.now id) := by
  have hserve := Driver.serve_fires (energizing := a.energizing) hfree hgap hq hawait
    fun p hp => decide_eq_true (hclose p hp)
  unfold Actors.serve
  rw [Actors.operate_of_quiet _ _ _ (by rw [hserve]), hserve]

/-! ### PULSE_GAP_EXPIRY (R131) -/

theorem Driver.gapDue_of {d : Driver} {now st : Stamp} (hgap : d.gap = some st) (hran : 250 ≤ elapsed now st) :
    d.gapDue now = true := by
  unfold Driver.gapDue
  rw [hgap]
  exact decide_eq_true hran

/-- The gap served: the arbiter tries to serve. -/
theorem State.exec_pulseGap {s : State} {st : Stamp} (hgap : s.act.drv.gap = some st) (hran : 250 ≤ elapsed s.clock st) :
    exec .pulseGapExpiry s = .next { s with act := ({ s.act with
      drv := { s.act.drv with gap := none } } : Actors).serve s.view } := by
  have hstirred : arbiterStirred s.act.drv { s.act.drv with gap := none } = true := by
    simp [arbiterStirred, hgap]
  refine congrArg Host.Outcome.next ?_
  rw [Driver.gapDue_of hgap hran, State.eventWhen_true]
  exact State.endEvent_of_stirred hstirred

/-- Settles O37: the gap served with nothing to do, a head that fires, one settled, and nothing ahead of the time. -/
theorem pulseGapExpiryServesTheHead : Obligations.PulseGapExpiryServesTheHead := by
  refine ⟨fun s st hgap hran hidle => ?_, fun s st id rest hgap hran hfree hq hawait hclose => ?_,
    fun s st p hgap hran hfree hq hopen hwait => ?_, fun s st p hgap hran hfree hq hphase => ?_, fun s hnot => ?_⟩
  · rw [State.exec_pulseGap hgap hran]
    rcases hidle with hempty | hfiring
    · rw [Actors.serve_of_empty (a := { s.act with drv := { s.act.drv with gap := none } }) _ hempty]
    · rw [Actors.serve_of_held (a := { s.act with drv := { s.act.drv with gap := none } })
        (Bool.or_eq_true_iff.mpr (.inl hfiring))]
  · rw [State.exec_pulseGap hgap hran, Actors.serve_fires (a := { s.act with drv := { s.act.drv with gap := none } })
      (Driver.anyFiring_of_none hfree) rfl hq hawait hclose]
    rcases id with ⟨_ | _⟩ | ⟨_ | _⟩ <;> rfl
  · rw [State.exec_pulseGap hgap hran]
    have hserve := Driver.serve_settles (d := { s.act.drv with gap := none }) (sc := s.scanner) (now := s.clock)
      (energizing := s.act.energizing) (Driver.anyFiring_of_none hfree) rfl hq (if_pos hopen)
    have hact := Actors.operate_of_ignored (a := { s.act with drv := { s.act.drv with gap := none } }) (v := s.view)
      (f := fun d => Driver.serve s.scanner s.clock s.act.energizing d.pulseQueue.length d) hserve
      (fun n hn => by rw [List.mem_singleton.mp hn]; exact hwait)
    refine congrArg (fun a => Host.Outcome.next (s.withAct a)) (hact.trans ?_)
    cases p <;> rfl
  · rw [State.exec_pulseGap hgap hran]
    have hstays : (!s.act.energizing) = true := by simp [Actors.energizing, hphase]
    have hserve := Driver.serve_settles (d := { s.act.drv with gap := none }) (sc := s.scanner) (now := s.clock)
      (energizing := s.act.energizing) (Driver.anyFiring_of_none hfree) rfl hq (if_pos hstays)
    have hact := Actors.operate_of_ignored (a := { s.act with drv := { s.act.drv with gap := none } }) (v := s.view)
      (f := fun d => Driver.serve s.scanner s.clock s.act.energizing d.pulseQueue.length d) hserve
      (fun n hn => by rw [List.mem_singleton.mp hn]; trivial)
    refine congrArg (fun a => Host.Outcome.next (s.withAct a)) (hact.trans ?_)
    cases p <;> rfl
  · exact congrArg Host.Outcome.next (State.eventWhen_of_not _ _ (ranFor_of_all (limit := pulseGap) hnot))

end Sys2Proof.Machine
end

section
/-! PROOFS. A pulse's end and the check of its breaker (R133), and the SAFE wait it may end (R107). -/

namespace Sys2Proof.Machine

/-! ### The requests of the SAFE stage -/

theorem Driver.asserted_assertHold (d : Driver) (sc : Scanner) (now : Stamp) (id : HoldId) :
    ((d.assertHold sc now id).hold id).asserted = true := by
  unfold Driver.assertHold
  dsimp only
  split
  · next h => exact h
  · rw [Driver.hold_setHold_self]
    rfl

theorem Driver.hold_assertHold_of_ne (d : Driver) (sc : Scanner) (now : Stamp) {id other : HoldId} (h : other ≠ id) :
    (d.assertHold sc now id).hold other = d.hold other := by
  unfold Driver.assertHold
  dsimp only
  split
  · rfl
  · exact (d.hold_setHold ..).trans (if_neg h)

theorem Driver.pulse_assertHold (d : Driver) (sc : Scanner) (now : Stamp) (id : HoldId) (other : PulseId) :
    (d.assertHold sc now id).pulse other = d.pulse other := by
  unfold Driver.assertHold
  dsimp only
  split
  · rfl
  · exact d.pulse_setHold ..

theorem Driver.gap_assertHold (d : Driver) (sc : Scanner) (now : Stamp) (id : HoldId) :
    (d.assertHold sc now id).gap = d.gap := by
  unfold Driver.assertHold
  dsimp only
  split
  · rfl
  · exact d.gap_setHold ..

theorem Driver.assertSafe_asserts (d : Driver) (v : View) :
    (d.assertSafe v).valve.asserted = true ∧ (d.assertSafe v).coolstop.asserted = true := by
  refine ⟨?_, Driver.asserted_assertHold _ _ _ .coolstop⟩
  have hkept := Driver.hold_assertHold_of_ne (d.assertHold v.scanner v.now .valve) v.scanner v.now
    (id := .coolstop) (other := .valve) (by decide)
  exact (congrArg HoldChannel.asserted hkept).trans (d.asserted_assertHold v.scanner v.now .valve)

theorem Driver.pulse_assertSafe (d : Driver) (v : View) (id : PulseId) : (d.assertSafe v).pulse id = d.pulse id :=
  (Driver.pulse_assertHold ..).trans (Driver.pulse_assertHold ..)

theorem Driver.gap_assertSafe (d : Driver) (v : View) : (d.assertSafe v).gap = d.gap :=
  (Driver.gap_assertHold ..).trans (Driver.gap_assertHold ..)

theorem Driver.tripsEnded_iff (d : Driver) :
    d.tripsEnded = true ↔ ∀ p, (d.pulse (.trip p)).state = .spent ∨ (d.pulse (.trip p)).state = .failed := by
  have hone (c : PulseChannel) : Driver.tripsEnded.tripEnded c = true ↔ c.state = .spent ∨ c.state = .failed := by
    unfold Driver.tripsEnded.tripEnded
    split <;> simp [*]
  unfold Driver.tripsEnded
  rw [Bool.and_eq_true, hone, hone]
  exact ⟨fun h p => by cases p with | a => exact h.1 | b => exact h.2, fun h => ⟨h .a, h .b⟩⟩

theorem Actors.tripOutcome_of_wait {a : Actors} (v : View) (hwait : a.seq.safeWait = true) (hended : a.drv.tripsEnded = true) :
    a.tripOutcome v = { a with drv := a.drv.assertSafe v, seq := { a.seq with safeWait := false } } :=
  if_pos (by rw [hwait, hended]; rfl)

/-! ### Step B as a close is confirmed (R169) -/

theorem Actors.onClosed_awaited {a : Actors} {v : View} {p : Pdu} {closeA closeB : Bool} (hstep : a.coord.step = .b closeA closeB)
    (h : if p = .a then closeA = true else closeB = true) :
    a.onClosed v p = a.inStep (if (if p = .a then closeB else closeA) then .b (p = .b) (p = .a)
      else .settle (later v.now powerSettle)) := by
  unfold Actors.onClosed
  cases p with
  | a =>
    have h : closeA = true := h
    rw [hstep, h]
    cases closeB <;> rfl
  | b =>
    have h : closeB = true := h
    rw [hstep, h]
    cases closeA <;> rfl

/-! ### PULSE_TIMER_EXPIRY (R133) -/

/-- A pulse's end begins the gap, so the arbiter is held as the event ends. -/
theorem State.exec_pulseTimer {s : State} {id : PulseId} {st : Stamp} (hstate : (s.act.drv.pulse id).state = .firing)
    (hst : (s.act.drv.pulse id).pulseTimer = some st) (hran : 200 ≤ elapsed s.clock st) {b : Actors}
    (hb : s.act.operate s.view (fun d => d.endPulse s.scanner s.clock s.act.energizing id) = b)
    (hgap : b.drv.gap = some s.clock) : exec (.pulseTimerExpiry id) s = .next { s with act := b } := by
  have hdue : ((s.act.drv.pulse id).state = .firing && ranFor s.clock (s.act.drv.pulse id).pulseTimer pulseTime) = true := by
    rw [hst, ranFor_some]
    simp [hstate, pulseTime, hran]
  have hheld : (b.drv.anyFiring || !b.drv.gapServed s.clock) = true := by
    rw [Driver.not_gapServed_now _ _ hgap]
    exact Bool.or_true _
  refine congrArg Host.Outcome.next ?_
  rw [hdue, State.eventWhen_true]
  exact (congrArg (fun a => (s.withAct a).endEvent s) hb).trans (State.endEvent_of_held (s := s.withAct b) hheld s)

/-- The channel of an ended pulse, the gap running from now. -/
theorem Driver.endPulse_of_fault {d : Driver} {sc : Scanner} {now : Stamp} {energizing : Bool} {p : Pdu} (h : sc.fault = true) :
    d.endPulse sc now energizing (.trip p) = (({ d with gap := some now } : Driver).setPulse (.trip p)
      (({ d with gap := some now } : Driver).pulse (.trip p) |>.toSpent true), [.tripOutcome p]) := if_pos h

theorem Driver.endPulse_of_open {d : Driver} {sc : Scanner} {now : Stamp} {energizing : Bool} {p : Pdu} (h : sc.fault = false)
    (hopen : pduOpen sc p = true) :
    d.endPulse sc now energizing (.trip p) = (({ d with gap := some now } : Driver).setPulse (.trip p)
      (({ d with gap := some now } : Driver).pulse (.trip p) |>.toSpent false), [.tripOutcome p]) :=
  (if_neg (by simp [h])).trans (if_pos hopen)

theorem Driver.endPulse_of_unmet {d : Driver} {sc : Scanner} {now : Stamp} {energizing : Bool} {id : PulseId}
    (h : sc.fault = false) (hunmet : awaitedHolds sc id = false) :
    d.endPulse sc now energizing id = (({ d with gap := some now } : Driver).setPulse id
      { ({ d with gap := some now } : Driver).pulse id with state := .checking, pulseTimer := none, window := some now }, []) :=
  (if_neg (by simp [h])).trans (if_neg (by simp [hunmet]))

theorem Driver.endPulse_of_closed {d : Driver} {sc : Scanner} {now : Stamp} {p : Pdu} (h : sc.fault = false)
    (hclosed : pduOpen sc p = false) :
    d.endPulse sc now true (.close p) = ((({ d with gap := some now } : Driver).setPulse (.close p)
      (({ d with gap := some now } : Driver).pulse (.close p) |>.toSpent false)).rearm p, [.closeConfirmed p]) :=
  (if_neg (by simp [h])).trans (if_pos (by simp [awaitedHolds, hclosed]))

theorem Driver.rearm_of_ended {d : Driver} {p : Pdu}
    (h : (d.pulse (.trip p)).state = .spent ∨ (d.pulse (.trip p)).state = .failed) :
    d.rearm p = d.setPulse (.trip p) ⟨.ready, none, none, none, false, (d.pulse (.trip p)).failed⟩ := by
  unfold Driver.rearm
  rcases h with h | h <;> simp only [h] <;> rfl

theorem Actors.operate_of_one {a : Actors} {v : View} {f : Driver → Driven} {d : Driver} {n : Notice} (hf : f a.drv = (d, [n])) :
    a.operate v f = (a.withDrv d).report v n := by
  unfold Actors.operate
  rw [hf]
  rfl

theorem Driver.setPulse_withGap (d : Driver) (id : PulseId) (c : PulseChannel) (g : Option Stamp) :
    ({ d with gap := g } : Driver).setPulse id c = { d.setPulse id c with gap := g } := by
  rcases id with (_ | _) | (_ | _) <;> rfl

/-- A trip's outcome at its pulse's end, in a scan fault or with the PDU reading open. -/
theorem Driver.endPulse_of_ended {d : Driver} {sc : Scanner} {now : Stamp} {energizing : Bool} {p : Pdu}
    (h : sc.fault = true ∨ pduOpen sc p = true) :
    d.endPulse sc now energizing (.trip p) = (({ d with gap := some now } : Driver).setPulse (.trip p)
      (({ d with gap := some now } : Driver).pulse (.trip p) |>.toSpent sc.fault), [.tripOutcome p]) := by
  cases hfault : sc.fault with
  | true => exact Driver.endPulse_of_fault hfault
  | false =>
    exact Driver.endPulse_of_open hfault (h.resolve_left (by simp [hfault]))

theorem Actors.operate_tripOutcome {a : Actors} {v : View} {f : Driver → Driven} {d : Driver} {p : Pdu}
    (hf : f a.drv = (d, [.tripOutcome p])) (hwait : a.seq.safeWait = false) : a.operate v f = a.withDrv d :=
  Actors.operate_of_ignored hf fun n hn => by rw [List.mem_singleton.mp hn]; exact hwait

/-- Settles O38: checking, the trip's outcomes, the awaited close, the end of the SAFE wait, and nothing ahead of the time. -/
theorem pulseTimerExpiryChecksTheBreaker : Obligations.PulseTimerExpiryChecksTheBreaker := by
  refine ⟨fun s id st hstate hst hran hfault hunmet => ?_, fun s p st hstate hst hran hfault hopen hwait => ?_,
    fun s p st hstate hst hran hfault hwait => ?_,
    fun s p st closeA closeB hstate hst hran hfault hclosed hphase hstep hawaited hended => ?_,
    fun s p st hstate hst hran hend hwait hother => ?_, fun s id hnot => ?_⟩
  · refine State.exec_pulseTimer hstate hst hran ((Actors.operate_of_ignored (Driver.endPulse_of_unmet hfault hunmet)
      fun n hn => absurd hn List.not_mem_nil).trans
      (congrArg s.act.withDrv ?_)) rfl
    rw [Driver.setPulse_withGap, Driver.pulse_withGap]
  · refine State.exec_pulseTimer hstate hst hran ((Actors.operate_tripOutcome (Driver.endPulse_of_open hfault hopen) hwait).trans
      (congrArg s.act.withDrv ?_)) rfl
    rw [Driver.setPulse_withGap, Driver.pulse_withGap]
    rfl
  · refine State.exec_pulseTimer hstate hst hran ((Actors.operate_tripOutcome (Driver.endPulse_of_fault hfault) hwait).trans
      (congrArg s.act.withDrv ?_)) rfl
    rw [Driver.setPulse_withGap, Driver.pulse_withGap]
    rfl
  · have hact := Actors.operate_of_one (a := s.act) (v := s.view) (f := fun d => d.endPulse s.scanner s.clock true (.close p))
      (Driver.endPulse_of_closed hfault hclosed)
    rw [Driver.rearm_of_ended (by cases p <;> exact hended)] at hact
    have henergizing : s.act.energizing = true := decide_eq_true hphase
    have hrun := hact.trans (Actors.onClosed_awaited (a := s.act.withDrv _) hstep hawaited)
    have hop : s.act.operate s.view (fun d => d.endPulse s.scanner s.clock s.act.energizing (.close p))
        = s.act.operate s.view fun d => d.endPulse s.scanner s.clock true (.close p) := by rw [henergizing]
    refine State.exec_pulseTimer hstate hst hran ((hop.trans hrun).trans ?_) (by cases p <;> rfl)
    cases p <;> rfl
  · set d := (({ s.act.drv with gap := some s.clock } : Driver).setPulse (.trip p)
      (({ s.act.drv with gap := some s.clock } : Driver).pulse (.trip p) |>.toSpent s.scanner.fault)) with hd
    have hspent : (d.pulse (.trip p)).state = .spent := by
      rw [hd, Driver.pulse_setPulse_self]
      rfl
    have hended : d.tripsEnded = true := d.tripsEnded_iff.mpr fun q => by
      by_cases hq : q = p
      · exact .inl (hq ▸ hspent)
      · rw [hd, Driver.pulse_setPulse_of_ne _ _ (by simpa using hq), Driver.pulse_withGap]
        exact hother q hq
    have hone := Actors.operate_of_one (a := s.act) (v := s.view) (d := d) (n := .tripOutcome p)
      (f := fun d => d.endPulse s.scanner s.clock s.act.energizing (.trip p)) (Driver.endPulse_of_ended hend)
    have hact := Actors.tripOutcome_of_wait (a := s.act.withDrv d) s.view hwait hended
    refine ⟨_, State.exec_pulseTimer hstate hst hran (hone.trans hact) ?_, rfl, ?_, rfl, (d.assertSafe_asserts s.view).1,
      (d.assertSafe_asserts s.view).2, rfl⟩
    · exact (d.gap_assertSafe s.view).trans (by rw [hd, Driver.gap_setPulse])
    · exact (congrArg PulseChannel.state (d.pulse_assertSafe s.view _)).trans hspent
  · refine congrArg Host.Outcome.next (State.eventWhen_of_not _ _ ?_)
    rcases hnot with h | h
    · simp [h]
    · simp [ranFor_of_all (limit := pulseTime) h]

end Sys2Proof.Machine
end

section
/-! PROOFS. A breaker's confirmation window that runs out: one retry, then FAILED (R134), and the stop of step B (R169). -/

namespace Sys2Proof.Machine

/-! ### A channel outside the queue stands through the arbiter, outside ENERGIZING -/

theorem Driver.judgeHead_of_other (d : Driver) (sc : Scanner) (now : Stamp) {head id : PulseId} (h : id ≠ head) :
    (d.judgeHead sc now false head).1.pulse id = d.pulse id
      ∧ (d.judgeHead sc now false head).1.pulseQueue = d.pulseQueue := by
  cases head with
  | trip p =>
    unfold Driver.judgeHead
    dsimp only
    split <;> exact ⟨d.pulse_setPulse_of_ne _ h, d.pulseQueue_setPulse _ _⟩
  | close p => exact ⟨d.pulse_setPulse_of_ne _ h, d.pulseQueue_setPulse _ _⟩

theorem Driver.serve_of_not_queued (sc : Scanner) (now : Stamp) {id : PulseId} (n : Nat) (d : Driver)
    (h : id ∉ d.pulseQueue) : (Driver.serve sc now false n d).1.pulse id = d.pulse id := by
  induction n generalizing d with
  | zero => rfl
  | succ n ih =>
    unfold Driver.serve
    split
    · rfl
    · split
      · rfl
      · next head rest hq =>
        rw [hq] at h
        obtain ⟨hpulse, hqueue⟩ := Driver.judgeHead_of_other { d with pulseQueue := rest } sc now
          (List.ne_of_not_mem_cons h)
        rw [Driven.next_fst, ih _ (by rw [hqueue]; exact List.not_mem_of_not_mem_cons h), hpulse, Driver.pulse_withQueue]

/-- The arbiter's notices move no PULSE channel. -/
theorem Actors.report_pulse (a : Actors) (v : View) {n : Notice} (hn : n.ofArbiter = true) (id : PulseId) :
    (a.report v n).drv.pulse id = a.drv.pulse id := by
  have hprogress : ∀ (closeA closeB : Bool), ((a.inStep (.b closeA closeB)).progress v).drv = a.drv := by
    intro closeA closeB
    unfold Actors.progress
    split
    · next h => cases h
    · unfold Actors.settleIfClosed
      split <;> rfl
    · rfl
  cases n with
  | tripOutcome p =>
    show (a.tripOutcome v).drv.pulse id = _
    unfold Actors.tripOutcome
    split
    · exact a.drv.pulse_assertSafe v id
    · rfl
  | closeConfirmed p =>
    show (a.onClosed v p).drv.pulse id = _
    unfold Actors.onClosed
    split
    · rw [hprogress]
    · rw [hprogress]
    · rfl
  | closeUnconfirmed | closeCut | closeWithdrawn => rfl
  | closeFailed | closeRefused | releaseConfirmed | releaseUnconfirmed | releaseFailed | failedFlag => cases hn

theorem Actors.operate_pulse (a : Actors) (v : View) {f : Driver → Driven} (hn : ∀ n ∈ (f a.drv).2, n.ofArbiter = true)
    (id : PulseId) : (a.operate v f).drv.pulse id = (f a.drv).1.pulse id := by
  have hall : ∀ (ns : List Notice) (b : Actors), (∀ n ∈ ns, n.ofArbiter = true) →
      (ns.foldl (fun a n => a.report v n) b).drv.pulse id = b.drv.pulse id := by
    intro ns
    induction ns with
    | nil => exact fun b _ => rfl
    | cons n ns ih =>
      exact fun b hb => (ih _ fun m hm => hb m (List.mem_cons_of_mem n hm)).trans
        (b.report_pulse v (hb n List.mem_cons_self) id)
  exact hall _ _ hn

theorem State.endEvent_pulse_of_not_queued (s old : State) {id : PulseId} (hphase : s.act.coord.phase ≠ .energizing)
    (h : id ∉ s.act.drv.pulseQueue) : (s.endEvent old).act.drv.pulse id = s.act.drv.pulse id := by
  have henergizing : s.act.energizing = false := decide_eq_false hphase
  unfold State.endEvent
  split
  · refine (Actors.operate_pulse s.act s.view (Driver.arbiter_serve _ _ _ _ _) id).trans ?_
    rw [henergizing]
    exact Driver.serve_of_not_queued _ _ _ _ h
  · rfl

theorem Driver.stopClose_of_failed {d : Driver} {now : Stamp} {p q : Pdu} (h : (d.pulse (.close p)).state = .failed) :
    (d.stopClose now q).pulse (.close p) = d.pulse (.close p)
      ∧ ∀ id ∈ (d.stopClose now q).pulseQueue, id ∈ d.pulseQueue := by
  have hne (hq : (d.pulse (.close q)).state ≠ .failed) : PulseId.close p ≠ .close q := fun heq => hq (heq ▸ h)
  unfold Driver.stopClose
  split
  · next hstate =>
    refine ⟨?_, fun id hid => List.mem_of_mem_filter hid⟩
    rw [Driver.pulse_withQueue]
    exact d.pulse_setPulse_of_ne _ (hne (by simp [hstate]))
  · next hstate =>
    refine ⟨?_, fun id hid => by rwa [← d.pulseQueue_setPulse (.close q)]⟩
    rw [Driver.pulse_withGap]
    exact d.pulse_setPulse_of_ne _ (hne (by simp [hstate]))
  all_goals exact ⟨rfl, fun _ => id⟩

theorem Driver.leaveEnergizing_of_failed {d : Driver} {now : Stamp} {p : Pdu} (h : (d.pulse (.close p)).state = .failed) :
    (d.leaveEnergizing now).1.pulse (.close p) = d.pulse (.close p)
      ∧ ∀ id ∈ (d.leaveEnergizing now).1.pulseQueue, id ∈ d.pulseQueue := by
  obtain ⟨hfirst, hfirstQueue⟩ := Driver.stopClose_of_failed (now := now) (q := .a) h
  obtain ⟨hsecond, hsecondQueue⟩ := Driver.stopClose_of_failed (d := d.stopClose now .a) (now := now) (q := .b)
    (by rw [hfirst, h])
  rw [Driver.leaveEnergizing_fst]
  exact ⟨hsecond.trans hfirst, fun id hid => hfirstQueue id (hsecondQueue id hid)⟩

/-! ### PULSE_WINDOW_EXPIRY (R134) -/

theorem Actors.onCloseFailed_awaited {a : Actors} {v : View} {p : Pdu} {closeA closeB : Bool}
    (hstep : a.coord.step = .b closeA closeB) (h : if p = .a then closeA = true else closeB = true) :
    a.onCloseFailed v p = a.stop v := by
  unfold Actors.onCloseFailed
  cases p with
  | a =>
    have h : closeA = true := h
    rw [hstep, h]
  | b =>
    have h : closeB = true := h
    rw [hstep, h]
    cases closeA <;> rfl

theorem Driver.missWindow_first {d : Driver} {id : PulseId} (h : (d.pulse id).attempt = some .first) :
    d.missWindow id = (d.enqueue id .second, []) := if_pos h

theorem Driver.missWindow_second {d : Driver} {id : PulseId} (h : (d.pulse id).attempt = some .second) :
    d.missWindow id = (d.setPulse id { d.pulse id with state := .failed, attempt := none, window := none, failed := true },
      flagNotice (d.pulse id).failed ++ [failureNotice id]) := if_neg (by simp [h])

/-- The window due, and what it makes of the acting blocks. -/
theorem State.exec_pulseWindow {s : State} {id : PulseId} {st : Stamp} (hstate : (s.act.drv.pulse id).state = .checking)
    (hst : (s.act.drv.pulse id).window = some st) (hran : pulseWindow id ≤ elapsed s.clock st) {b : Actors}
    (hb : s.act.operate s.view (fun d => d.missWindow id) = b) :
    exec (.pulseWindowExpiry id) s = .next ((s.withAct b).endEvent s) := by
  have hdue : ((s.act.drv.pulse id).state = .checking && ranFor s.clock (s.act.drv.pulse id).window (pulseWindow id)) = true := by
    rw [hst, ranFor_some]
    simp [hstate, hran]
  refine congrArg Host.Outcome.next ?_
  rw [hdue, State.eventWhen_true]
  exact congrArg (fun a => (s.withAct a).endEvent s) hb

theorem Actors.operate_missFirst {a : Actors} (v : View) {id : PulseId} (h : (a.drv.pulse id).attempt = some .first) :
    a.operate v (fun d => d.missWindow id) = a.withDrv (a.drv.enqueue id .second) :=
  Actors.operate_of_ignored (Driver.missWindow_first h) fun _ hn => absurd hn List.not_mem_nil

theorem Driver.anyFiring_enqueue {d : Driver} {id : PulseId} (hid : (d.pulse id).state ≠ .firing) (attempt : Attempt) :
    (d.enqueue id attempt).anyFiring = d.anyFiring := by
  have hone (other : PulseId) : (d.enqueue id attempt).firing other = d.firing other := by
    unfold Driver.firing Driver.enqueue
    rw [Driver.pulse_withQueue, Driver.pulse_setPulse]
    split
    · next h =>
      rw [h, decide_eq_false hid]
      rfl
    · rfl
  unfold Driver.anyFiring
  rw [hone, hone, hone, hone]

theorem Driver.gap_enqueue (d : Driver) (id : PulseId) (attempt : Attempt) : (d.enqueue id attempt).gap = d.gap :=
  d.gap_setPulse _ _

theorem Driver.gapServed_of_gap {d e : Driver} (h : e.gap = d.gap) (now : Stamp) : e.gapServed now = d.gapServed now := by
  unfold Driver.gapServed
  rw [h]

theorem Driver.withQueue_self {d : Driver} {queue : List PulseId} (h : d.pulseQueue = queue) :
    ({ d with pulseQueue := queue } : Driver) = d := by
  rw [← h]

/-- The only entry fires as it enters the queue. -/
theorem Driver.fire_enqueued {d : Driver} (hq : d.pulseQueue = []) (now : Stamp) (id : PulseId) (attempt : Attempt) :
    ({ d.enqueue id attempt with pulseQueue := [] } : Driver).fire now id =
      d.setPulse id ⟨.firing, some attempt, some now, none, false, (d.pulse id).failed⟩ := by
  have hwithout : ({ d.enqueue id attempt with pulseQueue := [] } : Driver) =
      d.setPulse id ((d.pulse id).toQueued attempt) :=
    Driver.withQueue_self ((d.pulseQueue_setPulse id ((d.pulse id).toQueued attempt)).trans hq)
  rw [hwithout]
  unfold Driver.fire
  rw [Driver.pulse_setPulse_self]
  rcases id with (_ | _) | (_ | _) <;> rfl

/-- Settles O39: the retry in the queue and at once, FAILED, the stop of step B, and nothing ahead of the times. -/
theorem pulseWindowExpiryRetriesOnce : Obligations.PulseWindowExpiryRetriesOnce := by
  refine ⟨fun s id st hstate hst hran hattempt hheld => ?_,
    fun s id st hstate hst hran hattempt hfree hgap hq hawait hclose => ?_,
    fun s id st sound hstate hst hran hattempt hwait hstep => ?_,
    fun s p st closeA closeB hsound hstate hst hran hattempt hphase hstep hawaited => ?_, fun s id hnot => ?_⟩
  · have hnot : (s.act.drv.pulse id).state ≠ .firing := by simp [hstate]
    refine (State.exec_pulseWindow hstate hst hran (Actors.operate_missFirst s.view hattempt)).trans
      (congrArg Host.Outcome.next ?_)
    refine State.endEvent_of_held (s := s.withAct (s.act.withDrv (s.act.drv.enqueue id .second))) ?_ s
    show ((s.act.drv.enqueue id .second).anyFiring || !(s.act.drv.enqueue id .second).gapServed s.clock) = true
    rw [Driver.anyFiring_enqueue hnot, Driver.gapServed_of_gap (s.act.drv.gap_enqueue ..)]
    simpa using hheld
  · have hnot : (s.act.drv.pulse id).state ≠ .firing := by simp [hstate]
    refine (State.exec_pulseWindow hstate hst hran (Actors.operate_missFirst s.view hattempt)).trans
      (congrArg Host.Outcome.next ?_)
    have hqueue : (s.act.drv.enqueue id .second).pulseQueue = [id] := by
      show s.act.drv.pulseQueue ++ [id] = [id]
      rw [hq]
      rfl
    have hstirred : arbiterStirred s.act.drv (s.act.drv.enqueue id .second) = true := by
      simp [arbiterStirred, hqueue, hq]
    have hserve := Actors.serve_fires (a := s.act.withDrv (s.act.drv.enqueue id .second)) (v := s.view)
      ((Driver.anyFiring_enqueue hnot .second).trans (Driver.anyFiring_of_none hfree))
      ((Driver.gapServed_of_gap (s.act.drv.gap_enqueue ..) s.clock).trans hgap) hqueue hawait hclose
    refine (State.endEvent_of_stirred (s := s.withAct (s.act.withDrv (s.act.drv.enqueue id .second))) hstirred).trans ?_
    refine (congrArg s.withAct hserve).trans (congrArg (fun d => s.withAct (s.act.withDrv d)) ?_)
    exact Driver.fire_enqueued hq s.clock id .second
  · have hact : s.act.operate s.view (fun d => d.missWindow id) = _ :=
      Actors.operate_of_flag (Driver.missWindow_second hattempt) fun n hn => by
        rw [List.mem_singleton.mp hn]
        cases id with
        | trip p => exact hwait
        | close p => exact hstep
    have hexec := State.exec_pulseWindow hstate hst hran hact
    rw [State.endEvent_of_calm _ _ (s.act.drv.pulseQueue_setPulse ..) (s.act.drv.gap_setPulse ..)] at hexec
    exact ⟨_, hexec, rfl, LineUnit.Sound.flagged sound s.clock _⟩
  · set b : Actors := { s.act with
      drv := s.act.drv.setPulse (.close p)
        { s.act.drv.pulse (.close p) with state := .failed, attempt := none, window := none, failed := true }
      line := if (s.act.drv.pulse (.close p)).failed then s.act.line else s.act.line.urgent s.clock } with hb
    have hbpulse : b.drv.pulse (.close p) =
        { s.act.drv.pulse (.close p) with state := .failed, attempt := none, window := none, failed := true } :=
      s.act.drv.pulse_setPulse_self ..
    have hreport : s.act.operate s.view (fun d => d.missWindow (.close p)) = b.report s.view (.closeFailed p) :=
      Actors.operate_of_flag_then (Driver.missWindow_second hattempt)
    have hstop : s.act.operate s.view (fun d => d.missWindow (.close p)) = b.stop s.view :=
      hreport.trans (Actors.onCloseFailed_awaited (a := b) hstep hawaited)
    have hexec := State.exec_pulseWindow hstate hst hran hstop
    obtain ⟨hcoord, hseq, hdrv⟩ := Actors.stop_of_energizing (a := b) (v := s.view) hphase
    obtain ⟨hkept, hsub⟩ := Driver.leaveEnergizing_of_failed (now := s.clock) (congrArg PulseChannel.state hbpulse)
    have habsent : PulseId.close p ∉ s.act.drv.pulseQueue := fun hmem => by
      have hqueued := (hsound.close_mem_queue_iff p).mp hmem
      rw [hstate] at hqueued
      cases hqueued
    set w := s.withAct (b.stop s.view) with hw
    have hwcoord : w.act.coord = _ := hcoord
    have hafter := w.stepOnly_endEvent s
    have hpulse : (w.endEvent s).act.drv.pulse (.close p) = b.drv.pulse (.close p) := by
      rw [w.endEvent_pulse_of_not_queued s (by rw [hwcoord]; exact nofun) (fun hmem => ?_)]
      · exact (congrArg (fun d => Driver.pulse d (.close p)) hdrv).trans hkept
      · have hmem : PulseId.close p ∈ (b.stop s.view).drv.pulseQueue := hmem
        rw [hdrv] at hmem
        have hin : PulseId.close p ∈ b.drv.pulseQueue := hsub _ hmem
        exact habsent (by rwa [← s.act.drv.pulseQueue_setPulse (.close p)])
    have hstepNone : (w.endEvent s).act.coord.step = .none := hafter.step (by rw [hwcoord])
    refine ⟨w.endEvent s, hexec, State.endEvent_eq _ _, ?_⟩
    rw [hpulse, hbpulse, hafter.coord, hafter.seq, hstepNone, hwcoord]
    refine ⟨rfl, rfl, rfl, rfl, rfl, rfl, rfl, ?_⟩
    show (b.stop s.view).seq.stage = _
    rw [hseq]
  · refine congrArg Host.Outcome.next (State.eventWhen_of_not _ _ ?_)
    rcases hnot with h | h
    · simp [h]
    · simp [ranFor_of_all (limit := pulseWindow id) h]

end Sys2Proof.Machine
end

section
/-! PROOFS. The trip requests, and the grace's expiry that makes them (R104, R129). -/

namespace Sys2Proof.Machine

/-! ### A trip request of a READY trip whose close does not move (R129) -/

theorem Driver.requestTrip_of_closed {d : Driver} {sc : Scanner} (now : Stamp) {p : Pdu}
    (hclose : (d.pulse (.close p)).state = .ready ∨ (d.pulse (.close p)).state = .spent ∨ (d.pulse (.close p)).state = .failed)
    (hready : (d.pulse (.trip p)).state = .ready) (hclosed : pduOpen sc p = false) :
    d.requestTrip sc now p = (d.enqueue (.trip p) .first, []) := by
  unfold Driver.requestTrip Driven.next
  rw [Driver.cutClose_of_idle now hclose]
  simp [hready, hclosed]

theorem Driver.requestTrip_of_open {d : Driver} {sc : Scanner} (now : Stamp) {p : Pdu}
    (hclose : (d.pulse (.close p)).state = .ready ∨ (d.pulse (.close p)).state = .spent ∨ (d.pulse (.close p)).state = .failed)
    (hready : (d.pulse (.trip p)).state = .ready) (hopen : pduOpen sc p = true) :
    d.requestTrip sc now p = (d.setPulse (.trip p) ((d.pulse (.trip p)).toSpent (pduUnsure sc p)), [.tripOutcome p]) := by
  unfold Driver.requestTrip Driven.next
  rw [Driver.cutClose_of_idle now hclose]
  simp [hready, hopen]

/-- One trip asked for, if it stands READY. -/
def Actors.tripOne (a : Actors) (v : View) (p : Pdu) : Actors :=
  if (a.drv.pulse (.trip p)).state = .ready then a.drive v (·.requestTrip v.scanner v.now p) else a

theorem Actors.tripReady_eq (a : Actors) (v : View) : a.tripReady v = (a.tripOne v .a).tripOne v .b := rfl

theorem Actors.tripOne_of_closed {a : Actors} {v : View} {p : Pdu}
    (hclose : (a.drv.pulse (.close p)).state = .ready ∨ (a.drv.pulse (.close p)).state = .spent
      ∨ (a.drv.pulse (.close p)).state = .failed)
    (hready : (a.drv.pulse (.trip p)).state = .ready) (hclosed : pduOpen v.scanner p = false) :
    a.tripOne v p = a.withDrv (a.drv.enqueue (.trip p) .first) := by
  have hrequest := Driver.requestTrip_of_closed v.now hclose hready hclosed
  unfold Actors.tripOne
  rw [if_pos hready, Actors.drive_of_quiet a v _ (by rw [hrequest]), hrequest]

theorem Actors.tripOne_of_open {a : Actors} {v : View} {p : Pdu}
    (hclose : (a.drv.pulse (.close p)).state = .ready ∨ (a.drv.pulse (.close p)).state = .spent
      ∨ (a.drv.pulse (.close p)).state = .failed)
    (hready : (a.drv.pulse (.trip p)).state = .ready) (hopen : pduOpen v.scanner p = true) (hwait : a.seq.safeWait = false) :
    a.tripOne v p = a.withDrv (a.drv.setPulse (.trip p) ((a.drv.pulse (.trip p)).toSpent (pduUnsure v.scanner p))) := by
  have hrequest := Driver.requestTrip_of_open v.now hclose hready hopen
  unfold Actors.tripOne Actors.drive
  rw [if_pos hready]
  dsimp only
  rw [hrequest]
  exact if_neg (by simp [Actors.withDrv, hwait])

theorem Driver.pulse_enqueue_of_ne (d : Driver) {id other : PulseId} (h : other ≠ id) (attempt : Attempt) :
    (d.enqueue id attempt).pulse other = d.pulse other := by
  unfold Driver.enqueue
  rw [Driver.pulse_withQueue]
  exact d.pulse_setPulse_of_ne _ h

/-! ### GRACE_EXPIRY (R104) -/

theorem Sequencer.graceDue_of {q : Sequencer} {now expiry : Stamp} (hgrace : q.grace = .running expiry)
    (hreached : reached now expiry = true) : q.graceDue now = true := by
  unfold Sequencer.graceDue
  rw [hgrace]
  exact hreached

theorem Sequencer.graceDue_of_not {q : Sequencer} {now : Stamp}
    (h : ∀ expiry, q.grace = .running expiry → reached now expiry = false) : q.graceDue now = false := by
  unfold Sequencer.graceDue
  split
  · next hgrace => exact h _ hgrace
  all_goals rfl

theorem State.exec_graceExpiry {s : State} {expiry : Stamp} (hgrace : s.act.seq.grace = .running expiry)
    (hreached : reached s.clock expiry = true) :
    exec .graceExpiry s = .next ((s.withAct ((s.act.withSeq { s.act.seq with grace := .ended }).tripReady s.view)).endEvent s) := by
  refine congrArg Host.Outcome.next ?_
  rw [Sequencer.graceDue_of hgrace hreached, State.eventWhen_true]
  have hend : s.act.endGrace s.view = (s.act.withSeq { s.act.seq with grace := .ended }).tripReady s.view := by
    unfold Actors.endGrace
    rw [hgrace]
  exact congrArg (fun a => (s.withAct a).endEvent s) hend

/-- Settles O33: the grace ended, both trips requested with the PDUs closed, settled with them open, and nothing ahead of the
expiry. -/
theorem graceExpiryRequestsTheTrips : Obligations.GraceExpiryRequestsTheTrips := by
  refine ⟨fun s expiry hgrace hreached => ?_,
    fun s expiry hgrace hreached htripA htripB hcloseA hcloseB hq hgap hclosedA hclosedB => ?_,
    fun s expiry hgrace hreached htripA htripB hcloseA hcloseB hwait hopenA hopenB => ?_, fun s hnot => ?_⟩
  · set w := s.withAct ((s.act.withSeq { s.act.seq with grace := .ended }).tripReady s.view) with hw
    refine ⟨w.endEvent s, State.exec_graceExpiry hgrace hreached, State.endEvent_eq _ _, ?_⟩
    rw [(w.stepOnly_endEvent s).seq]
    exact congrArg Sequencer.grace (Actors.driveOnly_tripReady _ s.view).2
  · set a := s.act.withSeq { s.act.seq with grace := .ended } with ha
    have hpduA : pduOpen s.scanner .a = false := by simp [pduOpen, pduContact, hclosedA]
    have hpduB : pduOpen s.scanner .b = false := by simp [pduOpen, pduContact, hclosedB]
    have hfirst : a.tripOne s.view .a = a.withDrv (a.drv.enqueue (.trip .a) .first) :=
      Actors.tripOne_of_closed (.inl hcloseA) htripA hpduA
    have hsecond : a.tripReady s.view = a.withDrv ((a.drv.enqueue (.trip .a) .first).enqueue (.trip .b) .first) := by
      rw [Actors.tripReady_eq, hfirst]
      exact Actors.tripOne_of_closed (a := a.withDrv (a.drv.enqueue (.trip .a) .first))
        (hcloseB.elim .inl fun h => .inr (.inl h)) htripB hpduB
    set d := (a.drv.enqueue (.trip .a) .first).enqueue (.trip .b) .first with hd
    have hqueue : d.pulseQueue = [.trip .a, .trip .b] := by
      show s.act.drv.pulseQueue ++ [.trip .a] ++ [.trip .b] = _
      rw [hq]
      rfl
    have hnone : d.anyFiring = false := by
      have hcloseB' : s.act.drv.closeB.state ≠ .firing := by rcases hcloseB with h | h <;> simp [h]
      have hcloseA' : s.act.drv.closeA.state ≠ .firing := by simp [hcloseA]
      exact Driver.anyFiring_of_none fun id _ => by
        rcases id with (_ | _) | (_ | _)
        · exact nofun
        · exact nofun
        · exact hcloseA'
        · exact hcloseB'
    have hstirred : arbiterStirred s.act.drv d = true := by simp [arbiterStirred, hqueue, hq]
    rw [State.exec_graceExpiry hgrace hreached, hsecond]
    refine congrArg Host.Outcome.next ((State.endEvent_of_stirred (s := s.withAct (a.withDrv d)) hstirred).trans ?_)
    exact congrArg s.withAct (Actors.serve_fires (a := a.withDrv d) (v := s.view) hnone hgap hqueue hpduA nofun)
  · set a := s.act.withSeq { s.act.seq with grace := .ended } with ha
    have hpduA : pduOpen s.scanner .a = true := by simp [pduOpen, pduContact, hopenA]
    have hpduB : pduOpen s.scanner .b = true := by simp [pduOpen, pduContact, hopenB]
    have hfirst := Actors.tripOne_of_open (a := a) (v := s.view) (p := .a) (.inl hcloseA) htripA hpduA hwait
    have hsecond := Actors.tripOne_of_open (v := s.view) (p := .b)
      (a := a.withDrv (a.drv.setPulse (.trip .a) ((a.drv.pulse (.trip .a)).toSpent (pduUnsure s.scanner .a))))
      (hcloseB.elim .inl fun h => .inr (.inl h)) htripB hpduB hwait
    rw [State.exec_graceExpiry hgrace hreached, Actors.tripReady_eq, hfirst]
    refine congrArg Host.Outcome.next ((congrArg (fun a => (s.withAct a).endEvent s) hsecond).trans ?_)
    exact State.endEvent_of_calm _ _ rfl rfl
  · exact congrArg Host.Outcome.next (State.eventWhen_of_not _ _ (Sequencer.graceDue_of_not hnot))

end Sys2Proof.Machine
end

section
/-! PROOFS. What a scan makes of the Contact Scanner (R141 to R148), and how its changes are handed over (R147, R149). -/

namespace Sys2Proof.Machine

/-! ### One input compared (R143) -/

theorem ContactInput.adopt_of_some {c : ContactInput} {level : Bool} (h : c.candidate = some level) :
    c.adopt = if 3 ≤ c.agreement then ⟨.ofLevel level, none, 0⟩ else c := by
  unfold ContactInput.adopt
  rw [h]

/-- An input's record after a good scan in which a value may change. -/
theorem ContactInput.adopt_compare (c : ContactInput) (level : Bool) :
    (c.compare level).adopt = if c.value = .ofLevel level then { c with candidate := none, agreement := 0 }
      else if c.candidate = some level then
        if 3 ≤ c.agreement + 1 then ⟨.ofLevel level, none, 0⟩ else { c with agreement := c.agreement + 1 }
      else { c with candidate := some level, agreement := 1 } := by
  unfold ContactInput.compare
  split
  · rfl
  · split
    · next h => exact ContactInput.adopt_of_some h
    · exact (ContactInput.adopt_of_some rfl).trans (if_neg (show ¬ 3 ≤ 1 by decide))

theorem ContactInput.adopt_compare_of_agreement {c : ContactInput} (level : Bool) (h : c.agreement ≤ 2) :
    (c.compare level).adopt = if c.value = .ofLevel level then ⟨c.value, none, 0⟩
      else if c.candidate = some level then
        if c.agreement = 2 then ⟨.ofLevel level, none, 0⟩ else ⟨c.value, c.candidate, c.agreement + 1⟩
      else ⟨c.value, some level, 1⟩ := by
  have hlimit : 3 ≤ c.agreement + 1 ↔ c.agreement = 2 := by omega
  rw [ContactInput.adopt_compare]
  simp only [hlimit]

/-- The third agreement makes the reading the value. -/
theorem ContactInput.adopt_compare_third {c : ContactInput} {level : Bool} (hvalue : c.value ≠ .ofLevel level)
    (hcandidate : c.candidate = some level) (hagreement : c.agreement = 2) :
    (c.compare level).adopt = ⟨.ofLevel level, none, 0⟩ := by
  rw [ContactInput.adopt_compare_of_agreement level (by omega), if_neg hvalue, if_pos hcandidate, if_pos hagreement]

/-! ### The scanner after a scan -/

theorem endPattern_iff (frame : BitVec 24) : endPattern frame = true ↔ frame.extractLsb' 16 8 = 0x2D := decide_eq_true_iff

theorem compareAll_getElem? {inputs : List ContactInput} {frame : BitVec 24} {i : Nat} {c : ContactInput} (hi : i < 16)
    (h : inputs[i]? = some c) : (compareAll inputs frame)[i]? = some (c.compare (frame.getLsbD i)) := by
  unfold compareAll inputLevels
  rw [List.getElem?_zipWith, h]
  simp [hi]

theorem compareAll_length {inputs : List ContactInput} (frame : BitVec 24) (h : inputs.length = 16) :
    (compareAll inputs frame).length = 16 := by
  simp [compareAll, h]

/-- A good scan outside a fault (R143, R144). -/
theorem Scanner.complete_good {sc : Scanner} {frame : BitVec 24} (hfault : sc.fault = false)
    (hgood : frame.extractLsb' 16 8 = 0x2D) :
    sc.complete frame = { sc with
      scanning := false, badScans := 0, inputs := (compareAll sc.inputs frame).map .adopt
      known := (sc.complete frame).known } := by
  unfold Scanner.complete
  rw [hfault, (endPattern_iff frame).mpr hgood]
  simp [Scanner.debounce, Scanner.latchKnown]

/-- A good scan in a fault: its count (R145), and at the third the fault's end (R146). -/
theorem Scanner.complete_recover {sc : Scanner} {frame : BitVec 24} (hfault : sc.fault = true)
    (hgood : frame.extractLsb' 16 8 = 0x2D) :
    sc.complete frame = if sc.recovery < 2 then { sc with
        scanning := false, inputs := compareAll sc.inputs frame, recovery := sc.recovery + 1
        known := (sc.complete frame).known }
      else { sc with
        scanning := false, inputs := (compareAll sc.inputs frame).map .adopt, fault := false, badScans := 0
        recovery := 0, known := (sc.complete frame).known } := by
  unfold Scanner.complete
  rw [hfault, (endPattern_iff frame).mpr hgood]
  unfold Scanner.recover Scanner.latchKnown
  dsimp only
  split
  · next h => rw [if_neg (by omega)]
  · next h => rw [if_pos (by omega)]

/-- A bad scan outside a fault: its count, and at the third the fault (R144). -/
theorem Scanner.complete_bad {sc : Scanner} {frame : BitVec 24} (hfault : sc.fault = false)
    (hbad : frame.extractLsb' 16 8 ≠ 0x2D) :
    sc.complete frame = if sc.badScans < 2 then { sc with
        scanning := false, inputs := sc.inputs.map .drop, badScans := sc.badScans + 1
        known := sc.known || (sc.inputs.map ContactInput.drop).all fun c => c.value ≠ .unknown }
      else { sc with
        scanning := false, inputs := sc.inputs.map .drop, badScans := 3, fault := true, recovery := 0, known := true } := by
  have hpattern : endPattern frame = false := decide_eq_false hbad
  unfold Scanner.complete
  rw [hfault, hpattern]
  unfold Scanner.countBad Scanner.latchKnown
  dsimp only
  split
  · next h =>
    rw [if_neg (by omega)]
    simp
  · next h =>
    rw [if_pos (by omega)]
    simp

/-- A bad scan in a fault (R145). -/
theorem Scanner.complete_break {sc : Scanner} {frame : BitVec 24} (hfault : sc.fault = true)
    (hbad : frame.extractLsb' 16 8 ≠ 0x2D) :
    sc.complete frame = { sc with scanning := false, inputs := sc.inputs.map .drop, recovery := 0, known := true } := by
  have hpattern : endPattern frame = false := decide_eq_false hbad
  unfold Scanner.complete
  rw [hfault, hpattern]
  simp [Scanner.breakRecovery, Scanner.latchKnown]

/-! ### The values read -/

theorem Scanner.value_of_some {sc : Scanner} {i : Nat} {c : ContactInput} (h : sc.inputs[i]? = some c) :
    sc.value i = c.value := by
  unfold Scanner.value
  rw [h]

/-- The record of an input after a good scan outside a fault. -/
theorem Scanner.input_good {sc : Scanner} {frame : BitVec 24} {i : Nat} {c : ContactInput} (hfault : sc.fault = false)
    (hgood : frame.extractLsb' 16 8 = 0x2D) (hi : i < 16) (hc : sc.inputs[i]? = some c) :
    (sc.complete frame).inputs[i]? = some (c.compare (frame.getLsbD i)).adopt := by
  rw [Scanner.complete_good hfault hgood]
  show ((compareAll sc.inputs frame).map ContactInput.adopt)[i]? = _
  rw [List.getElem?_map, compareAll_getElem? hi hc]
  rfl

/-- A value that agrees with the reading stands. -/
theorem Scanner.value_good_of_eq {sc : Scanner} {frame : BitVec 24} {i : Nat} (hlen : sc.inputs.length = 16)
    (hfault : sc.fault = false) (hgood : frame.extractLsb' 16 8 = 0x2D) (hi : i < 16)
    (h : sc.value i = .ofLevel (frame.getLsbD i)) : (sc.complete frame).value i = sc.value i := by
  have hc : sc.inputs[i]? = some sc.inputs[i] := List.getElem?_eq_getElem (by omega)
  have hsame : sc.inputs[i].value = .ofLevel (frame.getLsbD i) := by rw [← Scanner.value_of_some hc, h]
  rw [Scanner.value_of_some (Scanner.input_good hfault hgood hi hc), ContactInput.adopt_compare, if_pos hsame,
    Scanner.value_of_some hc]

/-- A third agreement changes the value to the reading. -/
theorem Scanner.value_good_third {sc : Scanner} {frame : BitVec 24} {i : Nat} {c : ContactInput} (hfault : sc.fault = false)
    (hgood : frame.extractLsb' 16 8 = 0x2D) (hi : i < 16) (hc : sc.inputs[i]? = some c)
    (hvalue : c.value ≠ .ofLevel (frame.getLsbD i)) (hcandidate : c.candidate = some (frame.getLsbD i))
    (hagreement : c.agreement = 2) : (sc.complete frame).value i = .ofLevel (frame.getLsbD i) := by
  rw [Scanner.value_of_some (Scanner.input_good hfault hgood hi hc),
    ContactInput.adopt_compare_third hvalue hcandidate hagreement]

theorem Scanner.active_of_value {sc : Scanner} {i : Nat} {level : Bool} (h : sc.value i = .ofLevel level) :
    sc.active i = level := by
  unfold Scanner.active
  rw [h]
  cases level <;> rfl

/-! ### The changes handed over -/

theorem filter_range_eq : ∀ i ∈ List.range 16, (List.range 16).filter (fun j => decide (j = i)) = [i] := by decide

/-- One input alone changes. -/
theorem changedInputs_of_one {old new : Scanner} {i : Nat} (hi : i < 16) (hchanged : old.value i ≠ new.value i)
    (hothers : ∀ j ∈ List.range 16, j ≠ i → new.value j = old.value j) : changedInputs old new = [i] := by
  rw [← filter_range_eq i (List.mem_range.mpr hi)]
  refine List.filter_congr fun j hj => ?_
  by_cases h : j = i
  · rw [h]
    exact (decide_eq_true hchanged).trans (decide_eq_true rfl).symm
  · exact (decide_eq_false (by rw [hothers j hj h]; exact not_not.mpr rfl)).trans (decide_eq_false h).symm

theorem changedInputs_of_none {old new : Scanner} (h : ∀ j ∈ List.range 16, new.value j = old.value j) :
    changedInputs old new = [] :=
  List.filter_eq_nil_iff.mpr fun j hj => by simp [h j hj]

/-- A scan while it is under way. -/
theorem State.exec_scan {s : State} (hscanning : s.scanner.scanning = true) (frame : BitVec 24) :
    exec (.scanCompletion frame) s = .next ((s.completeScan frame).endEvent s) := by
  refine congrArg Host.Outcome.next ?_
  rw [hscanning, State.eventWhen_true]
  rfl

/-- The acting blocks once they have taken a scan. -/
def State.scanned (s : State) (frame : BitVec 24) : State :=
  { s with scanner := s.scanner.complete frame }.acting fun v a => a.afterScan v s.scanner

/-- With no adoption due the scan ends with what the acting blocks make of it. -/
theorem State.completeScan_of_running {s : State} {frame : BitVec 24} (h : s.startup.state ≠ .awaitingInputs) :
    s.completeScan frame = s.scanned frame := by
  have hknown : (s.scanned frame).onKnown = s.scanned frame := by
    unfold State.onKnown
    split
    · next hawaiting => exact absurd hawaiting h
    all_goals rfl
  unfold State.completeScan
  dsimp only
  split
  · exact hknown
  · rfl

/-- Outside a fault the acting blocks take the changed inputs alone. -/
theorem Actors.afterScan_calm (a : Actors) {v : View} {old : Scanner} (hold : old.fault = false)
    (hnew : v.scanner.fault = false) :
    a.afterScan v old = (changedInputs old v.scanner).foldl (fun a i => a.onInput v i) a := by
  unfold Actors.afterScan
  rw [hold, hnew]
  rfl

/-- A good scan in which one input alone changes. -/
theorem State.scanned_one {s : State} {frame : BitVec 24} {i : Nat} {c : ContactInput} (hlen : s.scanner.inputs.length = 16)
    (hgood : frame.extractLsb' 16 8 = 0x2D) (hfault : s.scanner.fault = false) (hi : i < 16)
    (hc : s.scanner.inputs[i]? = some c) (hvalue : c.value ≠ .ofLevel (frame.getLsbD i))
    (hcandidate : c.candidate = some (frame.getLsbD i)) (hagreement : c.agreement = 2)
    (hothers : ∀ j ∈ List.range 16, j ≠ i → s.scanner.value j = .ofLevel (frame.getLsbD j)) :
    s.scanned frame = { s with
        scanner := s.scanner.complete frame
        act := s.act.onInput ({ s with scanner := s.scanner.complete frame } : State).view i }
      ∧ (s.scanner.complete frame).value i = .ofLevel (frame.getLsbD i)
      ∧ (∀ j ∈ List.range 16, j ≠ i → (s.scanner.complete frame).value j = s.scanner.value j)
      ∧ (s.scanner.complete frame).fault = false := by
  have hnew := Scanner.value_good_third hfault hgood hi hc hvalue hcandidate hagreement
  have hkept : ∀ j ∈ List.range 16, j ≠ i → (s.scanner.complete frame).value j = s.scanner.value j := fun j hj hne =>
    Scanner.value_good_of_eq hlen hfault hgood (List.mem_range.mp hj) (hothers j hj hne)
  have hcalm : (s.scanner.complete frame).fault = false := by rw [Scanner.complete_good hfault hgood, hfault]
  have hchanged : changedInputs s.scanner (s.scanner.complete frame) = [i] :=
    changedInputs_of_one hi (by rw [hnew, Scanner.value_of_some hc]; exact hvalue) hkept
  refine ⟨?_, hnew, hkept, hcalm⟩
  have hact : s.act.afterScan ({ s with scanner := s.scanner.complete frame } : State).view s.scanner = _ :=
    (s.act.afterScan_calm hfault hcalm).trans (congrArg (List.foldl _ s.act) hchanged)
  exact congrArg (fun a => ({ s with scanner := s.scanner.complete frame, act := a } : State)) hact

end Sys2Proof.Machine
end

section
/-! PROOFS. The leave asked for at the end of a wait (R153, R157, R164), and the comparison of BACKOFF (R164). -/

namespace Sys2Proof.Machine

/-! ### A wait left for BIDDING or AWAIT_PERMIT -/

theorem Sequencer.standDown_none {q : Sequencer} (h : q.standDown = none) : ({ q with standDown := none } : Sequencer) = q := by
  rw [← h]

theorem Coordinator.waits_none {c : Coordinator} (hquiet : c.quietStart = none) (hstagger : c.stagger = none) (phase : Phase) :
    ({ c with quietStart := none, stagger := none, phase := phase } : Coordinator) = { c with phase := phase } := by
  cases c
  cases hquiet
  cases hstagger
  rfl

/-- A wait outside the turns is left by the authority check: coordinator and Line Unit alone, with an urgent STATE due. -/
structure Actors.Leaves (a : Actors) (v : View) (b : Actors) : Prop where
  eq : b = { a with
    line := b.line
    coord := { a.coord with
      quietStart := none, stagger := none, phase := if a.authorityHolds v = true then .bidding else .awaitPermit } }
  served : a.line.Served v.now b.line
  due : b.line.urgentDue = true
  asked : b.coord.phase = .bidding → b.line.restartAsked .bid = true

section
variable {a : Actors} {v : View} (hline : a.line.Sound) (hstand : a.seq.standDown = none)
include hline hstand

theorem Actors.leaves_bidding (hne : a.coord.phase ≠ .bidding) (henergizing : a.coord.phase ≠ .energizing)
    (h : a.authorityHolds v = true) : a.Leaves v (a.enterBidding v) := by
  obtain ⟨-, hdue, hasked⟩ := hline.bid v.now
  rw [a.enterBidding_eq v hne henergizing, Sequencer.standDown_none hstand]
  refine ⟨?_, a.line.served_bid v.now, hdue, fun _ => hasked⟩
  rw [if_pos h]
  rfl

/-- AWAIT_PERMIT entered from a wait outside the turns, before its check. -/
theorem Actors.setPhase_awaitPermit (hne : a.coord.phase ≠ .awaitPermit) (hturn : a.coord.phase.inTurn = false) :
    a.setPhase v .awaitPermit = { a with
        line := (a.setPhase v .awaitPermit).line
        coord := { a.coord with quietStart := none, stagger := none, phase := .awaitPermit } }
      ∧ a.line.Served v.now (a.setPhase v .awaitPermit).line
      ∧ (a.setPhase v .awaitPermit).line.urgentDue = true := by
  have henergizing : a.coord.phase ≠ .energizing := fun h => by rw [h] at hturn; cases hturn
  have heq := a.setPhase_eq_of_no_turn v hne (by rw [hturn]; rfl) henergizing
  have hserved := a.setPhase_served v .awaitPermit
  refine ⟨?_, hserved, ?_⟩
  · have hwants : (a.withCoord (a.coord.enter .awaitPermit)).wantsStandDown v = false := by
      simp [Actors.wantsStandDown, Actors.withCoord, Coordinator.enter]
    have hseq : (a.setPhase v .awaitPermit).seq = a.seq := by
      rw [heq]
      show ({ a.seq with standDown := if (a.withCoord (a.coord.enter .awaitPermit)).wantsStandDown v then _ else none } : Sequencer)
        = a.seq
      rw [hwants]
      exact Sequencer.standDown_none hstand
    have hparts : a.setPhase v .awaitPermit = { a with
        line := (a.setPhase v .awaitPermit).line, seq := (a.setPhase v .awaitPermit).seq
        coord := a.coord.enter .awaitPermit } := by
      rw [heq]
      rfl
    rw [hseq] at hparts
    exact hparts
  · rw [heq]
    exact LineUnit.urgentDue_urgent _ _ (((LineUnit.Served.refl a.line).cadence _).sound hline).nonempty

theorem Actors.leaves_awaitPermit (hne : a.coord.phase ≠ .awaitPermit) (hturn : a.coord.phase.inTurn = false) :
    a.Leaves v (a.enterAwaitPermit v) := by
  obtain ⟨heq, hserved, hdue⟩ := Actors.setPhase_awaitPermit (v := v) hline hstand hne hturn
  unfold Actors.enterAwaitPermit
  generalize (a.setPhase v .awaitPermit).line = l at heq hserved hdue
  rw [heq]
  set b : Actors := { a with
    line := l, coord := { a.coord with quietStart := none, stagger := none, phase := .awaitPermit } } with hb
  have hsame : b.authorityHolds v = a.authorityHolds v := by
    obtain ⟨hstuck, hmute⟩ := hserved.leave
    unfold Actors.authorityHolds Actors.keyAuthority LineUnit.muted
    rw [show b.line.stuck = a.line.stuck from hstuck, show b.line.mute = a.line.mute from hmute]
  by_cases h : a.authorityHolds v = true
  · rw [Actors.checkAuthority_of_holds rfl (hsame.trans h)]
    have hleaves := Actors.leaves_bidding (a := b) (v := v) (hserved.sound hline) hstand (by exact nofun) (by exact nofun)
      (hsame.trans h)
    refine ⟨hleaves.eq.trans ?_, hserved.trans hleaves.served, hleaves.due, hleaves.asked⟩
    rw [hsame]
  · rw [Actors.checkAuthority_of_not fun _ => by rw [hsame]; exact Bool.eq_false_iff.mpr h]
    refine ⟨?_, hserved, hdue, nofun⟩
    rw [if_neg h]

theorem Actors.leaves_endStagger (hphase : a.coord.phase = .backoff) : a.Leaves v (a.endStagger v) := by
  unfold Actors.endStagger
  split
  · next h => exact Actors.leaves_bidding hline hstand (by rw [hphase]; exact nofun) (by rw [hphase]; exact nofun) h
  · exact Actors.leaves_awaitPermit hline hstand (by rw [hphase]; exact nofun) (by rw [hphase]; rfl)

end

/-! ### The limit, the key and the authority as the claims write them -/

theorem View.limit_eq (v : View) : v.limit = if v.scanner.active 8 = true ∨ v.straps.kmx = 0 then 1 else 2 := by
  unfold View.limit
  cases v.scanner.active 8 with
  | true => rfl
  | false => simp

/-- The phase a wait is left for, by the authority the claims write out. -/
theorem Actors.authority_phase (a : Actors) (v : View) :
    (if a.authorityHolds v = true then Phase.bidding else .awaitPermit) =
      if ((a.coord.permit = true ∧ a.line.stuck = false) ∨ (v.scanner.active 7 = true ∧ a.coord.keyWithheld = false))
        ∧ a.line.mute = none ∧ v.scanner.fault = false then .bidding else .awaitPermit := by
  simp only [a.authorityHolds_iff v]

/-! ### The comparison of BACKOFF (R164) -/

/-- What a comparison of BACKOFF does, with `claimers` claimers against `limit`: the stagger stopped, going on, begun, or ended
at once. -/
structure Actors.Compared (a : Actors) (v : View) (b : Actors) : Prop where
  eq : b = { a with line := b.line, coord := b.coord }
  served : a.line.Served v.now b.line
  stops : v.limit ≤ claimers v.peers → b.coord = { a.coord with stagger := none }
  goesOn : claimers v.peers < v.limit → a.coord.stagger.isSome = true → b.coord = a.coord
  starts : claimers v.peers < v.limit → a.coord.stagger = none → v.key % 8 ≠ 0 →
    b.coord = { a.coord with stagger := some (v.now + BitVec.ofNat 32 (v.key % 8 * 250)) }
  leaves : claimers v.peers < v.limit → a.coord.stagger = none → v.key % 8 = 0 → a.Leaves v b

theorem Actors.compared_compareBackoff {a : Actors} {v : View} (hline : a.line.Sound) (hstand : a.seq.standDown = none)
    (hphase : a.coord.phase = .backoff) : a.Compared v (a.compareBackoff v) := by
  have hzero : staggerOf v.key = 0 ↔ v.key % 8 = 0 := by
    unfold staggerOf staggerStep
    omega
  unfold Actors.compareBackoff
  rw [if_neg (not_not.mpr hphase)]
  split
  · next hlimit => exact ⟨rfl, .refl _, fun _ => rfl, fun h => absurd hlimit (Nat.not_le.mpr h), fun h => absurd hlimit (Nat.not_le.mpr h),
      fun h => absurd hlimit (Nat.not_le.mpr h)⟩
  · next hlimit =>
    split
    · next hsome =>
      have hnot : a.coord.stagger ≠ none := Option.isSome_iff_ne_none.mp hsome
      exact ⟨rfl, .refl _, fun h => absurd h hlimit, fun _ _ => rfl, fun _ h => absurd h hnot, fun _ h => absurd h hnot⟩
    · next hnone =>
      split
      · next hat =>
        have hleaves := Actors.leaves_endStagger (v := v) hline hstand hphase
        exact ⟨by rw [hleaves.eq], hleaves.served, fun h => absurd h hlimit, fun _ h => absurd h hnone,
          fun _ _ h => absurd (hzero.mp hat) h, fun _ _ _ => hleaves⟩
      · next hat => exact ⟨rfl, .refl _, fun h => absurd h hlimit, fun _ h => absurd h hnone, fun _ _ _ => rfl,
          fun _ _ h => absurd (hzero.mpr h) hat⟩

theorem Actors.Compared.turn {a b : Actors} {v : View} (h : a.Compared v b) :
    b.coord.claimPending = a.coord.claimPending
      ∧ (b.coord.phase = a.coord.phase ∨ b.coord.phase = .bidding ∨ b.coord.phase = .awaitPermit) := by
  rcases Nat.lt_or_ge (claimers v.peers) v.limit with hbelow | hlimit
  · cases hstagger : a.coord.stagger with
    | some st =>
      rw [h.goesOn hbelow (by rw [hstagger]; rfl)]
      exact ⟨rfl, .inl rfl⟩
    | none =>
      by_cases hkey : v.key % 8 = 0
      · rw [(h.leaves hbelow hstagger hkey).eq]
        refine ⟨rfl, .inr ?_⟩
        dsimp only
        split
        · exact .inl rfl
        · exact .inr rfl
      · rw [h.starts hbelow hstagger hkey]
        exact ⟨rfl, .inl rfl⟩
  · rw [h.stops hlimit]
    exact ⟨rfl, .inl rfl⟩

/-- What a comparison of BACKOFF leaves of a state, `utility` the reading of input 8 it is made with. -/
def State.BackoffCompared (s t : State) (utility : Bool) : Prop :=
  t = { s with
      peers := t.peers, scanner := t.scanner
      act := { s.act with line := t.act.line, coord := t.act.coord } }
    ∧ ((if utility ∨ s.straps.kmx = 0 then 1 else 2) ≤ claimers t.peers → t.act.coord = { s.act.coord with stagger := none })
    ∧ (claimers t.peers < (if utility ∨ s.straps.kmx = 0 then 1 else 2) → s.act.coord.stagger.isSome →
      t.act.coord = s.act.coord)
    ∧ (claimers t.peers < (if utility ∨ s.straps.kmx = 0 then 1 else 2) → s.act.coord.stagger = none →
      (s.straps.rgp.toNat * 32 + s.straps.stn.toNat) % 8 ≠ 0 →
      t.act.coord = { s.act.coord with
        stagger := some (s.clock + BitVec.ofNat 32 ((s.straps.rgp.toNat * 32 + s.straps.stn.toNat) % 8 * 250)) })
    ∧ (claimers t.peers < (if utility ∨ s.straps.kmx = 0 then 1 else 2) → s.act.coord.stagger = none →
      (s.straps.rgp.toNat * 32 + s.straps.stn.toNat) % 8 = 0 →
      t.act.coord = { s.act.coord with
        phase := if ((s.act.coord.permit ∧ s.act.line.stuck = false) ∨ (s.scanner.active 7 ∧ s.act.coord.keyWithheld = false))
          ∧ s.act.line.mute = none ∧ s.scanner.fault = false then .bidding else .awaitPermit }
      ∧ t.act.line.urgentDue ∧ (t.act.coord.phase = .bidding → t.act.line.restartAsked .bid))

theorem State.backoffCompared {s : State} {peers : List PeerRecord} {scanner : Scanner} {l : LineUnit} {b : Actors}
    (h : ({ s.act with line := l } : Actors).Compared ({ s with peers := peers, scanner := scanner } : State).view b)
    (hquiet : s.act.coord.quietStart = none) (hstuck : l.stuck = s.act.line.stuck) (hmute : l.mute = s.act.line.mute)
    (hkey : scanner.active 7 = s.scanner.active 7) (hfault : scanner.fault = s.scanner.fault) :
    s.BackoffCompared { s with peers := peers, scanner := scanner, act := b } (scanner.active 8) := by
  have hlimit := View.limit_eq ({ s with peers := peers, scanner := scanner } : State).view
  unfold State.BackoffCompared
  rw [show (if scanner.active 8 = true ∨ s.straps.kmx = 0 then 1 else 2) = _ from hlimit.symm]
  refine ⟨?_, h.stops, h.goesOn, h.starts, fun hbelow hnone hzero => ?_⟩
  · have heq := h.eq
    generalize b.line = line at heq ⊢
    generalize b.coord = coord at heq ⊢
    rw [heq]
  · have hleaves := h.leaves hbelow hnone hzero
    refine ⟨?_, hleaves.due, hleaves.asked⟩
    show b.coord = _
    rw [hleaves.eq, Actors.authority_phase]
    show ({ s.act.coord with
      quietStart := none, stagger := none
      phase := if ((s.act.coord.permit = true ∧ l.stuck = false) ∨ (scanner.active 7 = true ∧ s.act.coord.keyWithheld = false))
        ∧ l.mute = none ∧ scanner.fault = false then .bidding else .awaitPermit } : Coordinator) = _
    rw [hstuck, hmute, hkey, hfault]
    exact Coordinator.waits_none hquiet hnone _

/-! ### The record written in BACKOFF -/

/-- What BACKOFF gives of a sound state. -/
theorem State.Sound.backoff {s : State} (h : s.Sound) (hphase : s.act.coord.phase = .backoff) :
    s.act.line.Sound ∧ s.act.seq.standDown = none ∧ s.act.coord.quietStart = none ∧ s.act.coord.step = .none
      ∧ s.act.coord.claimPending = false ∧ s.startup.state = .running := by
  obtain ⟨-, -, hline, -, -, -, -, -, -, -, hcoord, ⟨hhold, -⟩, hjudged, -, ⟨hrunning, -⟩⟩ := h
  refine ⟨hline, s.standDown_of_phase hjudged (by rw [hphase]; exact nofun), hcoord.quietStart_of_phase (by rw [hphase]; exact nofun),
    ?_, ?_, ?_⟩
  · by_contra hne
    rw [hcoord.1 hne] at hphase
    cases hphase
  · by_contra hne
    obtain ⟨-, -, hpending, -⟩ := hcoord
    rw [(hpending (by simpa using hne)).1] at hphase
    cases hphase
  · refine hrunning.mpr ?_
    by_contra hne
    rw [hhold.mp (by simpa using hne)] at hphase
    cases hphase

/-- A record written in a calm sound BACKOFF leads to the comparison alone. -/
theorem State.Sound.withRecord_in_backoff {s : State} (h : s.Sound) (hcalm : s.assessor.detector = .calm)
    (hphase : s.act.coord.phase = .backoff) (l : LineUnit) (n : Nat) (r : PeerRecord) :
    ({ s with act := { s.act with line := l } } : State).withRecord n r = { s with
      peers := s.peers.set n r
      act := ({ s.act with line := l } : Actors).compareBackoff ({ s with peers := s.peers.set n r } : State).view } := by
  obtain ⟨htarget, hmet⟩ := h.calm hcalm
  obtain ⟨-, -, -, hstep, -⟩ := h.backoff hphase
  have hformed : ({ s.act with line := l } : Actors).formTarget ({ s with peers := s.peers.set n r } : State).view
      = { s.act with line := l } :=
    Actors.formTarget_of_calm (a := { s.act with line := l }) hcalm htarget hmet
      (by show s.act.coord.step ≠ _; rw [hstep]; exact nofun)
  have hpeers : ({ s.act with line := l } : Actors).onPeers ({ s with peers := s.peers.set n r } : State).view = _ :=
    congrArg (fun a => Actors.compareBackoff a ({ s with peers := s.peers.set n r } : State).view) hformed
  exact congrArg (State.withAct _) hpeers

/-- The comparison a record leads to. -/
theorem State.Sound.compared {s : State} (h : s.Sound) (hphase : s.act.coord.phase = .backoff) {l : LineUnit} (hl : l.Sound)
    (hstuck : l.stuck = s.act.line.stuck) (hmute : l.mute = s.act.line.mute) (peers : List PeerRecord) :
    s.BackoffCompared { s with
      peers := peers
      act := ({ s.act with line := l } : Actors).compareBackoff ({ s with peers := peers } : State).view } (s.scanner.active 8)
    ∧ (({ s.act with line := l } : Actors).compareBackoff ({ s with peers := peers } : State).view).drv = s.act.drv
    ∧ ∀ k, (({ s.act with line := l } : Actors).compareBackoff ({ s with peers := peers } : State).view).onClaim
          ({ s with peers := peers } : State).view k
        = ({ s.act with line := l } : Actors).compareBackoff ({ s with peers := peers } : State).view := by
  obtain ⟨-, hstand, hquiet, -, hpending, -⟩ := h.backoff hphase
  have hcompared := Actors.compared_compareBackoff (a := { s.act with line := l })
    (v := ({ s with peers := peers } : State).view) hl hstand hphase
  refine ⟨State.backoffCompared hcompared hquiet hstuck hmute rfl rfl, by rw [hcompared.eq], fun k => ?_⟩
  obtain ⟨hkept, hturn⟩ := hcompared.turn
  refine if_neg ?_
  rw [hkept, show ({ s.act with line := l } : Actors).coord.claimPending = false from hpending]
  rcases hturn with hturn | hturn | hturn
  · rw [hturn]
    simp [hphase]
  · simp [hturn]
  · simp [hturn]

theorem State.Sound.expirePeer_in_backoff {s : State} (h : s.Sound) (hcalm : s.assessor.detector = .calm)
    (hphase : s.act.coord.phase = .backoff) (peer : BitVec 5) (due : PeerRecord → Bool) (f : PeerRecord → PeerRecord)
    (hchanges : ∀ r, due r = true → f r ≠ r) :
    ∃ t, (s.event fun s => s.expirePeer peer due f) = t ∧ (t.peers = s.peers → t = s)
      ∧ (t.peers ≠ s.peers → s.BackoffCompared t (s.scanner.active 8)) := by
  have hidle (hsame : s.expirePeer peer due f = s) : ∃ t, (s.event fun s => s.expirePeer peer due f) = t
      ∧ (t.peers = s.peers → t = s) ∧ (t.peers ≠ s.peers → s.BackoffCompared t (s.scanner.active 8)) :=
    ⟨s, (s.event_of_drv _ (by rw [hsame])).trans hsame, fun _ => rfl, fun hne => absurd rfl hne⟩
  cases hrecord : s.peerRecord peer with
  | none =>
    refine hidle ?_
    unfold State.expirePeer
    rw [hrecord]
  | some r =>
    by_cases hdue : due r = true
    · have hwritten : s.expirePeer peer due f = { s with
          peers := s.peers.set peer.toNat (f r)
          act := ({ s.act with line := s.act.line } : Actors).compareBackoff
            ({ s with peers := s.peers.set peer.toNat (f r) } : State).view } := by
        unfold State.expirePeer
        rw [hrecord]
        exact (if_pos hdue).trans (h.withRecord_in_backoff hcalm hphase s.act.line peer.toNat (f r))
      obtain ⟨hcompared, hdrv, -⟩ := h.compared hphase (h.backoff hphase).1 rfl rfl (s.peers.set peer.toNat (f r))
      refine ⟨_, (s.event_of_drv _ (by rw [hwritten]; exact hdrv)).trans hwritten, fun hsame => ?_, fun _ => hcompared⟩
      have hget : s.peers[peer.toNat]? = some r := by
        unfold State.peerRecord at hrecord
        split at hrecord
        · cases hrecord
        · exact hrecord
      have hset : (s.peers.set peer.toNat (f r))[peer.toNat]? = some (f r) := by
        obtain ⟨hlt, -⟩ := List.getElem?_eq_some_iff.mp hget
        simp [hlt]
      rw [show s.peers.set peer.toNat (f r) = s.peers from hsame, hget] at hset
      exact absurd (Option.some.inj hset).symm (hchanges r hdue)
    · refine hidle ?_
      unfold State.expirePeer
      rw [hrecord]
      exact if_neg hdue

end Sys2Proof.Machine
end

section
/-! PROOFS. The ends of the waits before a turn: the quiet wait, the stagger of BACKOFF, and the bid window (R153, R160, R164). -/

namespace Sys2Proof.Machine

/-! ### QUIET_WAIT_EXPIRY and STAGGER_EXPIRY -/

theorem expired_of_all {now : Stamp} {expiry : Option Stamp} (h : expiry.all (fun e => !reached now e) = true) :
    expired now expiry = false := by
  cases expiry with
  | none => rfl
  | some e => simpa [expired] using h

/-- A wait whose end leads to leave. -/
theorem State.Sound.leaves {s : State} (h : s.Sound) (hphase : s.act.coord.phase = .quietWait ∨ s.act.coord.phase = .backoff)
    {b : Actors} (hleaves : s.act.Leaves s.view b) :
    ∃ t, s.withAct b = t ∧ t.act.drv = s.act.drv ∧ t = { s with act := { s.act with
        line := t.act.line
        coord := { s.act.coord with
          quietStart := none, stagger := none
          phase :=
            if ((s.act.coord.permit ∧ s.act.line.stuck = false) ∨ (s.scanner.active 7 ∧ s.act.coord.keyWithheld = false))
              ∧ s.act.line.mute = none ∧ s.scanner.fault = false then .bidding else .awaitPermit } } }
      ∧ t.act.line.urgentDue ∧ t.act.coord.claimPending = false ∧ t.act.coord.bidWindow = none
      ∧ (t.act.coord.phase = .bidding → t.act.line.restartAsked .bid) := by
  have hbidding : s.act.coord.phase ≠ .bidding := by rcases hphase with h | h <;> rw [h] <;> exact nofun
  obtain ⟨-, -, -, -, -, -, -, -, -, -, ⟨-, -, hpending, hwindow, -⟩, -⟩ := h
  have hnotPending : s.act.coord.claimPending = false := by
    by_contra hne
    exact hbidding (hpending (by simpa using hne)).1
  have hnoWindow : s.act.coord.bidWindow = none := by
    by_contra hne
    exact hbidding (hwindow (Option.isSome_iff_ne_none.mpr hne)).1
  have heq := hleaves.eq
  rw [Actors.authority_phase] at heq
  refine ⟨_, rfl, by rw [show (s.withAct b).act = b from rfl, heq], congrArg s.withAct heq, hleaves.due, ?_, ?_, hleaves.asked⟩
  · rw [show (s.withAct b).act = b from rfl, heq]
    exact hnotPending
  · rw [show (s.withAct b).act = b from rfl, heq]
    exact hnoWindow

theorem PeerRecord.dropBid_ne {r : PeerRecord} {now : Stamp} (h : olderThan now r.bid bidLife = true) : r.dropBid ≠ r := by
  intro hsame
  have hnone : r.bid = none := by rw [← hsame]; rfl
  rw [hnone] at h
  cases h

theorem PeerRecord.spendClaim_ne {r : PeerRecord} {now : Stamp} (h : ranFor now r.claim claimLife = true) :
    r.spendClaim ≠ r := by
  intro hsame
  have hnone : r.claim = none := by rw [← hsame]; rfl
  rw [hnone] at h
  cases h

theorem PeerRecord.toQuiet_ne {r : PeerRecord} (h : r.liveness = .live) : r.toQuiet ≠ r := fun hsame => by
  have hquiet : r.liveness = .quiet := by rw [← hsame]; rfl
  rw [h] at hquiet
  cases hquiet

theorem PeerRecord.toLost_ne {r : PeerRecord} (h : r.liveness = .quiet) : r.toLost ≠ r := fun hsame => by
  have hlost : r.liveness = .lost := by rw [← hsame]; rfl
  rw [h] at hlost
  cases hlost

/-- Settles O44: the ends of the two waits, nothing ahead of them, and the comparison of BACKOFF at a telegram, an expiry and a
change of input 8. -/
theorem calmAndStaggerLeadToLeave : Obligations.CalmAndStaggerLeadToLeave := by
  refine ⟨fun s st sound hphase hst hran => ?_, fun s st sound hphase hst hran => ?_, fun s hnot => ?_, fun s hnot => ?_,
    fun s k sender group sound hphase hcalm hears hsender hother hgroup => ?_,
    fun s sender payload sound hphase hcalm hears hsender hother hrange => ?_,
    fun s peer c sound hphase hcalm hc => ?_,
    fun s frame c sound hphase hcalm hscanning hgood hfault hinput hcandidate hagreement hothers => ?_⟩
  · have hline : s.act.line.Sound := by
      obtain ⟨-, -, hline, -⟩ := sound
      exact hline
    have hstand : s.act.seq.standDown = none := by
      obtain ⟨-, -, -, -, -, -, -, -, -, -, -, -, hjudged, -⟩ := sound
      exact s.standDown_of_phase hjudged (by rw [hphase]; exact nofun)
    have hdue : (s.act.coord.phase = .quietWait && ranFor s.clock s.act.coord.quietStart (profileOf s.straps).quiet) = true := by
      rw [hst, ranFor_some]
      simp [hphase, hran]
    obtain ⟨t, ht, hdrv, hspec⟩ := sound.leaves (.inl hphase) (Actors.leaves_awaitPermit (v := s.view) hline hstand
      (by rw [hphase]; exact nofun) (by rw [hphase]; rfl))
    exact ⟨t, congrArg Host.Outcome.next (s.eventWhen_to hdue _ ht hdrv), hspec⟩
  · obtain ⟨hline, hstand, -⟩ := sound.backoff hphase
    have hdue : (s.act.coord.phase = .backoff && expired s.clock s.act.coord.stagger) = true := by
      rw [hst, hphase]
      exact hran
    obtain ⟨t, ht, hdrv, hspec⟩ := sound.leaves (.inr hphase) (Actors.leaves_endStagger (v := s.view) hline hstand hphase)
    exact ⟨t, congrArg Host.Outcome.next (s.eventWhen_to hdue _ ht hdrv), hspec⟩
  · refine congrArg Host.Outcome.next (State.eventWhen_of_not _ _ ?_)
    rcases hnot with h | h
    · simp [h]
    · simp [ranFor_of_all h]
  · refine congrArg Host.Outcome.next (State.eventWhen_of_not _ _ ?_)
    rcases hnot with h | h
    · simp [h]
    · simp [expired_of_all h]
  · obtain ⟨bytes, hexec, hheard, -⟩ := s.exec_restartCommand hears k (stationSender_lt hsender) hgroup
    have hl : (s.act.line.heard s.clock bytes).Sound := (sound.backoff hphase).1.heard s.clock bytes
    obtain ⟨hcompared, hdrv, hclaim⟩ := sound.compared hphase hl rfl rfl (s.peers.set sender.toNat
      (((recordOf s.peers sender.toNat).hear s.clock (BitVec.ofNat 2 group.toNat)).takeRestart s.clock k))
    have hwritten := sound.withRecord_in_backoff hcalm hphase (s.act.line.heard s.clock bytes) sender.toNat
      (((recordOf s.peers sender.toNat).hear s.clock (BitVec.ofNat 2 group.toNat)).takeRestart s.clock k)
    set peers := s.peers.set sender.toNat
      (((recordOf s.peers sender.toNat).hear s.clock (BitVec.ofNat 2 group.toNat)).takeRestart s.clock k)
    have htake : s.hearBytes bytes = { s with
        peers := peers
        act := ({ s.act with line := s.act.line.heard s.clock bytes } : Actors).compareBackoff
          ({ s with peers := peers } : State).view } := by
      rw [hheard.trans (if_neg hother)]
      refine Eq.trans ?_ hwritten
      dsimp only
      split
      · refine (congrArg (fun u : State => u.acting fun v a =>
          a.onClaim v (restartKey (BitVec.ofNat 2 group.toNat) sender.toNat)) hwritten).trans (Eq.trans ?_ hwritten.symm)
        exact congrArg (State.withAct _) (hclaim (restartKey (BitVec.ofNat 2 group.toNat) sender.toNat))
      · rfl
    exact ⟨_, hexec.trans (congrArg Host.Outcome.next ((s.event_of_drv _ (by rw [htake]; exact hdrv)).trans htake)), hcompared⟩
  · obtain ⟨p, hdecode⟩ := Option.isSome_iff_exists.mp hrange
    have hheard := (s.hear_state hears (stationSender_lt hsender) hdecode).trans (if_neg hother)
    set bytes := onTheLine (frameBytes 1 sender payload.toList)
    have hl : (s.act.line.heard s.clock bytes).Sound := (sound.backoff hphase).1.heard s.clock bytes
    obtain ⟨hcompared, hdrv, -⟩ := sound.compared hphase hl rfl rfl (s.peers.set sender.toNat
      (((recordOf s.peers sender.toNat).hear s.clock p.group).takeState s.clock p))
    have htake := hheard.trans (sound.withRecord_in_backoff hcalm hphase (s.act.line.heard s.clock bytes) sender.toNat
      (((recordOf s.peers sender.toNat).hear s.clock p.group).takeState s.clock p))
    exact ⟨_, congrArg Host.Outcome.next ((s.event_of_drv _ (by rw [htake]; exact hdrv)).trans htake), hcompared⟩
  · have hexpires := sound.expirePeer_in_backoff hcalm hphase peer
    simp only [List.mem_cons, List.not_mem_nil, or_false] at hc
    rcases hc with rfl | rfl | rfl | rfl
    · obtain ⟨t, ht, hspec⟩ := hexpires (fun r => r.liveness = .live && olderThan s.clock r.lastHeard quietAge)
        PeerRecord.toQuiet fun r hdue => PeerRecord.toQuiet_ne (by simpa using (Bool.and_eq_true_iff.mp hdue).1)
      exact ⟨t, congrArg Host.Outcome.next ht, hspec⟩
    · obtain ⟨t, ht, hspec⟩ := hexpires (fun r => r.liveness = .quiet && olderThan s.clock r.lastHeard lostAge)
        PeerRecord.toLost fun r hdue => PeerRecord.toLost_ne (by simpa using (Bool.and_eq_true_iff.mp hdue).1)
      exact ⟨t, congrArg Host.Outcome.next ht, hspec⟩
    · obtain ⟨t, ht, hspec⟩ := hexpires (fun r => olderThan s.clock r.bid bidLife) PeerRecord.dropBid
        fun r hdue => PeerRecord.dropBid_ne hdue
      exact ⟨t, congrArg Host.Outcome.next ht, hspec⟩
    · obtain ⟨t, ht, hspec⟩ := hexpires (fun r => ranFor s.clock r.claim claimLife) PeerRecord.spendClaim
        fun r hdue => PeerRecord.spendClaim_ne hdue
      exact ⟨t, congrArg Host.Outcome.next ht, hspec⟩
  · obtain ⟨hline, hstand, hquiet, -, -, hrunning⟩ := sound.backoff hphase
    have hscanner : s.scanner.Sound := by
      obtain ⟨-, -, -, -, -, hscanner, -⟩ := sound
      exact hscanner
    have hchanges : c.value ≠ .ofLevel (frame.getLsbD 8) :=
      (hscanner.2.1 c (List.mem_of_getElem? hinput)).2 _ hcandidate
    obtain ⟨hscanned, hvalue, hkept, hcalmed⟩ := State.scanned_one hscanner.1 hgood hfault (by decide) hinput hchanges hcandidate
      hagreement hothers
    set sc := s.scanner.complete frame
    have hcompared := Actors.compared_compareBackoff (a := s.act) (v := ({ s with scanner := sc } : State).view) hline hstand
      hphase
    have hkey : sc.active 7 = s.scanner.active 7 := by
      unfold Scanner.active
      rw [hkept 7 (by decide) (by decide)]
    have hdrv : (s.scanned frame).act.drv = s.act.drv := by
      rw [hscanned]
      show (s.act.compareBackoff _).drv = s.act.drv
      rw [hcompared.eq]
    refine ⟨_, (State.exec_scan hscanning frame).trans (congrArg Host.Outcome.next ?_), Scanner.active_of_value hvalue,
      State.backoffCompared (peers := s.peers) (l := s.act.line) hcompared hquiet rfl rfl hkey (hcalmed.trans hfault.symm)⟩
    rw [State.completeScan_of_running (by rw [hrunning]; exact nofun),
      State.endEvent_of_calm _ _ (by rw [hdrv]) (by rw [hdrv]), hscanned]
    rfl

/-! ### BID_WINDOW_EXPIRY (R160) -/

/-- A change of phase ends in an urgent notice. -/
theorem Actors.setPhase_urgentDue {a : Actors} (v : View) {phase : Phase} (hline : a.line.Sound) (hne : a.coord.phase ≠ phase) :
    (a.setPhase v phase).line.urgentDue = true := by
  have hturn : a.line.Served v.now (if a.coord.phase.inTurn && phase.standsAside then a.withdrawClaim v else a).line := by
    split
    · exact (a.reach_withdrawClaim v).line
    · exact .refl _
  unfold Actors.setPhase
  rw [if_neg hne]
  dsimp only
  generalize (if a.coord.phase.inTurn && phase.standsAside then a.withdrawClaim v else a) = b at hturn ⊢
  have hleft : a.line.Served v.now (if a.coord.phase = .energizing then b.leaveEnergizing v else b).line := by
    split
    · rwa [Actors.leaveEnergizing_eq]
    · exact hturn
  generalize (if a.coord.phase = .energizing then b.leaveEnergizing v else b) = c at hleft ⊢
  exact LineUnit.urgentDue_urgent _ _ ((hleft.cadence _).sound hline).nonempty

/-- A change of phase ends with the stand-down timer judged (R114). -/
theorem Actors.standDown_setPhase {a : Actors} (v : View) {phase : Phase} (hne : a.coord.phase ≠ phase) :
    (a.setPhase v phase).seq.standDown.isSome = (a.setPhase v phase).wantsStandDown v := by
  unfold Actors.setPhase
  rw [if_neg hne]
  dsimp only
  generalize Actors.withCoord _ _ = c
  exact (c.judge_judged v).2

/-- BACKOFF entered from BIDDING, before its first comparison. -/
theorem Actors.backoff_of_bidding {a : Actors} {v : View} (hphase : a.coord.phase = .bidding) :
    (a.setPhase v .backoff).coord = { a.coord with
        phase := .backoff, stagger := none, quietStart := none, bidWindow := none, contest := none
        claimOutstanding := false, claimPending := false }
      ∧ (a.setPhase v .backoff).drv = a.drv ∧ (a.setPhase v .backoff).seq.standDown = none := by
  refine ⟨?_, a.setPhase_drv v .backoff (by rw [hphase]; exact nofun), ?_⟩
  · rw [Actors.setPhase_coord, Coordinator.moved_of_turn (by rw [hphase]; rfl) rfl]
    rw [if_neg (by rw [hphase]; exact nofun), if_neg (by rw [hphase]; exact nofun)]
  · have hwants : (a.setPhase v .backoff).wantsStandDown v = false := by
      simp [Actors.wantsStandDown, Actors.setPhase_phase]
    have hjudged := Actors.standDown_setPhase (a := a) v (phase := .backoff) (by rw [hphase]; exact nofun)
    rw [hwants] at hjudged
    exact Option.isNone_iff_eq_none.mp (Option.isSome_eq_false_iff.mp hjudged)

/-- Settles O45: the CLAIM, BACKOFF awaiting, BACKOFF with its stagger, and nothing ahead of the window's end. -/
theorem bidWindowEndsInClaimOrBackoff : Obligations.BidWindowEndsInClaimOrBackoff := by
  have hlimit (s : State) : (if s.scanner.active 8 = true ∨ s.straps.kmx = 0 then 1 else 2) = s.view.limit :=
    (View.limit_eq s.view).symm
  have hdue {s : State} {e : Stamp} (hphase : s.act.coord.phase = .bidding) (he : s.act.coord.bidWindow = some e)
      (hreached : reached s.clock e = true) : (s.act.coord.phase = .bidding && expired s.clock s.act.coord.bidWindow) = true := by
    rw [he, hphase]
    exact hreached
  refine ⟨fun s e sound hcoord hphase he hreached hbelow => ?_, fun s e sound hcoord hphase he hreached hclaimers => ?_,
    fun s e sound hcoord hphase he hreached hclaimers hahead => ?_, fun s hnot => ?_⟩
  · rw [hlimit] at hbelow
    refine congrArg Host.Outcome.next (s.eventWhen_to (hdue hphase he hreached) _ (congrArg s.withAct ?_) rfl)
    have hfew : ¬ s.view.limit ≤ claimers s.peers := Nat.not_le.mpr (lt_of_le_of_lt (Nat.le_add_right _ _) hbelow)
    exact (if_neg hfew).trans (if_pos hbelow)
  · rw [hlimit] at hclaimers
    obtain ⟨hmoved, hdrv, -⟩ := Actors.backoff_of_bidding (v := s.view) hphase
    have hend : s.act.endBidWindow s.view = (s.act.setPhase s.view .backoff).withCoord
        { s.act.coord.moved .backoff with stagger := none } :=
      (if_pos hclaimers).trans (s.act.enterBackoff_of_claimers s.view hclaimers)
    refine ⟨_, congrArg Host.Outcome.next (s.eventWhen_to (hdue hphase he hreached) _ (congrArg s.withAct hend) hdrv), rfl, hdrv,
      s.act.setPhase_stage s.view .backoff, Actors.setPhase_urgentDue s.view sound (by rw [hphase]; exact nofun), ?_⟩
    show ({ s.act.coord.moved .backoff with stagger := none } : Coordinator) = _
    rw [← Actors.setPhase_coord s.act s.view, hmoved]
  · rw [hlimit] at hclaimers hahead
    have hne : s.act.coord.phase ≠ .backoff := by rw [hphase]; exact nofun
    obtain ⟨hmoved, hdrv, hstand⟩ := Actors.backoff_of_bidding (v := s.view) hphase
    have hserved := s.act.setPhase_served s.view .backoff
    have hend : s.act.endBidWindow s.view = (s.act.setPhase s.view .backoff).compareBackoff s.view :=
      (if_neg (Nat.not_le.mpr hclaimers)).trans (if_neg (Nat.not_lt.mpr hahead))
    have hline : (s.act.setPhase s.view .backoff).line.Sound := hserved.sound sound
    have hcompared := Actors.compared_compareBackoff (v := s.view) hline hstand (by rw [hmoved])
    have hstagger : (s.act.setPhase s.view .backoff).coord.stagger = none := by rw [hmoved]
    have hnotPending := hcompared.turn
    refine ⟨_, congrArg Host.Outcome.next (s.eventWhen_to (hdue hphase he hreached) _ (congrArg s.withAct hend) ?_), rfl, ?_, ?_,
      hcompared.served.urgentDue hline (Actors.setPhase_urgentDue s.view sound hne), ?_⟩
    · show ((s.act.setPhase s.view .backoff).compareBackoff s.view).drv = _
      rw [hcompared.eq]
      exact hdrv
    · show ((s.act.setPhase s.view .backoff).compareBackoff s.view).drv = _
      rw [hcompared.eq]
      exact hdrv
    · show ((s.act.setPhase s.view .backoff).compareBackoff s.view).seq.stage = _
      rw [hcompared.eq]
      exact s.act.setPhase_stage s.view .backoff
    · show ((s.act.setPhase s.view .backoff).compareBackoff s.view).coord.bidWindow = none ∧ _
      by_cases hzero : s.view.key % 8 = 0
      · have hleaves := hcompared.leaves hclaimers hstagger hzero
        have hsame : (s.act.setPhase s.view .backoff).authorityHolds s.view = s.act.authorityHolds s.view := by
          obtain ⟨hstuck, hmute⟩ := hserved.leave
          unfold Actors.authorityHolds Actors.keyAuthority LineUnit.muted
          rw [hstuck, hmute, hmoved]
        have hcoordEq := congrArg Actors.coord hleaves.eq
        rw [hmoved, hsame] at hcoordEq
        exact ⟨congrArg Coordinator.bidWindow hcoordEq, congrArg Coordinator.claimOutstanding hcoordEq,
          congrArg Coordinator.claimPending hcoordEq, fun h => absurd hzero h, fun _ => congrArg Coordinator.phase hcoordEq⟩
      · have hcoordEq := hcompared.starts hclaimers hstagger hzero
        rw [hmoved] at hcoordEq
        exact ⟨congrArg Coordinator.bidWindow hcoordEq, congrArg Coordinator.claimOutstanding hcoordEq,
          congrArg Coordinator.claimPending hcoordEq,
          fun _ => ⟨congrArg Coordinator.phase hcoordEq, congrArg Coordinator.stagger hcoordEq⟩, fun h => absurd h hzero⟩
  · refine congrArg Host.Outcome.next (State.eventWhen_of_not _ _ ?_)
    rcases hnot with h | h
    · simp [h]
    · simp [expired_of_all h]

end Sys2Proof.Machine
end

section
/-! PROOFS. The energizing steps run to their ends (R167 to R171, R174): the stage lowered, the LEVEL channels released, the
turn ended. -/

namespace Sys2Proof.Machine

/-! ### The release order at QUIESCE (R127) -/

/-- FREEZE and HALTREQ released together. -/
theorem Driver.release_quiesce {d : Driver} (h : d.assertedAbove .quiesce = false) :
    d.releaseLevel .freeze = ({ d with freeze := ⟨.normal, none, d.freeze.failed⟩ }, true)
      ∧ ({ d with freeze := ⟨.normal, none, d.freeze.failed⟩ } : Driver).releaseLevel .haltreq
        = ({ d with freeze := ⟨.normal, none, d.freeze.failed⟩, haltreq := ⟨.normal, none, d.haltreq.failed⟩ }, true) :=
  ⟨Driver.releaseLevel_of_order (id := .freeze) h, Driver.releaseLevel_of_order (id := .haltreq) h⟩

/-- Step C begun with nothing of a higher stage asserted. -/
theorem Actors.beginC_of_order {a : Actors} (v : View) (h : a.drv.assertedAbove .quiesce = false) :
    a.beginC v = { a with
      drv := { a.drv with freeze := ⟨.normal, none, a.drv.freeze.failed⟩, haltreq := ⟨.normal, none, a.drv.haltreq.failed⟩ }
      coord := { a.coord with step := .releaseWait (v.now + 5000) } } := by
  obtain ⟨hfreeze, hhaltreq⟩ := Driver.release_quiesce h
  rw [Actors.beginC_eq]
  unfold Driver.bothReleased Actors.released
  rw [hfreeze, hhaltreq]
  rfl

/-! ### The stage lowered (R112) -/

/-- A lowering in ENERGIZING that calls for no raise. -/
theorem Actors.lower_eq {a : Actors} (v : View) (hphase : a.coord.phase = .energizing)
    (hmet : a.seq.demand.code ≤ a.seq.stage.lowered.code) : a.lower v = { a with
      line := (a.line.setCadence v.now true).urgent v.now
      seq := { a.seq with
        stage := a.seq.stage.lowered, safeWait := a.seq.safeWait && a.seq.stage.lowered = .safe
        grace := if a.seq.stage.lowered.code < 3 then .none else a.seq.grace, standDown := none } } := by
  set b : Actors := a.withSeq { a.seq with
    stage := a.seq.stage.lowered, safeWait := a.seq.safeWait && a.seq.stage.lowered = .safe
    grace := if a.seq.stage.lowered.code < 3 then .none else a.seq.grace } with hb
  have hfast : b.wantsFast v = true := by simp [hb, Actors.wantsFast, Actors.withSeq, hphase, Phase.isFast]
  have hstand : b.wantsStandDown v = false := by simp [hb, Actors.wantsStandDown, Actors.withSeq, hphase]
  have hjudged : b.judge v = { b with line := a.line.setCadence v.now true, seq := { b.seq with standDown := none } } := by
    unfold Actors.judge
    rw [hfast, hstand]
    rfl
  have hlower : a.lower v = ((b.judge v).urgent v).compare v := rfl
  rw [hlower, Actors.compare_of_le]
  · rw [hjudged]
    rfl
  · exact hmet

/-- A sequencer with neither SAFE wait nor grace, at another stage. -/
theorem Sequencer.without_zone {q : Sequencer} (hwait : q.safeWait = false) (hgrace : q.grace = .none) (stage : Stage) :
    ({ q with stage := stage, safeWait := false, grace := .none, standDown := none } : Sequencer)
      = { q with stage := stage, standDown := none } := by
  cases q
  cases hwait
  cases hgrace
  rfl

/-! ### Step D at T = 0 (R171) -/

theorem Driver.stopClose_of_idle {d : Driver} {p : Pdu} (now : Stamp) (hq : (d.pulse (.close p)).state ≠ .queued)
    (hf : (d.pulse (.close p)).state ≠ .firing) : d.stopClose now p = d := by
  unfold Driver.stopClose
  split
  · next h => exact absurd h hq
  · next h => exact absurd h hf
  all_goals rfl

theorem Driver.leaveEnergizing_of_idle {d : Driver} (now : Stamp)
    (h : ∀ p, (d.pulse (.close p)).state ≠ .queued ∧ (d.pulse (.close p)).state ≠ .firing) :
    (d.leaveEnergizing now).1 = d := by
  rw [Driver.leaveEnergizing_fst, Driver.stopClose_of_idle now (h .a).1 (h .a).2, Driver.stopClose_of_idle now (h .b).1 (h .b).2]

/-- The turn ended at WATCH. -/
theorem Actors.endTurn_spec {a : Actors} (v : View) (hline : a.line.Sound) (hphase : a.coord.phase = .energizing)
    (hstage : a.seq.stage = .watch) :
    (a.endTurn v).coord = { a.coord with
        permit := false, keyWithheld := a.coord.keyWithheld || v.scanner.active 7, claimOutstanding := false
        step := .none, holdPending := false, phase := .none, quietStart := none, stagger := none }
      ∧ (a.endTurn v).seq = { a.seq with standDown := none }
      ∧ (a.endTurn v).drv = (a.drv.leaveEnergizing v.now).1
      ∧ (a.endTurn v).line.urgentDue = true ∧ (a.endTurn v).line.restartAsked .done = true := by
  set b : Actors := { a with
    line := a.line.request v.now .done
    coord := { a.coord with
      permit := false, keyWithheld := a.coord.keyWithheld || v.scanner.active 7, claimOutstanding := false } } with hb
  have hsound : b.line.Sound := ((LineUnit.Served.refl a.line).request .done).sound hline
  have hbphase : b.coord.phase = .energizing := hphase
  have hne : b.coord.phase ≠ .none := by rw [hbphase]; exact nofun
  have hend : a.endTurn v = b.setPhase v .none := rfl
  rw [hend]
  refine ⟨?_, ?_, ?_, Actors.setPhase_urgentDue v hsound hne, ?_⟩
  · rw [Actors.setPhase_coord]
    unfold Coordinator.moved
    rw [if_neg hne, hbphase]
    rfl
  · have hwants : (b.setPhase v .none).wantsStandDown v = false := by
      simp [Actors.wantsStandDown, Actors.setPhase_stage, hb, hstage]
    have hstand := Actors.standDown_setPhase (a := b) v hne
    rw [hwants] at hstand
    rw [Actors.setPhase_seq, Option.isNone_iff_eq_none.mp (Option.isSome_eq_false_iff.mp hstand)]
  · rw [Actors.setPhase_drv_eq, if_pos ⟨hbphase, nofun⟩]
  · have hgiven : b.givenUp v .none = b.line := if_neg (by simp [Phase.standsAside])
    have hnoticed := b.noticed_setPhase v hne
    rw [hgiven] at hnoticed
    rw [hnoticed.restartAsked hsound]
    exact LineUnit.restartAsked_request hline.nonempty v.now nofun

/-- Step D at T = 0, from ALERT, with the trip floor clear and nothing of a higher stage asserted. -/
theorem Actors.runD_spec {a : Actors} (v : View) (hline : a.line.Sound) (hphase : a.coord.phase = .energizing)
    (hstage : a.seq.stage = .alert) (htarget : a.seq.target = .watch) (hfloor : a.seq.floor = .watch)
    (hwait : a.seq.safeWait = false) (hgrace : a.seq.grace = .none) (horder : a.drv.assertedAbove .alert = false) :
    (a.runD v).coord = { a.coord with
        permit := false, keyWithheld := a.coord.keyWithheld || v.scanner.active 7, claimOutstanding := false
        step := .none, holdPending := false, phase := .none, quietStart := none, stagger := none }
      ∧ (a.runD v).seq = { a.seq with stage := .watch, standDown := none }
      ∧ (a.runD v).drv = (({ a.drv with
          advise := ⟨.normal, none, a.drv.advise.failed⟩
          lift := ⟨.normal, none, a.drv.lift.failed⟩ } : Driver).leaveEnergizing v.now).1
      ∧ (a.runD v).line.urgentDue = true ∧ (a.runD v).line.restartAsked .done = true := by
  obtain ⟨hadvise, hlift⟩ := Driver.release_alert horder
  set b : Actors := { a with
    drv := { a.drv with advise := ⟨.normal, none, a.drv.advise.failed⟩, lift := ⟨.normal, none, a.drv.lift.failed⟩ }
    coord := { a.coord with step := .none } } with hb
  have hreleased : (a.released .advise .lift).inStep .none = b := by
    unfold Actors.released
    rw [hadvise, hlift]
    rfl
  have hboth : a.drv.bothReleased .advise .lift = true := by
    unfold Driver.bothReleased
    rw [hadvise, hlift]
    rfl
  have hmet : b.seq.demand.code ≤ b.seq.stage.lowered.code := by
    show (a.seq.target.higher a.seq.floor).code ≤ a.seq.stage.lowered.code
    rw [htarget, hfloor, hstage]
    decide
  have hlowered := Actors.lower_eq (a := b) v hphase hmet
  have hlowseq : (b.lower v).seq = { a.seq with stage := .watch, standDown := none } := by
    rw [hlowered]
    show ({ a.seq with
      stage := a.seq.stage.lowered, safeWait := a.seq.safeWait && a.seq.stage.lowered = .safe
      grace := if a.seq.stage.lowered.code < 3 then .none else a.seq.grace, standDown := none } : Sequencer) = _
    rw [hwait, hgrace, hstage, ite_self]
    exact Sequencer.without_zone hwait hgrace .watch
  have hlowline : (b.lower v).line.Sound := by
    rw [hlowered]
    exact ((LineUnit.Served.refl a.line).cadence true).urgent.sound hline
  have hlowcoord : (b.lower v).coord = b.coord := by rw [hlowered]
  have hlowphase : (b.lower v).coord.phase = .energizing := by rw [hlowcoord]; exact hphase
  have hrun : a.runD v = (b.lower v).endTurn v := by
    rw [Actors.runD_eq, if_pos hboth, hreleased, if_pos hlowphase]
  obtain ⟨hcoord, hseq, hdrv, hdue, hasked⟩ := (b.lower v).endTurn_spec v hlowline hlowphase (by rw [hlowseq])
  rw [hrun]
  refine ⟨?_, ?_, ?_, hdue, hasked⟩
  · rw [hcoord, hlowcoord]
  · rw [hseq, hlowseq]
  · rw [hdrv, hlowered]

end Sys2Proof.Machine
end

section
/-! PROOFS. POWER_SETTLE_EXPIRY and RELEASE_WAIT_EXPIRY (R169, R170, R174): the stage lowered, and what follows it. -/

namespace Sys2Proof.Machine

/-! ### AWAIT_PERMIT entered from ENERGIZING (R152, R157) -/

/-- A turn in ENERGIZING given up for AWAIT_PERMIT, left at once where authority stands. -/
theorem Actors.awaitPermit_of_energizing {a : Actors} (v : View) (hline : a.line.Sound) (hphase : a.coord.phase = .energizing) :
    (a.enterAwaitPermit v).coord = { a.coord with
        phase := if a.authorityHolds v = true then .bidding else .awaitPermit
        quietStart := none, stagger := none, claimOutstanding := false, claimPending := false, bidWindow := none
        contest := none, step := .none, holdPending := false }
      ∧ (a.enterAwaitPermit v).seq = { a.seq with standDown := none }
      ∧ (a.enterAwaitPermit v).line.urgentDue = true
      ∧ ((a.enterAwaitPermit v).coord.phase = .bidding → (a.enterAwaitPermit v).line.restartAsked .bid = true) := by
  have hne : a.coord.phase ≠ .awaitPermit := by rw [hphase]; exact nofun
  have hserved := a.setPhase_served v .awaitPermit
  have hcoord : (a.setPhase v .awaitPermit).coord = { a.coord with
        phase := .awaitPermit, quietStart := none, stagger := none
        claimOutstanding := false, claimPending := false, bidWindow := none, contest := none
        step := .none, holdPending := false } := by
    rw [Actors.setPhase_coord, Coordinator.moved_of_turn (by rw [hphase]; rfl) rfl, if_pos hphase, if_pos hphase]
  have hseq : (a.setPhase v .awaitPermit).seq = { a.seq with standDown := none } := by
    have hwants : (a.setPhase v .awaitPermit).wantsStandDown v = false := by
      simp [Actors.wantsStandDown, Actors.setPhase_phase]
    have hstand := Actors.standDown_setPhase (a := a) v hne
    rw [hwants] at hstand
    rw [Actors.setPhase_seq, Option.isNone_iff_eq_none.mp (Option.isSome_eq_false_iff.mp hstand)]
  have hdue := Actors.setPhase_urgentDue v hline hne
  have hsame : (a.setPhase v .awaitPermit).authorityHolds v = a.authorityHolds v := by
    obtain ⟨hstuck, hmute⟩ := hserved.leave
    unfold Actors.authorityHolds Actors.keyAuthority LineUnit.muted
    rw [hstuck, hmute, hcoord]
  unfold Actors.enterAwaitPermit
  by_cases h : a.authorityHolds v = true
  · obtain ⟨-, hbidDue, hasked⟩ := LineUnit.Sound.bid (hserved.sound hline) v.now
    rw [Actors.checkAuthority_of_holds (by rw [hcoord]) (hsame.trans h), Actors.enterBidding_eq _ _ (by rw [hcoord]; exact nofun)
      (by rw [hcoord]; exact nofun), if_pos h]
    refine ⟨?_, ?_, hbidDue, fun _ => hasked⟩
    · rw [hcoord]
      rfl
    · rw [hseq]
  · rw [Actors.checkAuthority_of_not fun _ => by rw [hsame]; exact Bool.eq_false_iff.mpr h, if_neg h]
    refine ⟨hcoord, hseq, hdue, fun hbidding => ?_⟩
    rw [hcoord] at hbidding
    cases hbidding

/-! ### A wait of an energizing step (R169, R170) -/

/-- What a sound state holds at an energizing step below SAFE. -/
structure State.AtStep (s : State) (stage : Stage) : Prop where
  line : s.act.line.Sound
  atStage : s.act.seq.stage = stage
  standDown : s.act.seq.standDown = none
  safeWait : s.act.seq.safeWait = false
  grace : stage.code < 3 → s.act.seq.grace = .none
  claimPending : s.act.coord.claimPending = false
  bidWindow : s.act.coord.bidWindow = none
  contest : s.act.coord.contest = none
  stagger : s.act.coord.stagger = none
  quietStart : s.act.coord.quietStart = none

theorem State.Sound.atStep {s : State} (h : s.Sound) (hphase : s.act.coord.phase = .energizing) {stage : Stage}
    (hstep : s.act.coord.step.stage? = some stage) (hsafe : stage ≠ .safe) : s.AtStep stage := by
  obtain ⟨-, -, hline, -, -, -, -, -, -, -, hcoord, ⟨-, -, -, hwait, hgrace, -, hat⟩, hjudged, -⟩ := h
  have hstage : s.act.seq.stage = stage := by
    rcases hat with hnone | hsome
    · rw [hnone] at hstep
      cases hstep
    · rw [hstep] at hsome
      exact (Option.some.inj hsome).symm
  have hother (p : Phase) (hp : p ≠ .energizing) : s.act.coord.phase ≠ p := by rw [hphase]; exact hp.symm
  obtain ⟨-, -, hpending, hwindow, hcontest, -, -, -, -⟩ := id hcoord
  refine ⟨hline, hstage, s.standDown_of_phase hjudged (hother .none nofun), ?_, fun hlow => ?_, ?_, ?_, ?_,
    hcoord.stagger_of_phase (hother .backoff nofun), hcoord.quietStart_of_phase (hother .quietWait nofun)⟩
  · by_contra hne
    exact hsafe (hstage.symm.trans (hwait (by simpa using hne)))
  · by_contra hne
    have := hgrace.mp hne
    rw [hstage] at this
    omega
  · by_contra hne
    exact hother .bidding nofun (hpending (by simpa using hne)).1
  · by_contra hne
    exact hother .bidding nofun (hwindow (Option.isSome_iff_ne_none.mpr hne)).1
  · by_contra hne
    exact hother .contest nofun (hcontest.mp (Option.isSome_iff_ne_none.mpr hne))

theorem Sequencer.lowered_zone {q : Sequencer} (hwait : q.safeWait = false) (hstand : q.standDown = none) (stage : Stage) :
    ({ q with stage := stage, safeWait := false, grace := .none, standDown := none } : Sequencer)
      = { q with stage := stage, grace := .none } := by
  cases q
  cases hwait
  cases hstand
  rfl

theorem Coordinator.without_turn {c : Coordinator} (hpending : c.claimPending = false) (hwindow : c.bidWindow = none)
    (hcontest : c.contest = none) (hstagger : c.stagger = none) (hquiet : c.quietStart = none) (phase : Phase) :
    ({ c with
      phase := phase, quietStart := none, stagger := none, claimOutstanding := false, claimPending := false, bidWindow := none
      contest := none, step := .none, holdPending := false } : Coordinator)
      = { c with phase := phase, step := .none, holdPending := false, claimOutstanding := false } := by
  cases c
  cases hpending
  cases hwindow
  cases hcontest
  cases hstagger
  cases hquiet
  rfl

theorem Coordinator.turn_over {c : Coordinator} (hpending : c.holdPending = false) (hstagger : c.stagger = none)
    (hquiet : c.quietStart = none) (phase : Phase) (permit withheld : Bool) :
    ({ c with
      permit := permit, keyWithheld := withheld, claimOutstanding := false, step := .none, holdPending := false, phase := phase
      quietStart := none, stagger := none } : Coordinator)
      = { c with phase := phase, step := .none, permit := permit, claimOutstanding := false, keyWithheld := withheld } := by
  cases c
  cases hpending
  cases hstagger
  cases hquiet
  rfl

theorem Sequencer.turn_over {q : Sequencer} (hwait : q.safeWait = false) (hstand : q.standDown = none) (hgrace : q.grace = .none)
    (stage : Stage) :
    ({ q with stage := stage, safeWait := false, grace := .none, standDown := none } : Sequencer) = { q with stage := stage } := by
  cases q
  cases hwait
  cases hstand
  cases hgrace
  rfl

/-- The acting blocks once a wait at a step has lowered the stage. -/
def State.afterWait (s : State) (stage : Stage) : Actors :=
  { s.act with
    line := (s.act.line.setCadence s.clock true).urgent s.clock
    seq := { s.act.seq with stage := stage.lowered, grace := .none }
    coord := { s.act.coord with step := .none } }

section
variable {s : State} {stage : Stage} (h : s.AtStep stage) (hphase : s.act.coord.phase = .energizing)
  (hlow : stage.lowered.code < 3) (hmet : s.act.seq.demand.code ≤ stage.lowered.code)
include h

theorem State.AtStep.lowered_line :
    (s.afterWait stage).line.Sound ∧ (s.afterWait stage).line.urgentDue = true :=
  have hcadence : (s.act.line.setCadence s.clock true).Sound := ((LineUnit.Served.refl s.act.line).cadence true).sound h.line
  ⟨((LineUnit.Served.refl s.act.line).cadence true).urgent.sound h.line, LineUnit.urgentDue_urgent _ _ hcadence.nonempty⟩

theorem State.AtStep.without_grace (hlow : stage.code < 3) (new : Stage) :
    ({ s.act.seq with stage := new, grace := .none } : Sequencer) = { s.act.seq with stage := new } := by
  rw [← h.grace hlow]

include hphase hlow hmet

/-- The stage lowered at the end of a wait that calls for no raise. -/
theorem State.AtStep.lower : (s.act.inStep .none).lower s.view = s.afterWait stage := by
  rw [Actors.lower_eq (a := s.act.inStep .none) s.view hphase (by
    show s.act.seq.demand.code ≤ s.act.seq.stage.lowered.code
    rw [h.atStage]
    exact hmet)]
  show ({ s.act with
    line := (s.act.line.setCadence s.clock true).urgent s.clock
    seq := { s.act.seq with
      stage := s.act.seq.stage.lowered, safeWait := s.act.seq.safeWait && s.act.seq.stage.lowered = .safe
      grace := if s.act.seq.stage.lowered.code < 3 then .none else s.act.seq.grace, standDown := none }
    coord := { s.act.coord with step := .none } } : Actors) = _
  rw [h.atStage, if_pos hlow, h.safeWait, Bool.false_and, Sequencer.lowered_zone h.safeWait h.standDown]
  rfl

/-- What follows a wait: the turn taken back by a pending hold, or the next step (R167, R174). -/
theorem State.AtStep.stepDone : s.act.stepDone s.view =
    if s.act.coord.holdPending then (s.afterWait stage).enterAwaitPermit s.view
    else Actors.runSteps s.view 4 (s.afterWait stage) := by
  unfold Actors.stepDone Actors.completeStep
  rw [h.lower hphase hlow hmet]
  exact if_pos hphase

/-- A pending hold takes the lowered turn back (R174). -/
theorem State.AtStep.held (hpending : s.act.coord.holdPending = true) :
    ∃ t, (s.withAct (s.act.stepDone s.view)).endEvent s = t ∧ t = { s with act := t.act }
      ∧ t.act.seq = { s.act.seq with stage := stage.lowered, grace := .none } ∧ t.act.line.urgentDue
      ∧ t.act.coord = { s.act.coord with
        phase := if ((s.act.coord.permit ∧ s.act.line.stuck = false) ∨ (s.scanner.active 7 ∧ s.act.coord.keyWithheld = false))
          ∧ s.act.line.mute = none ∧ s.scanner.fault = false then .bidding else .awaitPermit
        step := .none, holdPending := false, claimOutstanding := false }
      ∧ (t.act.coord.phase = .bidding → t.act.line.restartAsked .bid) := by
  have hdone := h.stepDone hphase hlow hmet
  rw [if_pos hpending] at hdone
  obtain ⟨hline, -⟩ := h.lowered_line
  obtain ⟨hcoord, hseq, hdue, hasked⟩ := (s.afterWait stage).awaitPermit_of_energizing s.view hline hphase
  set w := s.withAct (s.act.stepDone s.view) with hw
  have hwact : w.act = (s.afterWait stage).enterAwaitPermit s.view := hdone
  have hafter := w.stepOnly_endEvent s
  have hauthority : (s.afterWait stage).authorityHolds s.view = s.act.authorityHolds s.view := by
    obtain ⟨hstuck, hmute⟩ := LineUnit.Served.leave (((LineUnit.Served.refl s.act.line).cadence true).urgent (now := s.clock))
    unfold Actors.authorityHolds Actors.keyAuthority LineUnit.muted State.afterWait
    dsimp only
    rw [hstuck, hmute]
  have hwcoord : w.act.coord = { s.act.coord with
      phase := if ((s.act.coord.permit ∧ s.act.line.stuck = false) ∨ (s.scanner.active 7 ∧ s.act.coord.keyWithheld = false))
        ∧ s.act.line.mute = none ∧ s.scanner.fault = false then .bidding else .awaitPermit
      step := .none, holdPending := false, claimOutstanding := false } := by
    rw [hwact, hcoord, hauthority, Actors.authority_phase]
    exact Coordinator.without_turn h.claimPending h.bidWindow h.contest h.stagger h.quietStart _
  have hwseq : w.act.seq = { s.act.seq with stage := stage.lowered, grace := .none } := by
    rw [hwact, hseq]
    exact Sequencer.standDown_none (q := { s.act.seq with stage := stage.lowered, grace := .none }) h.standDown
  have hwait : (w.endEvent s).act.seq.safeWait = false := hafter.wait (by rw [hwseq]; exact h.safeWait)
  have hstep : (w.endEvent s).act.coord.step = .none := hafter.step (by rw [hwcoord])
  refine ⟨_, rfl, State.endEvent_eq _ _, ?_, ?_, ?_, fun hbidding => ?_⟩
  · rw [hafter.seq, hwait, hwseq, ← h.safeWait]
  · rw [hafter.line, hwact]
    exact hdue
  · rw [hafter.coord, hstep, hwcoord]
  · rw [hafter.line, hwact]
    rw [hafter.coord, hwact] at hbidding
    exact hasked hbidding

end

/-! ### POWER_SETTLE_EXPIRY and RELEASE_WAIT_EXPIRY -/

theorem State.exec_powerSettle {s : State} {e : Stamp} (hphase : s.act.coord.phase = .energizing)
    (hstep : s.act.coord.step = .settle e) (hreached : reached s.clock e = true) :
    exec .powerSettleExpiry s = .next ((s.withAct (s.act.stepDone s.view)).endEvent s) := by
  have hdue : s.act.coord.settleDue s.clock = true := by
    unfold Coordinator.settleDue
    rw [hphase, hstep]
    exact hreached
  refine congrArg Host.Outcome.next ?_
  rw [hdue, State.eventWhen_true]
  rfl

theorem State.exec_releaseWait {s : State} {e : Stamp} (hphase : s.act.coord.phase = .energizing)
    (hstep : s.act.coord.step = .releaseWait e) (hreached : reached s.clock e = true) :
    exec .releaseWaitExpiry s = .next ((s.withAct (s.act.stepDone s.view)).endEvent s) := by
  have hdue : s.act.coord.releaseWaitDue s.clock = true := by
    unfold Coordinator.releaseWaitDue
    rw [hphase, hstep]
    exact hreached
  refine congrArg Host.Outcome.next ?_
  rw [hdue, State.eventWhen_true]
  rfl

theorem Actors.runSteps_of_waiting {a b : Actors} {v : View} {n : Nat} (h : a.beginStep v = (b, false)) :
    Actors.runSteps v (n + 1) a = b := by
  unfold Actors.runSteps
  rw [h]
  rfl

theorem Sequencer.demand_code_le {q : Sequencer} {n : Nat} (htarget : q.target.code ≤ n) (hfloor : q.floor.code ≤ n) :
    q.demand.code ≤ n := by
  unfold Sequencer.demand
  rw [Stage.code_higher]
  omega

/-- Settles O47: both waits with and without a pending hold, step D at T = 0, and nothing ahead of the expiries. -/
theorem energizingWaitsLowerTheStage : Obligations.EnergizingWaitsLowerTheStage := by
  refine ⟨fun s e sound hphase hstep hreached htarget hfloor hpending => ?_,
    fun s e sound hphase hstep hreached htarget hfloor hpending horder => ?_,
    fun s e sound hphase hstep hreached htarget hfloor hpending => ?_,
    fun s e sound hphase hstep hreached htarget hfloor hpending horder => ?_, fun s hnot => ?_, fun s hnot => ?_,
    fun s e sound hphase hstep hreached htarget hfloor hpending => ?_⟩
  · have hat := sound.atStep hphase (stage := .isolate) (by rw [hstep]; rfl) nofun
    obtain ⟨t, ht, hspec⟩ := hat.held hphase (by decide) (Sequencer.demand_code_le htarget hfloor) hpending
    exact ⟨t, (State.exec_powerSettle hphase hstep hreached).trans (congrArg Host.Outcome.next ht), hspec⟩
  · have hat := sound.atStep hphase (stage := .isolate) (by rw [hstep]; rfl) nofun
    have hdone := hat.stepDone hphase (by decide) (Sequencer.demand_code_le htarget hfloor)
    rw [hpending, if_neg (by decide), Actors.runSteps_of_waiting (b := (s.afterWait .isolate).beginC s.view) rfl,
      Actors.beginC_of_order (a := s.afterWait .isolate) s.view horder] at hdone
    obtain ⟨-, hdue⟩ := hat.lowered_line
    have hexec := State.exec_powerSettle hphase hstep hreached
    rw [hdone] at hexec
    exact ⟨_, hexec.trans (congrArg Host.Outcome.next (State.endEvent_of_calm (s.withAct _) s rfl rfl)), rfl, hdue⟩
  · have hat := sound.atStep hphase (stage := .quiesce) (by rw [hstep]; rfl) nofun
    have hdone := hat.stepDone hphase (by decide) (Sequencer.demand_code_le (by rw [htarget]; decide) hfloor)
    have hbegin : (s.afterWait .quiesce).beginStep s.view = ((s.afterWait .quiesce).inStep .postponed, false) :=
      congrArg (fun a => (a, false)) (if_neg (by show s.act.seq.target ≠ .watch; rw [htarget]; exact nofun))
    rw [hpending, if_neg (by decide), Actors.runSteps_of_waiting hbegin] at hdone
    obtain ⟨-, hdue⟩ := hat.lowered_line
    have hexec := State.exec_releaseWait hphase hstep hreached
    rw [hdone] at hexec
    refine ⟨_, hexec.trans (congrArg Host.Outcome.next (State.endEvent_of_calm (s.withAct _) s rfl rfl)), ?_, hdue⟩
    exact congrArg (fun q => s.withAct { (s.afterWait .quiesce).inStep .postponed with seq := q })
      (hat.without_grace (by decide) .alert)
  · have hat := sound.atStep hphase (stage := .quiesce) (by rw [hstep]; rfl) nofun
    have hdone := hat.stepDone hphase (by decide)
      (Sequencer.demand_code_le (by rw [htarget]; decide) (by rw [hfloor]; decide))
    have hbegin : (s.afterWait .quiesce).beginStep s.view = ((s.afterWait .quiesce).runD s.view, false) :=
      congrArg (fun a => (a, false)) (if_pos htarget)
    rw [hpending, if_neg (by decide), Actors.runSteps_of_waiting hbegin] at hdone
    obtain ⟨hcoord, hseq, hdrv, hdue, hasked⟩ := (s.afterWait .quiesce).runD_spec s.view hat.lowered_line.1 hphase rfl htarget
      hfloor hat.safeWait rfl horder
    have hexec := State.exec_releaseWait hphase hstep hreached
    set w := s.withAct (s.act.stepDone s.view) with hw
    have hwact : w.act = (s.afterWait .quiesce).runD s.view := hdone
    have hafter := w.stepOnly_endEvent s
    have hwait : w.act.seq.safeWait = false := by
      rw [hwact, hseq]
      exact hat.safeWait
    have hsame := w.sameBut_endEvent s hwait
    have hlevel (id : LevelId) : (w.endEvent s).act.drv.level id = ({ s.act.drv with
        advise := ⟨.normal, none, s.act.drv.advise.failed⟩, lift := ⟨.normal, none, s.act.drv.lift.failed⟩ } : Driver).level id := by
      rw [hsame.1 id, hwact, hdrv]
      exact (Driver.sameBut_leaveEnergizing ..).1 id
    refine ⟨_, hexec, State.endEvent_eq _ _, ?_, ?_, ?_, ?_, hlevel .advise, hlevel .lift⟩
    · rw [hafter.seq, hafter.wait hwait, hwact, hseq]
      exact Sequencer.turn_over hat.safeWait hat.standDown (hat.grace (by decide)) .watch
    · rw [hafter.line, hwact]
      exact hdue
    · rw [hafter.coord, hafter.step (by rw [hwact, hcoord]), hwact, hcoord]
      exact Coordinator.turn_over hpending hat.stagger hat.quietStart _ _ _
    · rw [hafter.line, hwact]
      exact hasked
  · refine congrArg Host.Outcome.next (State.eventWhen_of_not _ _ ?_)
    unfold Coordinator.settleDue
    split
    · next hstep => exact hnot _ hstep
    · rfl
  · refine congrArg Host.Outcome.next (State.eventWhen_of_not _ _ ?_)
    unfold Coordinator.releaseWaitDue
    split
    · next hstep => exact hnot _ hstep
    · rfl
  · have hat := sound.atStep hphase (stage := .quiesce) (by rw [hstep]; rfl) nofun
    obtain ⟨t, ht, heq, hseq, hspec⟩ := hat.held hphase (by decide) (Sequencer.demand_code_le htarget hfloor) hpending
    refine ⟨t, (State.exec_releaseWait hphase hstep hreached).trans (congrArg Host.Outcome.next ht), heq, ?_, hspec⟩
    exact hseq.trans (hat.without_grace (by decide) .alert)

end Sys2Proof.Machine
end

section
/-! PROOFS. CONTEST_INTERVAL_EXPIRY (R163, R167): ENERGIZING entered, and the step of each stage begun. -/

namespace Sys2Proof.Machine

/-! ### The contest interval, once ended, does not run again but by a CLAIM sent (R161) -/

section
variable (v : View) {a : Actors}

theorem Coordinator.moved_contest_none {c : Coordinator} (h : c.contest = none) (p : Phase) : (c.moved p).contest = none := by
  have hturn : (if c.phase.inTurn && p.standsAside then
      { c with claimOutstanding := false, claimPending := false, bidWindow := none, contest := none } else c).contest = none := by
    split
    · rfl
    · exact h
  unfold Coordinator.moved
  split
  · exact h
  · dsimp only
    split <;> exact hturn

theorem Actors.setPhase_contest (h : a.coord.contest = none) (p : Phase) : (a.setPhase v p).coord.contest = none := by
  rw [Actors.setPhase_coord]
  exact Coordinator.moved_contest_none h p

theorem Actors.enterQuietWait_contest (h : a.coord.contest = none) : (a.enterQuietWait v).coord.contest = none :=
  Actors.setPhase_contest v h .quietWait

theorem Actors.bringUp_contest (h : a.coord.contest = none) (stage : Stage) : (a.bringUp v stage).coord.contest = none := by
  rw [(a.zoneOnly_bringUp v stage).1]
  exact h

theorem Actors.abort_contest (h : a.coord.contest = none) : (a.abort v).coord.contest = none :=
  Actors.bringUp_contest v (Actors.enterQuietWait_contest v h) _

theorem Actors.onRise_contest (h : a.coord.contest = none) (new : Stage) : (a.onRise v new).coord.contest = none := by
  unfold Actors.onRise
  split
  · split
    · exact Actors.enterQuietWait_contest v h
    · exact h
  · exact Actors.enterQuietWait_contest v h
  · exact Actors.enterQuietWait_contest v h
  · exact Actors.enterQuietWait_contest v h
  · exact Actors.enterQuietWait_contest v h
  · exact Actors.enterQuietWait_contest v h
  · exact Actors.abort_contest v h
  · exact h

theorem Actors.compare_contest (h : a.coord.contest = none) : (a.compare v).coord.contest = none := by
  unfold Actors.compare
  split
  · exact h
  · split
    · exact Actors.onRise_contest v (a := ((a.setStage v a.seq.demand).bringUp v a.seq.demand).urgent v)
        (Actors.bringUp_contest v (a := a.setStage v a.seq.demand) h _) _
    · exact h

theorem Actors.lower_contest (h : a.coord.contest = none) : (a.lower v).coord.contest = none := Actors.compare_contest v h

theorem Actors.enterAwaitPermit_contest (h : a.coord.contest = none) : (a.enterAwaitPermit v).coord.contest = none := by
  have hset := Actors.setPhase_contest v h .awaitPermit
  unfold Actors.enterAwaitPermit Actors.checkAuthority
  split
  · exact Actors.setPhase_contest v hset .bidding
  · exact hset

theorem Actors.stop_contest (h : a.coord.contest = none) : (a.stop v).coord.contest = none :=
  Actors.enterAwaitPermit_contest v h

theorem Actors.endTurn_contest (h : a.coord.contest = none) : (a.endTurn v).coord.contest = none := by
  unfold Actors.endTurn
  exact Actors.setPhase_contest v (by exact h) .none

theorem Actors.runD_contest (h : a.coord.contest = none) : (a.runD v).coord.contest = none := by
  rw [Actors.runD_eq]
  split
  · have hlow : (((a.released .advise .lift).inStep .none).lower v).coord.contest = none := Actors.lower_contest v h
    split
    · exact Actors.endTurn_contest v hlow
    · exact hlow
  · exact Actors.stop_contest v h

theorem Actors.settleIfClosed_contest (h : a.coord.contest = none) : (a.settleIfClosed v).coord.contest = none := by
  unfold Actors.settleIfClosed
  split <;> exact h

theorem Actors.beginStep_contest (h : a.coord.contest = none) : (a.beginStep v).1.coord.contest = none := by
  unfold Actors.beginStep
  split
  · exact h
  · unfold Actors.beginB
    dsimp only
    split
    · exact h
    · exact Actors.settleIfClosed_contest v h
  · rw [Actors.beginC_eq]
    split
    · exact h
    · exact Actors.stop_contest v h
  · unfold Actors.beginD
    split
    · exact Actors.runD_contest v h
    · exact h
  · exact h

theorem Actors.runSteps_contest (n : Nat) (h : a.coord.contest = none) : (Actors.runSteps v n a).coord.contest = none := by
  induction n generalizing a with
  | zero => exact h
  | succ n ih =>
    have hbegin := Actors.beginStep_contest v h
    unfold Actors.runSteps
    dsimp only
    split
    · have hlow : (((a.beginStep v).1.inStep .none).lower v).coord.contest = none := Actors.lower_contest v hbegin
      unfold Actors.completeStep
      dsimp only
      split
      · split
        · exact Actors.enterAwaitPermit_contest v hlow
        · exact ih hlow
      · exact hlow
    · exact hbegin

end

/-! ### ENERGIZING entered -/

/-- The acting blocks as ENERGIZING begins, before its first step, with the Line Unit `l`. -/
def State.energized (s : State) (l : LineUnit) : Actors :=
  { s.act with
    line := l
    seq := { s.act.seq with floor := .watch }
    coord := { s.act.coord with phase := .energizing, contest := none } }

/-- What a sound CONTEST holds. -/
structure State.AtContest (s : State) : Prop where
  line : s.act.line.Sound
  standDown : s.act.seq.standDown = none
  quietStart : s.act.coord.quietStart = none
  stagger : s.act.coord.stagger = none
  step : s.act.coord.step = .none
  holdPending : s.act.coord.holdPending = false
  closes : ∀ p, (s.act.drv.pulse (.close p)).state ≠ .firing
  met : s.act.seq.rejoinHold = false

theorem State.Sound.atContest {s : State} (h : s.Sound) (hphase : s.act.coord.phase = .contest) : s.AtContest := by
  obtain ⟨-, -, hline, -, -, -, -, -, hcloses, -, hcoord, ⟨hhold, -⟩, hjudged, -⟩ := h
  have hother (p : Phase) (hp : p ≠ .contest) : s.act.coord.phase ≠ p := by rw [hphase]; exact hp.symm
  obtain ⟨hstep, hpending, -⟩ := id hcoord
  refine ⟨hline, s.standDown_of_phase hjudged (hother .none nofun), hcoord.quietStart_of_phase (hother .quietWait nofun),
    hcoord.stagger_of_phase (hother .backoff nofun), by_contra fun hne => hother .energizing nofun (hstep hne),
    by_contra fun hne => hother .energizing nofun (hpending (by simpa using hne)), fun p hfiring => ?_,
    by_contra fun hne => hother .rejoin nofun (hhold.mp (by simpa using hne))⟩
  obtain ⟨hA, hB⟩ := hcloses (hother .energizing nofun)
  cases p with
  | a => rw [(Driver.firing_iff ..).mpr hfiring] at hA; cases hA
  | b => rw [(Driver.firing_iff ..).mpr hfiring] at hB; cases hB

theorem Coordinator.turn_done {c : Coordinator} (hstep : c.step = .none) (hpending : c.holdPending = false)
    (hstagger : c.stagger = none) (hquiet : c.quietStart = none) (withheld : Bool) :
    ({ c with
      permit := false, keyWithheld := withheld, claimOutstanding := false, step := .none, holdPending := false, phase := .none
      quietStart := none, stagger := none, contest := none } : Coordinator)
      = { c with phase := .none, contest := none, permit := false, claimOutstanding := false, keyWithheld := withheld } := by
  cases c
  cases hstep
  cases hpending
  cases hstagger
  cases hquiet
  rfl

/-- The contest interval's end. -/
theorem State.exec_contest {s : State} {e : Stamp} (sound : s.Sound) (hphase : s.act.coord.phase = .contest)
    (he : s.act.coord.contest = some e) (hreached : reached s.clock e = true) :
    ∃ l, l.Sound ∧ l.urgentDue = true
      ∧ exec .contestIntervalExpiry s =
        .next ((s.withAct (Actors.runSteps s.view 4 (s.energized l))).endEvent s) := by
  have hat := sound.atContest hphase
  have hdue : (s.act.coord.phase = .contest && expired s.clock s.act.coord.contest) = true := by
    rw [he, hphase]
    exact hreached
  set a := s.act.withCoord { s.act.coord with contest := none } with ha
  have haphase : a.coord.phase = .contest := hphase
  have hset := a.setPhase_eq_of_no_turn s.view (phase := .energizing) (by rw [haphase]; exact nofun) (Bool.and_false _)
    (by rw [haphase]; exact nofun)
  have hline : (a.setPhase s.view .energizing).line.Sound := (a.setPhase_served s.view .energizing).sound hat.line
  have hurgent : (a.setPhase s.view .energizing).line.urgentDue = true :=
    Actors.setPhase_urgentDue s.view hat.line (by rw [haphase]; exact nofun)
  have hstand : (a.withCoord (a.coord.enter .energizing)).wantsStandDown s.view = false := by
    simp [Actors.wantsStandDown, Actors.withCoord, Coordinator.enter]
  refine ⟨_, hline, hurgent, congrArg Host.Outcome.next ?_⟩
  rw [hdue, State.eventWhen_true]
  have hbegun : (a.setPhase s.view .energizing).withSeq { (a.setPhase s.view .energizing).seq with floor := .watch }
      = s.energized (a.setPhase s.view .energizing).line := by
    have hseq : (a.setPhase s.view .energizing).seq = s.act.seq := by
      rw [hset]
      show ({ s.act.seq with standDown :=
        if (a.withCoord (a.coord.enter .energizing)).wantsStandDown s.view then _ else none } : Sequencer) = s.act.seq
      rw [hstand]
      exact Sequencer.standDown_none hat.standDown
    have hcoord : (a.setPhase s.view .energizing).coord = { s.act.coord with phase := .energizing, contest := none } := by
      rw [hset]
      show ({ s.act.coord with phase := .energizing, contest := none, quietStart := none, stagger := none } : Coordinator) = _
      exact Coordinator.waits_none (c := { s.act.coord with contest := none }) hat.quietStart hat.stagger .energizing
    have hdrv : (a.setPhase s.view .energizing).drv = s.act.drv := a.setPhase_drv s.view .energizing (by rw [haphase]; exact nofun)
    unfold Actors.withSeq State.energized
    rw [hseq, hcoord, hdrv]
  exact congrArg (fun b => (s.withAct (Actors.runSteps s.view 4 b)).endEvent s) hbegun

/-! ### The step of each stage -/

theorem Driver.releaseHold_of_active {d : Driver} {sc : Scanner} (now : Stamp) {id : HoldId} (hstate : (d.hold id).state = .holding)
    (hfault : sc.fault = false) (hactive : sc.active (limitContact id) = true) :
    d.releaseHold sc now id = (d.setHold id ⟨.releasing, none, some now, false, (d.hold id).failed⟩, []) := by
  unfold Driver.releaseHold
  dsimp only
  rw [hstate]
  simp [hfault, hactive]

theorem Driver.requestClose_of_open {d : Driver} {sc : Scanner} (now : Stamp) (energizing : Bool) {p : Pdu}
    (htrip : (d.pulse (.trip p)).state = .spent) (hclose : (d.pulse (.close p)).state = .ready) (hopen : pduOpen sc p = true) :
    d.requestClose sc now energizing p = (d.enqueue (.close p) .first, []) := by
  unfold Driver.requestClose
  rw [htrip, hclose]
  exact if_pos hopen

/-- Step A with both HOLD channels holding and their inputs active. -/
theorem Actors.beginA_of_holding {a : Actors} {v : View} (hvalve : a.drv.valve.state = .holding)
    (hcoolstop : a.drv.coolstop.state = .holding) (hfault : v.scanner.fault = false) (h2 : v.scanner.active 2 = true)
    (h3 : v.scanner.active 3 = true) : a.beginA v = ({ a with
      drv := { a.drv with
        valve := ⟨.releasing, none, some v.now, false, a.drv.valve.failed⟩
        coolstop := ⟨.releasing, none, some v.now, false, a.drv.coolstop.failed⟩ }
      coord := { a.coord with step := .a true true } }, false) := by
  have hfirst := Driver.releaseHold_of_active (d := a.drv) (sc := v.scanner) v.now (id := .valve) hvalve hfault h2
  have hsecond := Driver.releaseHold_of_active (sc := v.scanner) v.now (id := .coolstop)
    (d := a.drv.setHold .valve ⟨.releasing, none, some v.now, false, a.drv.valve.failed⟩) hcoolstop hfault h3
  unfold Actors.beginA Driven.next
  rw [hfirst]
  dsimp only
  rw [show (a.drv.hold .valve).failed = a.drv.valve.failed from rfl, hsecond]
  rfl

/-- Step B with both trips SPENT and both PDUs reading open. -/
theorem Actors.beginB_of_open {a : Actors} {v : View} (htripA : a.drv.tripA.state = .spent) (htripB : a.drv.tripB.state = .spent)
    (hcloseA : a.drv.closeA.state = .ready) (hcloseB : a.drv.closeB.state = .ready) (h0 : v.scanner.active 0 = false)
    (h1 : v.scanner.active 1 = false) : a.beginB v = ({ a with
      drv := (a.drv.enqueue (.close .a) .first).enqueue (.close .b) .first
      coord := { a.coord with step := .b true true } }, false) := by
  have hneeds : a.drv.needsClose .a = true ∧ a.drv.needsClose .b = true :=
    ⟨decide_eq_true (by show a.drv.tripA.state ≠ _; rw [htripA]; exact nofun),
      decide_eq_true (by show a.drv.tripB.state ≠ _; rw [htripB]; exact nofun)⟩
  have hfirst := Driver.requestClose_of_open (d := a.drv) (sc := v.scanner) v.now true (p := .a) htripA hcloseA
    (by simp [pduOpen, pduContact, h0])
  have hsecond := Driver.requestClose_of_open (d := a.drv.enqueue (.close .a) .first) (sc := v.scanner) v.now true (p := .b)
    htripB hcloseB (by simp [pduOpen, pduContact, h1])
  unfold Actors.beginB Driven.next
  rw [hneeds.1, hneeds.2]
  rw [if_neg (by decide)]
  simp only [↓reduceIte, hfirst, hsecond]
  rfl

/-- Settles O46: entry at each stage, step D at T = 0, and nothing ahead of the expiry. -/
theorem contestEndsInEnergizing : Obligations.ContestEndsInEnergizing := by
  refine ⟨fun s e sound hphase he hreached => ?_,
    fun s e sound hphase he hreached hstage hvalve hcoolstop h2 h3 hfault => ?_,
    fun s e sound hphase he hreached hstage htripA htripB hcloseA hcloseB hq hgap h0 h1 => ?_,
    fun s e sound hphase he hreached hstage horder => ?_, fun s e sound hphase he hreached hstage htarget => ?_,
    fun s e sound hphase he hreached hstage htarget horder hq => ?_, fun s hnot => ?_⟩
  · obtain ⟨l, hline, hdue, hexec⟩ := State.exec_contest sound hphase he hreached
    have htouch := Actors.touch_runSteps (s.energized l) s.view 4
    set w := s.withAct (Actors.runSteps s.view 4 (s.energized l)) with hw
    have hafter := w.stepOnly_endEvent s
    refine ⟨_, hexec, State.endEvent_eq _ _, ?_, ?_, ?_⟩
    · rw [hafter.seq]
      exact htouch.floor
    · rw [hafter.coord]
      exact Actors.runSteps_contest s.view 4 rfl
    · rw [hafter.line]
      exact htouch.line.urgentDue hline hdue
  · obtain ⟨l, -, -, hexec⟩ := State.exec_contest sound hphase he hreached
    have hbegin : (s.energized l).beginStep s.view = (s.energized l).beginA s.view := by
      unfold Actors.beginStep
      rw [show (s.energized l).seq.stage = .safe from hstage]
    have hrun := Actors.runSteps_of_waiting (n := 3) (hbegin.trans
      (Actors.beginA_of_holding (a := s.energized l) hvalve hcoolstop hfault h2 h3))
    rw [hrun] at hexec
    exact ⟨_, hexec.trans (congrArg Host.Outcome.next (State.endEvent_of_calm (s.withAct _) s rfl rfl)), rfl⟩
  · obtain ⟨l, -, -, hexec⟩ := State.exec_contest sound hphase he hreached
    have hbegin : (s.energized l).beginStep s.view = (s.energized l).beginB s.view := by
      unfold Actors.beginStep
      rw [show (s.energized l).seq.stage = .isolate from hstage]
    have hrun := Actors.runSteps_of_waiting (n := 3) (hbegin.trans
      (Actors.beginB_of_open (a := s.energized l) htripA htripB hcloseA hcloseB h0 h1))
    set d := (s.act.drv.enqueue (.close .a) .first).enqueue (.close .b) .first with hd
    set b : Actors := { s.energized l with
      drv := d, coord := { (s.energized l).coord with step := .b true true } } with hb
    have hqueue : d.pulseQueue = [.close .a, .close .b] := by
      show s.act.drv.pulseQueue ++ [.close .a] ++ [.close .b] = _
      rw [hq]
      rfl
    have hnone : d.anyFiring = false := Driver.anyFiring_of_none fun id _ => by
      have htripA' : s.act.drv.tripA.state ≠ .firing := by rw [htripA]; exact nofun
      have htripB' : s.act.drv.tripB.state ≠ .firing := by rw [htripB]; exact nofun
      rcases id with (_ | _) | (_ | _)
      · exact htripA'
      · exact htripB'
      · exact nofun
      · exact nofun
    have hstirred : arbiterStirred s.act.drv d = true := by simp [arbiterStirred, hqueue, hq]
    have hserve := Actors.serve_fires (a := b) (v := s.view) hnone hgap hqueue
      (by simp [awaitedHolds, pduOpen, pduContact, h0]) fun _ _ => rfl
    have hend : (s.withAct b).endEvent s = _ := (State.endEvent_of_stirred (s := s.withAct b) hstirred).trans
      (congrArg s.withAct hserve)
    rw [hrun] at hexec
    exact ⟨_, hexec.trans (congrArg Host.Outcome.next hend), rfl⟩
  · obtain ⟨l, -, -, hexec⟩ := State.exec_contest sound hphase he hreached
    have hbegin : (s.energized l).beginStep s.view = ((s.energized l).beginC s.view, false) := by
      unfold Actors.beginStep
      rw [show (s.energized l).seq.stage = .quiesce from hstage]
    have hrun := Actors.runSteps_of_waiting (n := 3) hbegin
    rw [hrun, Actors.beginC_of_order (a := s.energized l) s.view horder] at hexec
    exact ⟨_, hexec.trans (congrArg Host.Outcome.next (State.endEvent_of_calm (s.withAct _) s rfl rfl)), rfl⟩
  · obtain ⟨l, -, -, hexec⟩ := State.exec_contest sound hphase he hreached
    have hbegin : (s.energized l).beginStep s.view = ((s.energized l).inStep .postponed, false) := by
      unfold Actors.beginStep
      rw [show (s.energized l).seq.stage = .alert from hstage]
      exact congrArg (fun a => (a, false)) (if_neg (by show s.act.seq.target ≠ .watch; rw [htarget]; exact nofun))
    rw [Actors.runSteps_of_waiting hbegin] at hexec
    exact ⟨_, hexec.trans (congrArg Host.Outcome.next (State.endEvent_of_calm (s.withAct _) s rfl rfl)), rfl⟩
  · obtain ⟨l, hline, -, hexec⟩ := State.exec_contest sound hphase he hreached
    have hat := sound.atContest hphase
    have hbegin : (s.energized l).beginStep s.view = ((s.energized l).runD s.view, false) := by
      unfold Actors.beginStep
      rw [show (s.energized l).seq.stage = .alert from hstage]
      exact congrArg (fun a => (a, false)) (if_pos htarget)
    rw [Actors.runSteps_of_waiting hbegin] at hexec
    obtain ⟨hwait, hgrace⟩ : s.act.seq.safeWait = false ∧ s.act.seq.grace = .none := by
      obtain ⟨-, -, -, -, -, -, -, -, -, -, -, ⟨-, -, -, hsafe, hgrace, -⟩, -⟩ := sound
      rw [hstage] at hsafe hgrace
      exact ⟨by_contra fun hne => absurd (hsafe (by simpa using hne)) nofun,
        by_contra fun hne => absurd (hgrace.mp hne) (by decide)⟩
    obtain ⟨hcoord, hseq, hdrv, hdue, hasked⟩ := (s.energized l).runD_spec s.view hline rfl hstage htarget rfl hwait hgrace horder
    have hidle (p : Pdu) : (s.act.drv.pulse (.close p)).state ≠ .queued ∧ (s.act.drv.pulse (.close p)).state ≠ .firing := by
      obtain ⟨-, -, -, -, -, -, hpulse, -⟩ := sound
      refine ⟨fun hqueued => ?_, hat.closes p⟩
      have hmem := (hpulse.close_mem_queue_iff p).mpr hqueued
      rw [hq] at hmem
      cases hmem
    have hdrv' := hdrv.trans (Driver.leaveEnergizing_of_idle (d := { s.act.drv with
      advise := ⟨.normal, none, s.act.drv.advise.failed⟩, lift := ⟨.normal, none, s.act.drv.lift.failed⟩ }) s.clock
      fun p => by cases p; exacts [hidle .a, hidle .b])
    have hqueue := congrArg Driver.pulseQueue hdrv'
    have hgap := congrArg Driver.gap hdrv'
    have hend := State.endEvent_of_calm (s.withAct ((s.energized l).runD s.view)) s hqueue hgap
    refine ⟨_, hexec.trans (congrArg Host.Outcome.next hend), rfl, ?_, hdue, ?_, hasked, hdrv'⟩
    · refine hseq.trans ?_
      exact Sequencer.standDown_none (q := { s.act.seq with stage := .watch, floor := .watch }) hat.standDown
    · exact hcoord.trans (Coordinator.turn_done hat.step hat.holdPending hat.stagger hat.quietStart _)
  · refine congrArg Host.Outcome.next (State.eventWhen_of_not _ _ ?_)
    rcases hnot with h | h
    · simp [h]
    · simp [expired_of_all h]

end Sys2Proof.Machine
end


section
/-! PROOFS. One sample in the Motion Assessor: what each test of chapter 2 does in each of its cases. -/

namespace Sys2Proof.Machine

/-! ### The tests -/

theorem qualifies_iff {prof : Profile} {short long : Int} :
    qualifies prof short long = true ↔ prof.rOn * long ≤ 4 * short := decide_eq_true_iff

theorem not_qualifies_iff {prof : Profile} {short long : Int} :
    qualifies prof short long = false ↔ 4 * short < prof.rOn * long :=
  decide_eq_false_iff_not.trans not_le

theorem releases_iff {prof : Profile} {short long : Int} :
    releases prof short long = true ↔ 4 * short < prof.rOff * long := decide_eq_true_iff

theorem not_releases_iff {prof : Profile} {short long : Int} :
    releases prof short long = false ↔ prof.rOff * long ≤ 4 * short :=
  decide_eq_false_iff_not.trans not_lt

namespace Assessor

theorem testCalm_breaks {a : Assessor} {prof : Profile} (h : qualifies prof a.short a.long = false) (c : Sample)
    (stamp : Stamp) (m : Nat) : a.testCalm prof c stamp m = a.noRun := if_neg (by simp [h])

theorem testCalm_extends {a : Assessor} {prof : Profile} (h : qualifies prof a.short a.long = true)
    (short : a.qualifying < 3) (c : Sample) (stamp : Stamp) (m : Nat) :
    a.testCalm prof c stamp m = a.extendRun c stamp m := by
  have more : ¬ 4 ≤ (a.extendRun c stamp m).qualifying := by
    unfold extendRun; split <;> simp; omega
  rw [testCalm, if_pos h]; exact if_neg more

theorem testCalm_opens {a : Assessor} {prof : Profile} (h : qualifies prof a.short a.long = true)
    (run : a.qualifying = 3) (c : Sample) (stamp : Stamp) (m : Nat) :
    a.testCalm prof c stamp m = (a.extendRun c stamp m).openEvent := by
  have more : 4 ≤ (a.extendRun c stamp m).qualifying := by simp [extendRun, run]
  rw [testCalm, if_pos h]; exact if_pos more

theorem extendRun_goes_on {a : Assessor} (h : a.qualifying ≠ 0) (c : Sample) (stamp : Stamp) (m : Nat) :
    a.extendRun c stamp m = { a with
      qualifying := a.qualifying + 1, runPeak := max a.runPeak m, runClipped := a.runClipped || c.clipped } :=
  if_neg h

theorem extendRun_eq (a : Assessor) (c : Sample) (stamp : Stamp) (m : Nat) :
    a.extendRun c stamp m = { a with
      qualifying := a.qualifying + 1
      runOnset := if a.qualifying = 0 then some stamp else a.runOnset
      runPeak := if a.qualifying = 0 then m else max a.runPeak m
      runClipped := if a.qualifying = 0 then c.clipped else a.runClipped || c.clipped } := by
  by_cases first : a.qualifying = 0
  · simp only [extendRun, first, if_true, Nat.zero_add]
  · simp only [extendRun, if_neg first]

theorem testEvent_breaks {a : Assessor} {prof : Profile} (h : releases prof a.short a.long = false) :
    a.testEvent prof = { a with releasing := 0 } := if_neg (by simp [h])

theorem testEvent_extends {a : Assessor} {prof : Profile} (h : releases prof a.short a.long = true)
    (short : a.releasing < 199) : a.testEvent prof = { a with releasing := a.releasing + 1 } := by
  rw [testEvent, if_pos h, if_neg (by omega)]

theorem testEvent_settles {a : Assessor} {prof : Profile} (h : releases prof a.short a.long = true)
    (run : 199 ≤ a.releasing) :
    a.testEvent prof = { a with detector := .settling, releasing := 0, settling := 0, qualifying := 0 } := by
  rw [testEvent, if_pos h, if_pos (by omega)]

theorem testEvent_stays {a : Assessor} {prof : Profile}
    (h : a.releasing < 199 ∨ releases prof a.short a.long = false) :
    a.testEvent prof =
      { a with releasing := if 4 * a.short < prof.rOff * a.long then a.releasing + 1 else 0 } := by
  by_cases off : releases prof a.short a.long = true
  · rw [testEvent_extends off (h.resolve_right (by simp [off])), if_pos (releases_iff.1 off)]
  · rw [testEvent_breaks (Bool.eq_false_iff.2 off), if_neg (mt releases_iff.2 off)]

theorem testSettling_returns {a : Assessor} {prof : Profile} (h : qualifies prof a.short a.long = true)
    (run : 3 ≤ a.qualifying) :
    a.testSettling prof = { a with detector := .event, qualifying := 0, releasing := 0, settling := 0 } := by
  rw [testSettling, if_pos h, if_pos (by omega)]

theorem testSettling_counts {a : Assessor} {prof : Profile}
    (h : qualifies prof a.short a.long = false ∨ a.qualifying < 3) :
    a.testSettling prof =
      ({ a with qualifying := if prof.rOn * a.long ≤ 4 * a.short then a.qualifying + 1 else 0 } : Assessor).settle := by
  unfold testSettling
  by_cases on : qualifies prof a.short a.long = true
  · have short : ¬ 4 ≤ a.qualifying + 1 := by
      rcases h with off | short
      · simp [off] at on
      · omega
    simp only [if_pos on, if_neg short, if_pos (qualifies_iff.1 on)]
  · simp only [if_neg on, if_neg (mt qualifies_iff.2 on)]

theorem testSettling_goes_on {a : Assessor} {prof : Profile} (count : a.settling < 1999)
    (h : qualifies prof a.short a.long = false ∨ a.qualifying < 3) :
    a.testSettling prof = { a with
      settling := a.settling + 1
      qualifying := if prof.rOn * a.long ≤ 4 * a.short then a.qualifying + 1 else 0 } := by
  rw [testSettling_counts h]
  exact if_neg (show ¬ 2000 ≤ a.settling + 1 by omega)

theorem testSettling_ends {a : Assessor} {prof : Profile} (count : a.settling = 1999)
    (h : qualifies prof a.short a.long = false ∨ a.qualifying < 3) :
    a.testSettling prof = { a with detector := .calm, settling := 2000, qualifying := 0 } := by
  rw [testSettling_counts h, show 2000 = a.settling + 1 by omega]
  exact if_pos (show 2000 ≤ a.settling + 1 by omega)

theorem disturbance_of_calm {a : Assessor} (h : a.detector.inEvent = false) (c : Sample) (stamp : Stamp) :
    a.disturbance c stamp = a := if_neg (by simp [h])

theorem disturbance_within {a : Assessor} {stamp onset : Stamp} (started : a.event.onset = some onset)
    (early : elapsed stamp onset < 300000) (c : Sample) : a.disturbance c stamp = a := by
  have running : ranFor stamp a.event.onset disturbanceLimit = false := by
    rw [started]; exact decide_eq_false (Nat.not_le.2 early)
  exact if_neg (by simp [running])

theorem disturbance_after {a : Assessor} {stamp onset : Stamp} (event : a.detector.inEvent = true)
    (started : a.event.onset = some onset) (late : 300000 ≤ elapsed stamp onset) (c : Sample) :
    a.disturbance c stamp = { a.noRun with
      detector := .calm, long := max 128 a.short, base := .seed c, releasing := 0, settling := 0 } :=
  if_pos (by simp [ranFor, started, event, disturbanceLimit, late])

theorem endCapture_counts {a : Assessor} (h : a.captureCount < 1023) (c : Sample) (m : Nat) :
    a.endCapture c m = { a with
      long := longAfter a.long m 6, base := a.base.follow c 6, captureCount := a.captureCount + 1 } :=
  if_neg (show ¬ 1024 ≤ a.captureCount + 1 by omega)

theorem endCapture_ends {a : Assessor} (h : a.captureCount = 1023) (c : Sample) (m : Nat) :
    a.endCapture c m = { a.noRun with
      long := longAfter a.long m 6, base := a.base.follow c 6, captureCount := 1024, detector := .calm
      awaitingSeed := false } := by
  cases a; cases h; rfl

/-! ### One sample, by the detector state in which it is taken -/

/-- The averages and baselines of a sample taken in CALM, on the state its test left. -/
def followed (b a : Assessor) (c : Sample) : Assessor :=
  { b with long := longAfter a.long (magnitude c a.base) 9, base := a.base.follow c 10 }

/-- The event record of a sample taken in EVENT or SETTLING, on the state its test left. -/
def recorded (b : Assessor) (c : Sample) (m : Nat) : Assessor := { b with event := b.event.take c m }

section
variable {a : Assessor} (prof : Profile) (c : Sample) (stamp : Stamp)

theorem sample_of_calm (h : a.detector = .calm) :
    a.sample prof c stamp =
      (((a.withShort (magnitude c a.base)).testCalm prof c stamp (magnitude c a.base)).followed a c).disturbance
        c stamp := by
  unfold sample; rw [h]; rfl

theorem sample_of_event (h : a.detector = .event) :
    a.sample prof c stamp =
      (((a.withShort (magnitude c a.base)).testEvent prof).recorded c (magnitude c a.base)).disturbance c stamp := by
  unfold sample; rw [h]; rfl

theorem sample_of_settling (h : a.detector = .settling) :
    a.sample prof c stamp =
      (((a.withShort (magnitude c a.base)).testSettling prof).recorded c (magnitude c a.base)).disturbance
        c stamp := by
  unfold sample; rw [h]; rfl

theorem sample_of_capture (h : a.detector = .capture) (seeded : a.awaitingSeed = false) :
    a.sample prof c stamp = (a.withShort (magnitude c a.base)).endCapture c (magnitude c a.base) := by
  unfold sample; rw [h]; simp only [seeded, Bool.false_eq_true, if_false]

end

end Assessor

/-! ### The magnitude and the grade -/

theorem magnitudeOf_of_perm {u v w p q r : Nat} (perm : [p, q, r].Perm [u, v, w]) (order : r ≤ q ∧ q ≤ p) :
    magnitudeOf u v w = p + q / 2 + r / 4 := by
  have sum : p + q + r = u + v + w := by simpa [Nat.add_assoc] using perm.sum_eq
  have hp : p = u ∨ p = v ∨ p = w := by simpa using (perm.mem_iff (a := p)).1 (by simp)
  have hr : r = u ∨ r = v ∨ r = w := by simpa using (perm.mem_iff (a := r)).1 (by simp)
  have hu : u = p ∨ u = q ∨ u = r := by simpa using (perm.mem_iff (a := u)).2 (by simp)
  have hv : v = p ∨ v = q ∨ v = r := by simpa using (perm.mem_iff (a := v)).2 (by simp)
  have hw : w = p ∨ w = q ∨ w = r := by simpa using (perm.mem_iff (a := w)).2 (by simp)
  have largest : max u (max v w) = p := by omega
  have smallest : min u (min v w) = r := by omega
  have middle : u + v + w - p - r = q := by omega
  simp only [magnitudeOf, largest, smallest, middle]

theorem gradeOf_eq_count (peak : Nat) :
    (gradeOf peak).val = [41, 164, 410, 820, 1639, 3277, 6554].countP (· ≤ peak) := by
  simp only [List.countP_cons, List.countP_nil, decide_eq_true_eq, gradeOf]
  repeat' split
  all_goals omega

/-- Settles O11: each clause by the case of its test that its premises name. -/
theorem detectorStateChanges : Obligations.DetectorStateChanges := by
  unfold Obligations.DetectorStateChanges
  refine ⟨?_, ?_, ?_, ?_, ?_, ?_, ?_, fun peak => gradeOf_eq_count peak, ?_, ?_, ?_, ?_, ?_, ?_, ?_⟩
  · intro a prof c stamp onset calm run started on early
    have count : (a.withShort (magnitude c a.base)).qualifying = 3 := run
    rw [Assessor.sample_of_calm prof c stamp calm, Assessor.testCalm_opens (qualifies_iff.2 on) count,
      Assessor.extendRun_goes_on (by omega), ← started]
    refine (Assessor.disturbance_within ?_ early c).trans rfl
    exact started
  · intro a prof c stamp onset event run started off early
    have count : 199 ≤ (a.withShort (magnitude c a.base)).releasing := Nat.le_of_eq run.symm
    rw [Assessor.sample_of_event prof c stamp event, Assessor.testEvent_settles (releases_iff.2 off) count]
    refine (Assessor.disturbance_within ?_ early c).trans rfl
    exact started
  · intro a prof c stamp onset settling run started on early
    have count : 3 ≤ (a.withShort (magnitude c a.base)).qualifying := Nat.le_of_eq run.symm
    rw [Assessor.sample_of_settling prof c stamp settling,
      Assessor.testSettling_returns (qualifies_iff.2 on) count]
    refine (Assessor.disturbance_within ?_ early c).trans rfl
    exact started
  · intro a prof c stamp settling count runs
    rw [Assessor.sample_of_settling prof c stamp settling,
      Assessor.testSettling_ends (a := a.withShort _) count (runs.imp not_qualifies_iff.2 id)]
    exact (Assessor.disturbance_of_calm rfl c stamp).trans rfl
  · intro a prof c stamp onset event started late
    rw [Assessor.sample_of_event prof c stamp event]
    by_cases stays : a.releasing < 199 ∨
        releases prof (a.withShort (magnitude c a.base)).short (a.withShort (magnitude c a.base)).long = false
    · rw [Assessor.testEvent_stays (a := a.withShort _) stays]
      refine (Assessor.disturbance_after ?_ ?_ late c).trans rfl
      · exact congrArg Detector.inEvent event
      · exact started
    · obtain ⟨run, off⟩ := not_or.1 stays
      rw [Assessor.testEvent_settles (a := a.withShort _) (Bool.eq_true_of_not_eq_false off) (Nat.le_of_not_lt run)]
      refine (Assessor.disturbance_after rfl ?_ late c).trans rfl
      exact started
  · intro a prof c stamp capture seeded count
    rw [Assessor.sample_of_capture prof c stamp capture seeded, Assessor.endCapture_ends (a := a.withShort _) count,
      seeded]
    rfl
  · intro a prof c stamp capture seeded count
    rw [Assessor.sample_of_capture prof c stamp capture seeded, Assessor.endCapture_counts (a := a.withShort _) count]
    rfl
  · intro a prof c stamp onset settling started late counts
    rw [Assessor.sample_of_settling prof c stamp settling]
    by_cases returns : prof.rOn * a.long ≤ 4 * (a.short + (16 * (magnitude c a.base : Int) - a.short) / 8)
        ∧ 3 ≤ a.qualifying
    · rw [Assessor.testSettling_returns (a := a.withShort _) (qualifies_iff.2 returns.1) returns.2]
      refine (Assessor.disturbance_after rfl ?_ late c).trans rfl
      exact started
    · have runs := (not_and_or.1 returns).imp (fun off => not_qualifies_iff.2 (not_le.1 off)) Nat.lt_of_not_le
      rw [Assessor.testSettling_goes_on (a := a.withShort _) (counts.resolve_right returns) runs]
      refine (Assessor.disturbance_after ?_ ?_ late c).trans rfl
      · exact congrArg Detector.inEvent settling
      · exact started
  · intro a prof c stamp calm on short
    rw [Assessor.sample_of_calm prof c stamp calm,
      Assessor.testCalm_extends (a := a.withShort _) (qualifies_iff.2 on) short, Assessor.extendRun_eq]
    refine (Assessor.disturbance_of_calm ?_ c stamp).trans rfl
    exact congrArg Detector.inEvent calm
  · intro a prof c stamp calm off
    rw [Assessor.sample_of_calm prof c stamp calm, Assessor.testCalm_breaks (not_qualifies_iff.2 off)]
    refine (Assessor.disturbance_of_calm ?_ c stamp).trans rfl
    exact congrArg Detector.inEvent calm
  · intro a prof c stamp onset event started early runs
    rw [Assessor.sample_of_event prof c stamp event,
      Assessor.testEvent_stays (a := a.withShort _) (runs.imp id not_releases_iff.2)]
    refine (Assessor.disturbance_within ?_ early c).trans rfl
    exact started
  · intro a prof c stamp onset settling started early count runs
    rw [Assessor.sample_of_settling prof c stamp settling,
      Assessor.testSettling_goes_on (a := a.withShort _) count (runs.imp not_qualifies_iff.2 id)]
    refine (Assessor.disturbance_within ?_ early c).trans rfl
    exact started
  · intro c base p q r perm order
    exact magnitudeOf_of_perm perm order
  · intro a prof c stamp onset calm run started on late
    have count : (a.withShort (magnitude c a.base)).qualifying = 3 := run
    rw [Assessor.sample_of_calm prof c stamp calm, Assessor.testCalm_opens (qualifies_iff.2 on) count,
      Assessor.extendRun_goes_on (by omega)]
    refine (Assessor.disturbance_after (onset := onset) rfl ?_ late c).trans ?_
    · exact started
    · rw [← started, calm]; rfl

end Sys2Proof.Machine
end


section
/-! PROOFS. The Sample Port at a frame end and at silence: what it takes and what it delivers, case by case. -/

namespace Sys2Proof.Machine

/-- The identical count that a frame's triple gives, before its limit of 2048 (R12). -/
def Port.alike (p : Port) (last counts : Sample) : Nat :=
  if last.x = counts.x ∧ last.y = counts.y ∧ last.z = counts.z then p.identical + 1 else 1

theorem Sample.sameTriple_iff (a b : Sample) : a.sameTriple b = true ↔ a.x = b.x ∧ a.y = b.y ∧ a.z = b.z := by
  simp [Sample.sameTriple, and_assoc]

theorem Port.identicalAfter_eq {p : Port} {last : Sample} (h : p.lastGood = some last) (counts : Sample) :
    p.identicalAfter counts = min 2048 (p.alike last counts) := by
  unfold Port.identicalAfter Port.alike
  simp only [h, Sample.sameTriple_iff]
  split <;> rfl

theorem Port.identicalAfter_none {p : Port} (h : p.lastGood = none) (counts : Sample) : p.identicalAfter counts = 1 := by
  simp [Port.identicalAfter, h]

/-- A frame taken and tracked in TRACKING. -/
theorem Port.take_track {p : Port} (now : Stamp) (f : Frame) (hstatus : p.status = .tracking) (hrecovery : p.recovery = 0) :
    (p.take f).track now = { p with
      lastSeq := some f.seq, lastGood := some f.counts, missing := 0, frameTimer := some now
      identical := p.identicalAfter f.counts } := by
  cases p
  cases hstatus
  cases hrecovery
  rfl

/-! ### A sound frame, by what it is found to be -/

theorem Port.arrive_of_less {p : Port} {f : Frame} (h : p.identicalAfter f.counts < 2048) (now : Stamp)
    (held : List Delivery) : p.arrive now f held = ((p.take f).track now, held ++ [.sample f.counts now false]) :=
  if_neg (Nat.not_le.2 h)

theorem Port.arrive_of_stuck {p : Port} {f : Frame} (h : 2048 ≤ p.identicalAfter f.counts) (now : Stamp)
    (held : List Delivery) : p.arrive now f held = ((p.take f).lose 0, held ++ [.loss]) :=
  if_pos h

theorem Port.recover_of_less {p : Port} {f : Frame} {good : Bool} {run : Nat} (hrun : (p.take f).nextRun good = run)
    (h : run < 200) (now : Stamp) :
    p.recover now f good = ({ p.take f with recovery := run, frameTimer := some now }, []) := by
  subst hrun
  exact if_neg (Nat.not_le.2 h)

theorem Port.recover_of_full {p : Port} {f : Frame} {good : Bool} (hrun : (p.take f).nextRun good = 200) (now : Stamp) :
    p.recover now f good = ((p.take f).track now, [.restoration, .sample f.counts now false]) := by
  exact if_pos (Nat.le_of_eq hrun.symm)

section
variable {p : Port} {f : Frame} {n : Byte} {g : Sample}

theorem Port.sound_of_start (now : Stamp) (h : p.status = .start) : p.sound now f = p.arrive now f [] := by
  simp only [Port.sound, h]

theorem Port.sound_of_first (now : Stamp) (h : p.status = .tracking) (hn : p.lastSeq = none) :
    p.sound now f = p.arrive now f [] := by simp only [Port.sound, h, hn]

theorem Port.sound_of_near (now : Stamp) (h : p.status = .tracking) (hn : p.lastSeq = some n) (hg : p.lastGood = some g)
    (h1 : 1 ≤ (f.seq - n).toNat) (h4 : (f.seq - n).toNat ≤ 4) :
    p.sound now f = p.arrive now f (heldSamples g now ((f.seq - n).toNat - 1)) := by
  simp only [Port.sound, h, hn, hg]
  rw [if_neg (Nat.one_le_iff_ne_zero.1 h1), if_pos h4]

theorem Port.sound_of_far (now : Stamp) (h : p.status = .tracking) (hn : p.lastSeq = some n)
    (h5 : 5 ≤ (f.seq - n).toNat) : p.sound now f = p.longGap now f := by
  simp only [Port.sound, h, hn]
  rw [if_neg (by omega), if_neg (by omega)]

theorem Port.sound_of_lost_first (now : Stamp) (h : p.status = .lost) (hn : p.lastSeq = none) :
    p.sound now f = p.recover now f false := by simp only [Port.sound, h, hn]

theorem Port.sound_of_lost_repeat (now : Stamp) (h : p.status = .lost) (hn : p.lastSeq = some f.seq) :
    p.sound now f = ({ p with recovery := 0 }, []) := by simp only [Port.sound, h, hn, if_true]

theorem Port.sound_of_lost (now : Stamp) (h : p.status = .lost) (hn : p.lastSeq = some n) (hne : f.seq ≠ n) :
    p.sound now f = p.recover now f (f.seq - n = 1) := by simp only [Port.sound, h, hn, if_neg hne]

end

/-! ### The frame end -/

section
variable {p : Port} {bits : List Bool} (now : Stamp)

theorem Port.frameEnd_of_cut (h : p.awaitLow = true) : p.frameEnd now bits = ({ p with awaitLow := false }, []) :=
  if_pos h

theorem Port.frameEnd_of_missing (hcut : p.awaitLow = false) (h : (p.clockFrame bits).soundFrame? = none) :
    p.frameEnd now bits = (p.clockFrame bits).missed := by
  simp [Port.frameEnd, hcut, h]

theorem Port.missed_of_lost (h : p.status = .lost) : p.missed = ({ p with recovery := 0 }, []) := by
  simp only [Port.missed, h]

theorem Port.missed_of_few (h : p.status ≠ .lost) (few : p.missing < 4) :
    p.missed = ({ p with missing := p.missing + 1 }, []) := by
  unfold Port.missed
  split
  · next hlost => exact absurd hlost h
  · exact if_neg (by omega)
  · exact if_neg (by omega)

theorem Port.missed_of_four (h : p.status ≠ .lost) (four : 4 ≤ p.missing) : p.missed = (p.lose 0, [.loss]) := by
  unfold Port.missed
  split
  · next hlost => exact absurd hlost h
  · exact if_pos (by omega)
  · exact if_pos (by omega)

theorem Port.timeout_of_lost (h : p.status = .lost) : p.timeout = ({ p with frameTimer := none, recovery := 0 }, []) := by
  simp only [Port.timeout, h]

theorem Port.timeout_of_heard (h : p.status ≠ .lost) : p.timeout = ({ p.lose 0 with frameTimer := none }, [.loss]) := by
  unfold Port.timeout
  split
  · next hlost => exact absurd hlost h
  · rfl
  · rfl

end

/-! ### A frame end in each status -/

/-- The recovery run after a sound frame that is no repeat (R14). -/
def Port.runAfter (p : Port) (f : Frame) (n : Byte) (g : Sample) : Nat :=
  if 2048 ≤ p.alike g f.counts then 0 else if f.seq = n + 1 then p.recovery + 1 else 1

theorem Port.identical_clockFrame {p : Port} {g : Sample} (hg : p.lastGood = some g) (bits : List Bool) (c : Sample) :
    (p.clockFrame bits).identicalAfter c = min 2048 (p.alike g c) := by
  rw [Port.identicalAfter_eq (by rw [Port.clockFrame_lastGood, hg]), Port.alike, Port.clockFrame_identical, Port.alike]

theorem Port.nextRun_clockFrame {p : Port} {g : Sample} (hg : p.lastGood = some g) (bits : List Bool) (f : Frame)
    (n : Byte) : ((p.clockFrame bits).take f).nextRun (f.seq - n = 1) = p.runAfter f n g := by
  have hgood : (f.seq - n = 1) = (f.seq = n + 1) := by
    refine propext ⟨fun h => ?_, fun h => ?_⟩ <;> bv_omega
  simp only [Port.nextRun, Port.runAfter, Port.take_identical, Port.take_recovery, Port.clockFrame_recovery,
    Port.identical_clockFrame hg, hgood, decide_eq_true_eq, Nat.le_min, le_refl, true_and]

section
variable {p : Port} {bits : List Bool} {f : Frame} {n : Byte} {g : Sample} (now : Stamp)
variable (hcut : p.awaitLow = false) (hframe : (p.clockFrame bits).soundFrame? = some f)
include hcut hframe

/-- A sound frame in sequence that is not found stuck (R5, R7). -/
theorem Port.frameEnd_in_sequence (hstatus : p.status = .tracking) (hrecovery : p.recovery = 0) (hn : p.lastSeq = some n)
    (hg : p.lastGood = some g) (h1 : 1 ≤ (f.seq - n).toNat) (h4 : (f.seq - n).toNat ≤ 4)
    (halike : p.alike g f.counts < 2048) :
    p.frameEnd now bits = ({ p.clockFrame bits with
        lastSeq := some f.seq, lastGood := some f.counts, missing := 0, frameTimer := some now
        identical := p.alike g f.counts },
      heldSamples g now ((f.seq - n).toNat - 1) ++ [.sample f.counts now false]) := by
  have hidentical : (p.clockFrame bits).identicalAfter f.counts = p.alike g f.counts := by
    rw [Port.identical_clockFrame hg, Nat.min_eq_right (Nat.le_of_lt halike)]
  rw [Port.frameEnd_of_sound now hcut hframe, Port.sound_of_near now (by simpa) (by simpa) (by simpa) h1 h4,
    Port.arrive_of_less (by omega), Port.take_track now f (by simpa) (by simpa), hidentical]

/-- The first sound frame (R5, R9). -/
theorem Port.frameEnd_in_start (hstatus : p.status = .start) (sound : p.Sound) :
    p.frameEnd now bits = ({ p.clockFrame bits with
        lastSeq := some f.seq, lastGood := some f.counts, identical := 1, missing := 0, frameTimer := some now
        status := .tracking },
      [.sample f.counts now false]) := by
  obtain ⟨-, -, -, -, -, hgood, hfirst, -, hrecovery, -⟩ := sound
  have hnone : p.lastGood = none := by simpa [(hfirst hstatus).1] using hgood
  have hidentical : (p.clockFrame bits).identicalAfter f.counts = 1 := Port.identicalAfter_none (by simpa) _
  have hzero : (p.clockFrame bits).recovery = 0 := by
    rw [Port.clockFrame_recovery]
    exact hrecovery (by rw [hstatus]; decide)
  rw [Port.frameEnd_of_sound now hcut hframe, Port.sound_of_start now (by simpa), Port.arrive_of_less (by omega)]
  generalize p.clockFrame bits = q at *
  cases q
  cases hzero
  rw [← hidentical]
  rfl

/-- A sequence difference of 5 or more in TRACKING (R8). -/
theorem Port.frameEnd_long_gap (hstatus : p.status = .tracking) (hn : p.lastSeq = some n) (hg : p.lastGood = some g)
    (h5 : 5 ≤ (f.seq - n).toNat) :
    p.frameEnd now bits = ({ p.clockFrame bits with
        lastSeq := some f.seq, lastGood := some f.counts, status := .lost, missing := 0, frameTimer := some now
        identical := min 2048 (p.alike g f.counts)
        recovery := if 2048 ≤ p.alike g f.counts then 0 else 1 }, [.loss]) := by
  have hstuck : (if 2048 ≤ p.alike g f.counts then 0 else 1)
      = if 2048 ≤ (p.clockFrame bits).identicalAfter f.counts then 0 else 1 := by
    simp [Port.identical_clockFrame hg]
  rw [Port.frameEnd_of_sound now hcut hframe, Port.sound_of_far now (by simpa) (by simpa) h5, hstuck,
    ← Port.identical_clockFrame hg bits]
  rfl

/-- The stuck test met at a sequence difference of 1 to 4 (R12). -/
theorem Port.frameEnd_stuck (hstatus : p.status = .tracking) (hn : p.lastSeq = some n) (hg : p.lastGood = some g)
    (h1 : 1 ≤ (f.seq - n).toNat) (h4 : (f.seq - n).toNat ≤ 4) (halike : p.alike g f.counts = 2048) :
    p.frameEnd now bits = ({ p.clockFrame bits with
        lastSeq := some f.seq, lastGood := some f.counts, identical := 2048, status := .lost, missing := 0
        recovery := 0 }, heldSamples g now ((f.seq - n).toNat - 1) ++ [.loss]) := by
  have hidentical : (p.clockFrame bits).identicalAfter f.counts = 2048 := by
    rw [Port.identical_clockFrame hg, halike]
    rfl
  rw [Port.frameEnd_of_sound now hcut hframe, Port.sound_of_near now (by simpa) (by simpa) (by simpa) h1 h4,
    Port.arrive_of_stuck (by omega), ← hidentical]
  rfl

/-- A sound frame in LOST that is no repeat and does not restore (R14). -/
theorem Port.frameEnd_recovers (hstatus : p.status = .lost) (hn : p.lastSeq = some n) (hg : p.lastGood = some g)
    (hne : f.seq ≠ n) (hrun : p.runAfter f n g < 200) :
    p.frameEnd now bits = ({ p.clockFrame bits with
        lastSeq := some f.seq, lastGood := some f.counts, frameTimer := some now
        identical := min 2048 (p.alike g f.counts), recovery := p.runAfter f n g }, []) := by
  rw [Port.frameEnd_of_sound now hcut hframe, Port.sound_of_lost now (by simpa) (by simpa) hne,
    Port.recover_of_less (Port.nextRun_clockFrame hg bits f n) hrun, ← Port.identical_clockFrame hg]
  rfl

/-- The good frame that restores the sensor (R15). -/
theorem Port.frameEnd_restores (hstatus : p.status = .lost) (hn : p.lastSeq = some n) (hg : p.lastGood = some g)
    (hne : f.seq ≠ n) (hrun : p.runAfter f n g = 200) :
    p.frameEnd now bits = ({ p.clockFrame bits with
        lastSeq := some f.seq, lastGood := some f.counts, frameTimer := some now, status := .tracking, missing := 0
        recovery := 0, identical := p.alike g f.counts }, [.restoration, .sample f.counts now false]) := by
  have halike : p.alike g f.counts < 2048 := by
    by_contra hstuck
    rw [Port.runAfter, if_pos (Nat.not_lt.1 hstuck)] at hrun
    exact absurd hrun (by decide)
  have hidentical := Port.identical_clockFrame hg bits f.counts
  rw [Nat.min_eq_right (Nat.le_of_lt halike)] at hidentical
  rw [Port.frameEnd_of_sound now hcut hframe, Port.sound_of_lost now (by simpa) (by simpa) hne,
    Port.recover_of_full ((Port.nextRun_clockFrame hg bits f n).trans hrun), ← hidentical]
  rfl

/-- A repeat in LOST (R16). -/
theorem Port.frameEnd_lost_repeat (hstatus : p.status = .lost) (hn : p.lastSeq = some f.seq) :
    p.frameEnd now bits = ({ p.clockFrame bits with recovery := 0 }, []) := by
  rw [Port.frameEnd_of_sound now hcut hframe, Port.sound_of_lost_repeat now (by simpa) (by simpa)]

/-- The first sound frame in LOST (R14). -/
theorem Port.frameEnd_lost_first (hstatus : p.status = .lost) (hn : p.lastSeq = none) (hg : p.lastGood = none) :
    p.frameEnd now bits = ({ p.clockFrame bits with
        lastSeq := some f.seq, lastGood := some f.counts, frameTimer := some now, identical := 1, recovery := 1 },
      []) := by
  have hidentical : (p.clockFrame bits).identicalAfter f.counts = 1 := Port.identicalAfter_none (by simpa) _
  have hrun : ((p.clockFrame bits).take f).nextRun false = 1 := by
    rw [Port.nextRun, Port.take_identical, hidentical]
    rfl
  rw [Port.frameEnd_of_sound now hcut hframe, Port.sound_of_lost_first now (by simpa) (by simpa),
    Port.recover_of_less hrun (by decide)]
  simp only [Port.take, hidentical]

end

end Sys2Proof.Machine
end


section
/-! PROOFS. A sample that finds and leaves the detector in CALM. -/

namespace Sys2Proof.Machine

theorem LineUnit.setCadence_self (l : LineUnit) (now : Stamp) : l.setCadence now l.fast = l := by
  unfold LineUnit.setCadence
  cases h : l.fast <;> simp [← h]

/-- Nothing is to be judged where cadence and stand-down timer stand as they are judged (R68, R114). -/
theorem Actors.judge_of_judged {a : Actors} {v : View} (hfast : a.line.fast = a.wantsFast v)
    (hdown : a.seq.standDown.isSome = a.wantsStandDown v) : a.judge v = a := by
  have hline : a.line.setCadence v.now (a.wantsFast v) = a.line := by rw [← hfast, LineUnit.setCadence_self]
  have htimer : (if a.wantsStandDown v then some (a.seq.standDown.getD v.now) else none) = a.seq.standDown := by
    rw [← hdown]
    cases a.seq.standDown <;> rfl
  unfold Actors.judge
  rw [hline, htimer]

theorem Assessor.reportable_of_calm {old new : Assessor} (hold : old.detector = .calm) (hnew : new.detector = .calm) :
    old.reportable new = true ↔ old.event.clipped = false ∧ new.event.clipped = true := by
  simp [Assessor.reportable, Assessor.grade, hold, hnew]

/-- A change of the assessor within CALM, with nothing else to judge: at most a notice (R42). -/
theorem Actors.afterAssessor_of_calm {a : Actors} {v : View} {old : Assessor} (hold : old.detector = .calm)
    (hnew : v.assessor.detector = .calm) (hfast : a.line.fast = a.wantsFast v)
    (hdown : a.seq.standDown.isSome = a.wantsStandDown v) (hsolo : a.seq.solo = none) (htarget : a.seq.target = .watch)
    (hmet : a.seq.rejoinHold = false → a.seq.demand.code ≤ a.seq.stage.code) (hstep : a.coord.step ≠ .postponed) :
    a.afterAssessor v old = { a with
      line := if old.event.clipped = false ∧ v.assessor.event.clipped then a.line.urgent v.now else a.line } := by
  have hclip := Assessor.reportable_of_calm hold hnew
  have honset : (v.assessor.onset.map fun o => later o soloDelay) = a.seq.solo := by
    rw [hsolo, Assessor.onset, hnew]
    rfl
  have hnote : ∀ b : Actors, b.line.fast = a.line.fast → b.seq = a.seq → b.coord = a.coord →
      ((b.judge v).withSeq { (b.judge v).seq with solo := v.assessor.onset.map fun o => later o soloDelay }) = b := by
    intro b hline hseq hcoord
    rw [Actors.judge_of_judged (by rw [hline, hfast, Actors.wantsFast, Actors.wantsFast, hseq, hcoord])
      (by rw [hseq, hdown, Actors.wantsStandDown, Actors.wantsStandDown, hseq, hcoord]), honset, ← hseq]
    rfl
  have hfollow : ∀ b : Actors, b.followCalm v old = b := by
    intro b
    unfold Actors.followCalm
    rw [if_neg (by simp [hnew]), if_neg (by simp [hold])]
  have hform : ∀ b : Actors, b.seq = a.seq → b.coord = a.coord → b.formTarget v = b := fun b hseq hcoord =>
    Actors.formTarget_of_calm hnew (hseq ▸ htarget) (hseq ▸ hmet) (hcoord ▸ hstep)
  rw [Actors.afterAssessor_eq, hfollow]
  by_cases hc : old.event.clipped = false ∧ v.assessor.event.clipped = true
  · have hn : a.noteAssessor v old = a.urgent v := by
      unfold Actors.noteAssessor
      rw [if_pos (hclip.2 hc)]
      exact hnote _ (LineUnit.urgent_fast _ _) rfl rfl
    rw [hn, hform (a.urgent v) rfl rfl, if_pos hc]
    rfl
  · have hn : a.noteAssessor v old = a := by
      unfold Actors.noteAssessor
      rw [if_neg (mt hclip.1 hc)]
      exact hnote _ rfl rfl rfl
    rw [hn, hform a rfl rfl, if_neg hc]

/-- Settles O12: the frame is taken in sequence, and the acting blocks have nothing to judge afresh. -/
theorem calmSampleStaysInSensing : Obligations.CalmSampleStaysInSensing := by
  intro s bits f g sound hcut hframe htracking hn hg halike hcalm hstays hstep
  have hdiff : (f.seq - (f.seq - 1)).toNat = 1 := by
    have : f.seq - (f.seq - 1) = 1 := by bv_omega
    rw [this]
    rfl
  obtain ⟨htarget, hmet⟩ := sound.calm hcalm
  obtain ⟨⟨-, -, -, -, -, -, -, -, hrecovery, -⟩, -, -, -, -, -, -, -, -, -, -, -, ⟨hfast, hdown, -, hsolo, -⟩, -⟩ := sound
  have hend := Port.frameEnd_in_sequence s.clock hcut hframe htracking (hrecovery (by rw [htracking]; decide)) hn hg
    (Nat.le_of_eq hdiff.symm) (by omega) halike
  rw [hdiff] at hend
  have hnone : s.act.seq.solo = none := by
    rw [hsolo, Assessor.onset, hcalm]
    rfl
  have hact := Actors.afterAssessor_of_calm (a := s.act) (old := s.assessor)
    (v := ({ s with assessor := s.assessor.sample (profileOf s.straps) f.counts s.clock } : State).view) hcalm hstays
    (by rw [hfast]; simp only [Actors.wantsFast, State.view, hcalm, hstays])
    (by rw [hdown]; simp only [Actors.wantsStandDown, State.view, hcalm, hstays]) hnone htarget hmet hstep
  have hdone : s.fromPort (s.port.frameEnd s.clock bits) = _ :=
    (congrArg s.fromPort hend).trans (congrArg (State.withAct { s with
      port := { s.port.clockFrame bits with
        lastSeq := some f.seq, lastGood := some f.counts, missing := 0, frameTimer := some s.clock
        identical := s.port.alike g f.counts }
      assessor := s.assessor.sample (profileOf s.straps) f.counts s.clock }) hact)
  have hevent := s.event_of_drv (fun s => s.fromPort (s.port.frameEnd s.clock bits)) (by rw [hdone]; rfl)
  exact congrArg Host.Outcome.next (hevent.trans hdone)

end Sys2Proof.Machine
end


section
/-! PROOFS. What a change of the assessor makes of the acting blocks outside ENERGIZING: the turn kept or given up, the stage
raised, the quiet wait. -/

namespace Sys2Proof.Machine

/-! ### What asks for no restart telegram -/

section
variable (a : Actors) (v : View)

theorem Actors.noticed_tripOne (p : Pdu) : a.line.Noticed v.now (a.tripOne v p).line := by
  unfold Actors.tripOne
  split
  · exact a.noticed_drive v _
  · exact .refl _

theorem Actors.noticed_tripReady : a.line.Noticed v.now (a.tripReady v).line :=
  (a.noticed_tripOne v .a).trans (Actors.noticed_tripOne _ v .b)

theorem Actors.noticed_endGrace : a.line.Noticed v.now (a.endGrace v).line := by
  unfold Actors.endGrace
  split
  · exact Actors.noticed_tripReady (a.withSeq { a.seq with grace := .ended }) v
  · exact .refl _
  · exact .refl _

theorem Actors.noticed_bringIsolate : a.line.Noticed v.now (a.bringIsolate v).line := by
  unfold Actors.bringIsolate
  split
  · unfold Actors.cutAtStart
    split
    · exact Actors.noticed_endGrace (a.withSeq { a.seq with grace := .running (later v.now v.profile.grace) }) v
    · exact .refl _
  · exact .refl _
  · exact a.noticed_tripReady v

theorem Actors.noticed_bringOne (stage : Stage) : a.line.Noticed v.now (a.bringOne v stage).line := by
  cases stage with
  | isolate => exact a.noticed_bringIsolate v
  | safe =>
    show a.line.Noticed v.now (a.bringSafe v).line
    unfold Actors.bringSafe
    split
    · exact .refl _
    · split <;> exact .refl _
  | watch | alert | quiesce => exact .refl _

theorem Actors.noticed_bringUp (stage : Stage) : a.line.Noticed v.now (a.bringUp v stage).line := by
  have hall : ∀ (l : List Stage) (b : Actors), b.line.Noticed v.now (l.foldl (fun a s => a.bringOne v s) b).line := by
    intro l
    induction l with
    | nil => exact fun b => .refl _
    | cons s l ih => exact fun b => (b.noticed_bringOne v s).trans (ih _)
  exact hall _ a

end

/-! ### The turn kept or given up -/

/-- Claim, marks and windows stand only in the phases that have them (08, section 8.1). -/
def Coordinator.ClaimSound (c : Coordinator) : Prop :=
  (c.claimOutstanding = true → c.phase.inTurn = true) ∧ (c.claimPending = true → c.phase.inTurn = true)
    ∧ (c.bidWindow.isSome = true → c.phase.inTurn = true) ∧ (c.contest.isSome = true → c.phase.inTurn = true)

theorem Coordinator.claimSound {c : Coordinator} (h : c.Sound) : c.ClaimSound := by
  obtain ⟨-, -, hpending, hwindow, hcontest, hclaim, -⟩ := h
  refine ⟨hclaim, fun hp => ?_, fun hw => ?_, fun hc => ?_⟩
  · rw [(hpending hp).1]; rfl
  · rw [(hwindow hw).1]; rfl
  · rw [hcontest.1 hc]; rfl

/-- No claim is left, nor a mark or window of one. -/
def Coordinator.NoTurn (c : Coordinator) : Prop :=
  c.claimOutstanding = false ∧ c.claimPending = false ∧ c.bidWindow = none ∧ c.contest = none

theorem Coordinator.ClaimSound.noTurn {c : Coordinator} (h : c.ClaimSound) (hturn : c.phase.inTurn = false) : c.NoTurn := by
  obtain ⟨hclaim, hpending, hwindow, hcontest⟩ := h
  refine ⟨?_, ?_, ?_, ?_⟩
  · exact Bool.eq_false_iff.2 fun h => by simp [hclaim h] at hturn
  · exact Bool.eq_false_iff.2 fun h => by simp [hpending h] at hturn
  · exact Option.isSome_eq_false_iff.1 (Bool.eq_false_iff.2 fun h => by simp [hwindow h] at hturn) |> Option.isNone_iff_eq_none.1
  · exact Option.isSome_eq_false_iff.1 (Bool.eq_false_iff.2 fun h => by simp [hcontest h] at hturn) |> Option.isNone_iff_eq_none.1

theorem Coordinator.NoTurn.claimSound {c : Coordinator} (h : c.NoTurn) : c.ClaimSound := by
  obtain ⟨hclaim, hpending, hwindow, hcontest⟩ := h
  simp [Coordinator.ClaimSound, hclaim, hpending, hwindow, hcontest]

/-- The coordinator waits on as it did, or stands in QUIET_WAIT with its turn given up. -/
inductive Actors.Waits (a b : Actors) : Prop
  | kept (coord : b.coord = { a.coord with quietStart := b.coord.quietStart })
      (asked : ∀ k, b.line.restartAsked k = a.line.restartAsked k)
  | left (phase : b.coord.phase = .quietWait) (none : b.coord.NoTurn)
      (silent : a.coord.claimOutstanding = false → ∀ k, b.line.restartAsked k = a.line.restartAsked k)
      (yielded : a.coord.claimOutstanding = true → b.line.restartAsked .claim = false
        ∧ (b.line.restartAsked .yield = true ∨ a.line.restartAsked .claim = true))

section
variable {a b c : Actors} {v : View}

theorem Actors.Waits.refl (a : Actors) : a.Waits a := .kept rfl fun _ => rfl

theorem Actors.Waits.trans (h : a.Waits b) (k : b.Waits c) : a.Waits c := by
  cases h with
  | kept hcoord hasked =>
    have hclaim : b.coord.claimOutstanding = a.coord.claimOutstanding := by rw [hcoord]
    cases k with
    | kept hcoord' hasked' =>
      exact .kept (by rw [hcoord', hcoord]) fun k => (hasked' k).trans (hasked k)
    | left hphase hnone hsilent hyielded =>
      refine .left hphase hnone (fun h k => (hsilent (hclaim.trans h) k).trans (hasked k)) fun h => ?_
      rw [← hasked]
      exact hyielded (hclaim.trans h)
  | left hphase hnone hsilent hyielded =>
    have hafter : c.coord.phase = .quietWait ∧ c.coord.NoTurn ∧ ∀ k, c.line.restartAsked k = b.line.restartAsked k := by
      cases k with
      | kept hcoord hasked => exact ⟨by rw [hcoord]; exact hphase, by rw [hcoord]; exact hnone, hasked⟩
      | left hphase' hnone' hsilent' _ => exact ⟨hphase', hnone', hsilent' hnone.1⟩
    obtain ⟨hphase', hnone', hasked⟩ := hafter
    refine .left hphase' hnone' (fun h k => (hasked k).trans (hsilent h k)) fun h => ?_
    rw [hasked, hasked]
    exact hyielded h

theorem Actors.Waits.phase (h : a.Waits b) : b.coord.phase = a.coord.phase ∨ b.coord.phase = .quietWait := by
  cases h with
  | kept hcoord => exact .inl (by rw [hcoord])
  | left hphase => exact .inr hphase

theorem Actors.Waits.quietWait (h : a.Waits b) (hphase : a.coord.phase = .quietWait) : b.coord.phase = .quietWait :=
  h.phase.elim (fun hb => hb.trans hphase) id

theorem Actors.Waits.not_energizing (h : a.Waits b) (hphase : a.coord.phase ≠ .energizing) :
    b.coord.phase ≠ .energizing := by
  rcases h.phase with hb | hb <;> rw [hb]
  · exact hphase
  · decide

theorem Actors.Waits.claimSound (h : a.Waits b) (ha : a.coord.ClaimSound) : b.coord.ClaimSound := by
  cases h with
  | kept hcoord => rw [hcoord]; exact ha
  | left _ hnone => exact hnone.claimSound

/-- What is told to the Line Unit, the coordinator left alone. -/
theorem Actors.Waits.of_noticed (hl : a.line.Sound) (hcoord : b.coord = a.coord)
    (hline : a.line.Noticed v.now b.line) : a.Waits b :=
  .kept (by rw [hcoord]) (hline.restartAsked hl)

/-! ### Entry to QUIET_WAIT -/

theorem Actors.waits_setPhase (hl : a.line.Sound) (hclaim : a.coord.ClaimSound) (hne : a.coord.phase ≠ .energizing) :
    a.Waits (a.setPhase v .quietWait) := by
  by_cases hphase : a.coord.phase = .quietWait
  · rw [show a.setPhase v .quietWait = a from if_pos hphase]
    exact .refl a
  · have hnotice := a.noticed_setPhase v hphase
    have hmoved : (a.setPhase v .quietWait).coord.NoTurn := by
      rw [Actors.setPhase_coord, Coordinator.moved, if_neg hphase]
      dsimp only
      rw [if_neg hne]
      cases hturn : a.coord.phase.inTurn with
      | false => exact hclaim.noTurn hturn
      | true => exact ⟨rfl, rfl, rfl, rfl⟩
    refine .left (a.setPhase_phase v _) hmoved (fun hnone => ?_) fun hout =>
      a.setPhase_yields v hl (hclaim.1 hout) rfl hout
    have hgiven : a.givenUp v .quietWait = a.line := if_neg (by simp [hnone])
    rw [hgiven] at hnotice
    exact hnotice.restartAsked hl

theorem Actors.waits_enterQuietWait (hl : a.line.Sound) (hclaim : a.coord.ClaimSound)
    (hne : a.coord.phase ≠ .energizing) : a.Waits (a.enterQuietWait v) :=
  (Actors.waits_setPhase hl hclaim hne).trans (.kept rfl fun _ => rfl)

theorem Actors.enterQuietWait_phase (a : Actors) (v : View) : (a.enterQuietWait v).coord.phase = .quietWait :=
  a.setPhase_phase v .quietWait

theorem Actors.enterQuietWait_stage (a : Actors) (v : View) : (a.enterQuietWait v).seq.stage = a.seq.stage :=
  a.setPhase_stage v .quietWait

/-- In QUIET_WAIT the wait runs from now exactly while the detector is in CALM. -/
def Actors.WaitsNow (a : Actors) (v : View) : Prop :=
  a.coord.phase = .quietWait → a.coord.quietStart = if v.assessor.detector = .calm then some v.now else none

theorem Actors.enterQuietWait_now (a : Actors) (v : View) : (a.enterQuietWait v).WaitsNow v := fun _ => rfl

/-! ### The rise notice -/

theorem Actors.onRise_cases {a : Actors} {v : View} {new : Stage} (hne : a.coord.phase ≠ .energizing) :
    a.onRise v new = a.enterQuietWait v
      ∨ (a.onRise v new = a ∧ (a.coord.phase = .rejoin ∨ a.coord.phase = .none ∧ new.code < 2)) := by
  unfold Actors.onRise
  split
  · next h =>
    split
    · exact .inl rfl
    · next hlow => exact .inr ⟨rfl, .inr ⟨h, Nat.lt_of_not_le hlow⟩⟩
  all_goals try exact .inl rfl
  · next h => exact absurd h hne
  · next h => exact .inr ⟨rfl, .inl h⟩

end

end Sys2Proof.Machine
end


section
/-! PROOFS. One forming of T, and one change of the assessor, outside ENERGIZING. -/

namespace Sys2Proof.Machine

theorem Stage.code_injective : Function.Injective Stage.code := by
  have hcode : ∀ s : Stage, Stage.ofCode? s.code = some s := fun s => by cases s <;> rfl
  intro a b h
  exact Option.some.inj ((hcode a).symm.trans ((congrArg Stage.ofCode? h).trans (hcode b)))

theorem Stage.higher_of_lt {a b : Stage} (h : a.code < b.code) : a.higher b = b := if_pos h.le

theorem Stage.higher_of_le {a b : Stage} (h : b.code ≤ a.code) : a.higher b = a :=
  Stage.code_injective (by rw [Stage.code_higher, Nat.max_eq_left h])

/-- The stage, the turn and the quiet wait after an act of the blocks that finds the phase other than ENERGIZING. -/
structure Actors.Outside (v : View) (a b : Actors) : Prop where
  waits : a.Waits b
  grows : a.seq.stage.code ≤ b.seq.stage.code
  rise : a.seq.stage.code < b.seq.stage.code → a.coord.phase ≠ .rejoin →
    a.coord.phase ≠ .none ∨ 2 ≤ b.seq.stage.code → b.coord.phase = .quietWait
  now : a.WaitsNow v → b.WaitsNow v

section
variable {a b c : Actors} {v : View}

theorem Actors.Outside.trans (h : a.Outside v b) (k : b.Outside v c) : a.Outside v c where
  waits := h.waits.trans k.waits
  grows := h.grows.trans k.grows
  rise hlt hrejoin hnone := by
    rcases h.waits.phase with hphase | hphase
    · by_cases hbc : b.seq.stage.code < c.seq.stage.code
      · exact k.rise hbc (by rwa [hphase]) (by rwa [hphase])
      · have hsame : b.seq.stage.code = c.seq.stage.code := Nat.le_antisymm k.grows (Nat.not_lt.1 hbc)
        exact k.waits.quietWait (h.rise (by omega) hrejoin (by rwa [hsame]))
    · exact k.waits.quietWait hphase
  now := k.now ∘ h.now

/-- What leaves stage and coordinator alone, and asks for no restart telegram. -/
theorem Actors.Outside.of_noticed (hl : a.line.Sound) (hcoord : b.coord = a.coord) (hstage : b.seq.stage = a.seq.stage)
    (hline : a.line.Noticed v.now b.line) : a.Outside v b where
  waits := .of_noticed hl hcoord hline
  grows := by rw [hstage]
  rise hlt := by rw [hstage] at hlt; exact absurd hlt (Nat.lt_irrefl _)
  now h := by unfold Actors.WaitsNow; rw [hcoord]; exact h

theorem Actors.Outside.refl (hl : a.line.Sound) : a.Outside v a := .of_noticed hl rfl rfl (.refl _)

theorem Actors.outside_enterQuietWait (hl : a.line.Sound) (hclaim : a.coord.ClaimSound)
    (hne : a.coord.phase ≠ .energizing) : a.Outside v (a.enterQuietWait v) where
  waits := Actors.waits_enterQuietWait hl hclaim hne
  grows := by rw [Actors.enterQuietWait_stage]
  rise _ _ _ := a.enterQuietWait_phase v
  now _ := a.enterQuietWait_now v

/-! ### The raise and the comparison (R100 to R102) -/

/-- A raise up to its rise notice: stage, requests, urgent notice. -/
def Actors.lifted (a : Actors) (v : View) (new : Stage) : Actors := ((a.setStage v new).bringUp v new).urgent v

theorem Actors.raise_eq (a : Actors) (v : View) (new : Stage) : a.raise v new = (a.lifted v new).onRise v new := rfl

theorem Actors.lifted_coord (a : Actors) (v : View) (new : Stage) : (a.lifted v new).coord = a.coord :=
  (Actors.asks_bringUp (a.setStage v new) v new).coord

theorem Actors.lifted_stage (a : Actors) (v : View) (new : Stage) : (a.lifted v new).seq.stage = new := by
  show ((a.setStage v new).bringUp v new).seq.stage = new
  rw [(Actors.asks_bringUp (a.setStage v new) v new).seq]
  rfl

theorem Actors.lifted_noticed (a : Actors) (v : View) (new : Stage) :
    a.line.Noticed v.now (a.lifted v new).line :=
  ((LineUnit.Noticed.cadence _ (.refl _)).trans (Actors.noticed_bringUp (a.setStage v new) v new)).urgent

theorem Actors.raise_stage (a : Actors) (v : View) (new : Stage) (hne : a.coord.phase ≠ .energizing) :
    (a.raise v new).seq.stage = new := by
  rw [Actors.raise_eq]
  rcases Actors.onRise_cases (new := new) (v := v) (a := a.lifted v new) (by rwa [Actors.lifted_coord]) with h | ⟨h, -⟩
  · rw [h, Actors.enterQuietWait_stage, Actors.lifted_stage]
  · rw [h, Actors.lifted_stage]

theorem Actors.outside_raise (hl : a.line.Sound) (hclaim : a.coord.ClaimSound) (hne : a.coord.phase ≠ .energizing)
    {new : Stage} (hlt : a.seq.stage.code < new.code) : a.Outside v (a.raise v new) := by
  have hcoord := a.lifted_coord v new
  have hstage := a.lifted_stage v new
  have hnoticed := a.lifted_noticed v new
  have hsound : (a.lifted v new).line.Sound := hnoticed.served.sound hl
  have hwaits : a.Waits (a.lifted v new) := .of_noticed hl hcoord hnoticed
  rw [Actors.raise_eq]
  rcases Actors.onRise_cases (a := a.lifted v new) (new := new) (v := v) (by rwa [hcoord]) with h | ⟨h, hstay⟩
  · have hin : (a.lifted v new).Outside v ((a.lifted v new).enterQuietWait v) :=
      Actors.outside_enterQuietWait hsound (by rwa [hcoord]) (by rwa [hcoord])
    rw [h]
    refine ⟨hwaits.trans hin.waits, ?_, fun _ _ _ => Actors.enterQuietWait_phase _ v,
      fun _ => Actors.enterQuietWait_now _ v⟩
    rw [Actors.enterQuietWait_stage, hstage]
    exact hlt.le
  · rw [h]
    refine ⟨hwaits, by rw [hstage]; exact hlt.le, fun _ hrejoin hnone => ?_, fun h => ?_⟩
    · rw [hcoord] at hstay
      rw [hstage] at hnone
      rcases hstay with hr | ⟨hn, hlow⟩
      · exact absurd hr hrejoin
      · rcases hnone with hn' | hhigh
        · exact absurd hn hn'
        · omega
    · unfold Actors.WaitsNow
      rw [hcoord]
      exact h

theorem Actors.compare_cases (a : Actors) (v : View) (hhold : a.seq.rejoinHold = false) :
    (a.seq.stage.code < a.seq.demand.code ∧ a.compare v = a.raise v a.seq.demand)
      ∨ (a.seq.demand.code ≤ a.seq.stage.code ∧ a.compare v = a) := by
  by_cases hlt : a.seq.stage.code < a.seq.demand.code
  · exact .inl ⟨hlt, by simp [Actors.compare, hhold, hlt]⟩
  · exact .inr ⟨Nat.not_lt.1 hlt, Actors.compare_of_le a v (Nat.not_lt.1 hlt)⟩

theorem Actors.outside_compare (hl : a.line.Sound) (hclaim : a.coord.ClaimSound) (hne : a.coord.phase ≠ .energizing)
    (hhold : a.seq.rejoinHold = false) :
    a.Outside v (a.compare v) ∧ (a.compare v).seq.stage = a.seq.stage.higher a.seq.demand := by
  rcases a.compare_cases v hhold with ⟨hlt, h⟩ | ⟨hle, h⟩
  · rw [h, Actors.raise_stage a v _ hne, Stage.higher_of_lt hlt]
    exact ⟨Actors.outside_raise hl hclaim hne hlt, rfl⟩
  · rw [h, Stage.higher_of_le hle]
    exact ⟨.refl hl, rfl⟩

/-! ### T formed (R96) -/

theorem Actors.noticed_cutByGrade (a : Actors) (v : View) : a.line.Noticed v.now (a.cutByGrade v).line := by
  unfold Actors.cutByGrade
  split
  · exact a.noticed_endGrace v
  · exact .refl _

theorem Actors.asks_cutByGrade (a : Actors) (v : View) : Actors.Asks False False a (a.cutByGrade v) := by
  unfold Actors.cutByGrade
  split
  · exact a.asks_endGrace v
  · exact .refl _

theorem Actors.outside_cutByGrade (hl : a.line.Sound) : a.Outside v (a.cutByGrade v) :=
  .of_noticed hl (a.asks_cutByGrade v).coord (by rw [(a.asks_cutByGrade v).seq]) (a.noticed_cutByGrade v)

theorem Actors.onTarget_of_phase {a : Actors} {v : View} (h : a.coord.phase ≠ .energizing) : a.onTarget v = a := if_neg h

theorem Actors.formTarget_eq (a : Actors) (v : View) (h : a.seq.rejoinHold = false) :
    a.formTarget v = (((a.withSeq { a.seq with target := target v }).compare v).cutByGrade v).onTarget v :=
  if_neg (by simp [h])

/-- T formed outside ENERGIZING. -/
theorem Actors.outside_formTarget (hl : a.line.Sound) (hclaim : a.coord.ClaimSound)
    (hne : a.coord.phase ≠ .energizing) :
    a.Outside v (a.formTarget v)
      ∧ (a.formTarget v).seq.stage =
        if a.seq.rejoinHold then a.seq.stage else a.seq.stage.higher ((target v).higher a.seq.floor) := by
  cases hhold : a.seq.rejoinHold with
  | true =>
    rw [a.formTarget_of_hold v hhold]
    exact ⟨.of_noticed hl rfl rfl (.refl _), rfl⟩
  | false =>
    obtain ⟨hcompare, hstage⟩ := Actors.outside_compare (a := a.withSeq { a.seq with target := target v }) (v := v)
      hl hclaim hne hhold
    have hsound := (Actors.reach_compare (a.withSeq { a.seq with target := target v }) v).line.sound hl
    have hcut := Actors.outside_cutByGrade (v := v) hsound
    have hboth := hcompare.trans hcut
    have hstay := Actors.onTarget_of_phase (v := v) (hboth.waits.not_energizing hne)
    rw [a.formTarget_eq v hhold, hstay]
    have hset : a.Outside v (a.withSeq { a.seq with target := target v }) := .of_noticed hl rfl rfl (.refl _)
    refine ⟨hset.trans hboth, ?_⟩
    rw [(Actors.asks_cutByGrade _ v).seq]
    exact hstage

end

end Sys2Proof.Machine
end


section
/-! PROOFS. One forming of T in ENERGIZING, and one change of the assessor in every phase. -/

namespace Sys2Proof.Machine

section
variable {a b c : Actors} {v : View}

/-! ### T formed in ENERGIZING (R171, R172) -/

/-- The turn is aborted: QUIET_WAIT, and no claim (R172). -/
def Coordinator.Aborted (c : Coordinator) : Prop := c.phase = .quietWait ∧ c.NoTurn

theorem Actors.abort_aborted (h : a.coord.phase = .energizing) : (a.abort v).coord.Aborted := by
  have hbring := ((a.enterQuietWait v).asks_bringUp v (a.enterQuietWait v).seq.stage).coord
  have hset : (a.setPhase v .quietWait).coord.NoTurn := by
    rw [Actors.setPhase_coord, Coordinator.moved_of_turn (by rw [h]; rfl) rfl, if_pos h]
    exact ⟨rfl, rfl, rfl, rfl⟩
  have hquiet : (a.enterQuietWait v).coord.Aborted := ⟨a.enterQuietWait_phase v, hset⟩
  rw [← hbring] at hquiet
  exact hquiet

theorem Actors.raise_of_energizing (h : a.coord.phase = .energizing) (new : Stage) :
    a.raise v new = (a.lifted v new).abort v := by
  have hphase : (a.lifted v new).coord.phase = .energizing := by rw [Actors.lifted_coord, h]
  rw [Actors.raise_eq]
  unfold Actors.onRise
  rw [hphase]

/-- In ENERGIZING a comparison that raises aborts the turn. -/
theorem Actors.compare_energizing (hphase : a.coord.phase = .energizing) :
    (a.compare v).coord.Aborted ∨ a.compare v = a := by
  cases hhold : a.seq.rejoinHold with
  | true => exact .inr (a.compare_of_hold v hhold)
  | false =>
    rcases a.compare_cases v hhold with ⟨-, h⟩ | ⟨-, h⟩
    · rw [h, Actors.raise_of_energizing hphase]
      exact .inl (Actors.abort_aborted (by rw [Actors.lifted_coord, hphase]))
    · exact .inr h

/-- The stage lowered in ENERGIZING: it stands, or the demand raises it again and the turn is aborted. -/
theorem Actors.lower_cases (a : Actors) (v : View) (hphase : a.coord.phase = .energizing) :
    (a.lower v).coord.Aborted
      ∨ ((a.lower v).coord = a.coord ∧ (a.lower v).seq.stage = a.seq.stage.lowered) := by
  have hgo : ∀ b : Actors, b.coord = a.coord → b.seq.stage = a.seq.stage.lowered →
      (b.compare v).coord.Aborted
        ∨ ((b.compare v).coord = a.coord ∧ (b.compare v).seq.stage = a.seq.stage.lowered) := by
    intro b hb hstage
    refine (Actors.compare_energizing (v := v) (by rw [hb, hphase])).imp_right fun h => ?_
    rw [h]
    exact ⟨hb, hstage⟩
  exact hgo _ rfl rfl

/-- A turn over without a raise: the stage ALERT it had, or WATCH. -/
structure Actors.TurnOver (a b : Actors) : Prop where
  stage : a.seq.stage = .alert
  low : b.seq.stage.code ≤ 1
  phase : b.coord.phase = .none ∨ b.coord.phase = .awaitPermit
  noTurn : b.coord.NoTurn

/-- Step D run: the turn is over, at WATCH or stopped at ALERT, or it is aborted. -/
theorem Actors.runD_cases (hl : a.line.Sound) (hcoord : a.coord.Sound) (hphase : a.coord.phase = .energizing)
    (hstage : a.seq.stage = .alert) : (a.runD v).coord.Aborted ∨ a.TurnOver (a.runD v) := by
  obtain ⟨-, -, hpending, hwindow, hcontest, -⟩ := hcoord
  have hp : a.coord.claimPending = false := Bool.eq_false_iff.2 fun h => by simp [hphase] at hpending; simp [hpending] at h
  have hw : a.coord.bidWindow = none := Option.eq_none_iff_forall_ne_some.2 fun x h => by simp [h, hphase] at hwindow
  have hc : a.coord.contest = none := Option.eq_none_iff_forall_ne_some.2 fun x h => by simp [h, hphase] at hcontest
  rw [Actors.runD_eq]
  split
  · rcases Actors.lower_cases ((a.released .advise .lift).inStep .none) v hphase with h | ⟨h, hlow⟩
    · rw [if_neg (by rw [h.1]; decide)]
      exact .inl h
    · have hwatch : (((a.released .advise .lift).inStep .none).lower v).seq.stage = .watch :=
        hlow.trans (congrArg Stage.lowered hstage)
      have hline := (Actors.touch_lower ((a.released .advise .lift).inStep .none) v).line.sound hl
      have hlphase : (((a.released .advise .lift).inStep .none).lower v).coord.phase = .energizing := by
        rw [h]; exact hphase
      obtain ⟨hended, hseq, -⟩ := Actors.endTurn_spec v hline hlphase hwatch
      rw [if_pos hlphase]
      refine .inr ⟨hstage, ?_, .inl ?_, ?_⟩
      · rw [hseq, hwatch]; decide
      · rw [hended]
      · rw [hended, h]
        exact ⟨rfl, hp, hw, hc⟩
  · obtain ⟨hstopped, hseq, -⟩ := Actors.stop_of_energizing (a := a.released .advise .lift) (v := v) hphase
    refine .inr ⟨hstage, ?_, .inr ?_, ?_⟩
    · rw [hseq]; exact (congrArg Stage.code hstage).le
    · rw [hstopped]
    · rw [hstopped]; exact ⟨rfl, rfl, rfl, rfl⟩

/-- In ENERGIZING a forming of T goes on with the turn, aborts it, or runs the postponed step D. -/
theorem Actors.formTarget_energizing (hl : a.line.Sound) (hcoord : a.coord.Sound) (hphase : a.coord.phase = .energizing)
    (hhold : a.seq.rejoinHold = false) (hfits : a.Fits) :
    (a.formTarget v).coord.Aborted
      ∨ ((a.formTarget v).coord = a.coord ∧ (a.formTarget v).seq.stage = a.seq.stage ∧ (target v).code < 2)
      ∨ (a.TurnOver (a.formTarget v) ∧ (target v).code < 2) := by
  rw [a.formTarget_eq v hhold]
  have hask := Actors.asks_cutByGrade ((a.withSeq { a.seq with target := target v }).compare v) v
  rcases Actors.compare_energizing (a := a.withSeq { a.seq with target := target v }) (v := v) hphase with h | h
  · rw [← hask.coord] at h
    rw [Actors.onTarget_of_phase (by rw [h.1]; decide)]
    exact .inl h
  · rw [h] at hask ⊢
    have hkept := hask.coord
    have hline : ((a.withSeq { a.seq with target := target v }).cutByGrade v).line.Sound :=
      (Actors.noticed_cutByGrade (a.withSeq { a.seq with target := target v }) v).served.sound hl
    have hstage : ((a.withSeq { a.seq with target := target v }).cutByGrade v).seq.stage = a.seq.stage := by
      rw [hask.seq]; rfl
    have htarget : ((a.withSeq { a.seq with target := target v }).cutByGrade v).seq.target = target v := by
      rw [hask.seq]; rfl
    generalize (a.withSeq { a.seq with target := target v }).cutByGrade v = b at hkept hstage htarget hline
    have hbphase : b.coord.phase = .energizing := by rw [hkept]; exact hphase
    unfold Actors.onTarget
    rw [if_pos hbphase, htarget]
    split
    · exact .inl (Actors.abort_aborted hbphase)
    · next hlow =>
      split
      · next hrun =>
        simp only [Bool.and_eq_true, decide_eq_true_eq] at hrun
        have hpostponed : a.coord.step = .postponed := by rw [← hrun.2, hkept]; rfl
        have halert : a.seq.stage = .alert := by
          rcases hfits with hnone | hsome
          · rw [hpostponed] at hnone; cases hnone
          · rw [hpostponed] at hsome; exact (Option.some.inj hsome).symm
        rcases Actors.runD_cases (v := v) hline (by rw [hkept]; exact hcoord) hbphase (hstage.trans halert) with hq | hover
        · exact .inl hq
        · exact .inr (.inr ⟨⟨halert, hover.low, hover.phase, hover.noTurn⟩, Nat.lt_of_not_le hlow⟩)
      · exact .inr (.inl ⟨hkept, hstage, Nat.lt_of_not_le hlow⟩)

/-! ### One change of the assessor -/

theorem Actors.noteAssessor_stage (a : Actors) (v : View) (old : Assessor) :
    (a.noteAssessor v old).seq.stage = a.seq.stage ∧ (a.noteAssessor v old).seq.floor = a.seq.floor
      ∧ (a.noteAssessor v old).seq.rejoinHold = a.seq.rejoinHold := by
  unfold Actors.noteAssessor
  split <;> exact ⟨rfl, rfl, rfl⟩

theorem Actors.noticed_noteAssessor (a : Actors) (v : View) (old : Assessor) :
    a.line.Noticed v.now (a.noteAssessor v old).line := by
  unfold Actors.noteAssessor
  split
  · exact .cadence _ (.urgent (.refl _))
  · exact .cadence _ (.refl _)

theorem Actors.noteAssessor_due (hl : a.line.Sound) {old : Assessor} (h : old.reportable v.assessor = true) :
    (a.noteAssessor v old).line.urgentDue = true := by
  unfold Actors.noteAssessor
  rw [if_pos h]
  have hurgent := LineUnit.urgentDue_urgent a.line v.now hl.nonempty
  exact LineUnit.urgentDue_setCadence (l := a.line.urgent v.now) (LineUnit.Served.sound (.urgent (.refl _)) hl) _ _ hurgent

/-- The phases that the detector's leaving CALM turns to QUIET_WAIT (R154, R165). -/
abbrev Phase.awaits (p : Phase) : Prop := p ∈ [Phase.quietWait, .awaitPermit, .bidding, .contest, .backoff]

theorem Actors.onLeftCalm_cases (a : Actors) (v : View) :
    (a.onLeftCalm v = a.enterQuietWait v ∧ a.coord.phase.awaits) ∨ (a.onLeftCalm v = a ∧ ¬ a.coord.phase.awaits) := by
  unfold Actors.onLeftCalm
  cases a.coord.phase with
  | quietWait | awaitPermit | bidding | contest | backoff => exact .inl ⟨rfl, by decide⟩
  | none | energizing | rejoin => exact .inr ⟨rfl, by decide⟩

theorem Actors.outside_onEnteredCalm (hcalm : v.assessor.detector = .calm) :
    a.Waits (a.onEnteredCalm v) ∧ (a.onEnteredCalm v).seq = a.seq ∧ (a.onEnteredCalm v).WaitsNow v := by
  unfold Actors.onEnteredCalm
  split
  · exact ⟨.kept rfl fun _ => rfl, rfl, fun _ => (if_pos hcalm).symm⟩
  · next h => exact ⟨.refl a, rfl, fun hq => absurd hq h⟩

/-- What following the detector into or out of CALM does outside ENERGIZING. -/
theorem Actors.followCalm_spec (hl : a.line.Sound) (hclaim : a.coord.ClaimSound) (hne : a.coord.phase ≠ .energizing)
    (old : Assessor) :
    a.Waits (a.followCalm v old) ∧ (a.followCalm v old).seq.stage = a.seq.stage
      ∧ (old.detector = .calm → v.assessor.detector ≠ .calm → a.coord.phase.awaits →
        (a.followCalm v old).coord.phase = .quietWait)
      ∧ (((old.detector = .calm ↔ v.assessor.detector = .calm) → a.WaitsNow v) → (a.followCalm v old).WaitsNow v) := by
  unfold Actors.followCalm
  by_cases hleft : old.detector = .calm ∧ v.assessor.detector ≠ .calm
  · rw [if_pos (by simpa using hleft)]
    rcases a.onLeftCalm_cases v with ⟨h, -⟩ | ⟨h, hnot⟩
    · rw [h]
      exact ⟨Actors.waits_enterQuietWait hl hclaim hne, a.enterQuietWait_stage v, fun _ _ _ => a.enterQuietWait_phase v,
        fun _ => a.enterQuietWait_now v⟩
    · rw [h]
      refine ⟨.refl a, rfl, fun _ _ hin => absurd hin hnot, fun _ hq => absurd ?_ hnot⟩
      rw [hq]
      decide
  · rw [if_neg (by simpa using hleft)]
    by_cases hentered : old.detector ≠ .calm ∧ v.assessor.detector = .calm
    · rw [if_pos (by simpa using hentered)]
      obtain ⟨hwaits, hseq, hnow⟩ := Actors.outside_onEnteredCalm (a := a) (v := v) hentered.2
      exact ⟨hwaits, by rw [hseq], fun hold hnew => absurd ⟨hold, hnew⟩ hleft, fun _ => hnow⟩
    · rw [if_neg (by simpa using hentered)]
      exact ⟨.refl a, rfl, fun hold hnew => absurd ⟨hold, hnew⟩ hleft, fun h => h (by tauto)⟩

/-- One change of the assessor outside ENERGIZING. -/
theorem Actors.afterAssessor_outside (hl : a.line.Sound) (hclaim : a.coord.ClaimSound) (hne : a.coord.phase ≠ .energizing)
    (old : Assessor) :
    a.Waits (a.afterAssessor v old)
      ∧ (a.seq.stage.code < (a.afterAssessor v old).seq.stage.code → a.coord.phase ≠ .rejoin →
        a.coord.phase ≠ .none ∨ 2 ≤ (a.afterAssessor v old).seq.stage.code →
        (a.afterAssessor v old).coord.phase = .quietWait)
      ∧ ((a.afterAssessor v old).seq.stage =
        if a.seq.rejoinHold then a.seq.stage else a.seq.stage.higher ((target v).higher a.seq.floor))
      ∧ (old.detector = .calm → v.assessor.detector ≠ .calm → a.coord.phase.awaits →
        (a.afterAssessor v old).coord.phase = .quietWait)
      ∧ (((old.detector = .calm ↔ v.assessor.detector = .calm) → a.WaitsNow v) → (a.afterAssessor v old).WaitsNow v) := by
  have hnoticed := a.noticed_noteAssessor v old
  have hcoord := a.noteAssessor_coord v old
  obtain ⟨hstage, hfloor, hhold⟩ := a.noteAssessor_stage v old
  have hnl : (a.noteAssessor v old).line.Sound := hnoticed.served.sound hl
  have hnote : a.Waits (a.noteAssessor v old) := .of_noticed hl hcoord hnoticed
  obtain ⟨hfollow, hfstage, hleaves, hnow⟩ := Actors.followCalm_spec (v := v) hnl (hnote.claimSound hclaim)
    (hnote.not_energizing hne) old
  have hreach := (a.noteAssessor v old).reach_followCalm v old
  have hfne := (hnote.trans hfollow).not_energizing hne
  obtain ⟨hform, hformed⟩ := Actors.outside_formTarget (v := v) (hreach.line.sound hnl)
    ((hnote.trans hfollow).claimSound hclaim) hfne
  rw [Actors.afterAssessor_eq]
  have hbefore : ((a.noteAssessor v old).followCalm v old).seq.stage = a.seq.stage := hfstage.trans hstage
  refine ⟨(hnote.trans hfollow).trans hform.waits, fun hlt hrejoin hnone => ?_, ?_, fun hold hnew hin => ?_, fun h => ?_⟩
  · rcases (hnote.trans hfollow).phase with hp | hp
    · exact hform.rise (by rwa [hbefore]) (by rwa [hp]) (by rwa [hp])
    · exact hform.waits.quietWait hp
  · rw [hformed, hbefore, hreach.floor, hreach.rejoinHold, hfloor, hhold]
  · exact hform.waits.quietWait (hleaves hold hnew (by rwa [hcoord]))
  · exact hform.now (hnow fun hiff hp => by rw [hcoord] at hp ⊢; exact h hiff hp)

/-- One change of the assessor in ENERGIZING. -/
theorem Actors.afterAssessor_energizing (hl : a.line.Sound) (hcoord : a.coord.Sound)
    (hphase : a.coord.phase = .energizing) (hhold : a.seq.rejoinHold = false) (hfits : a.Fits) (old : Assessor) :
    (a.afterAssessor v old).coord.Aborted
      ∨ ((a.afterAssessor v old).coord = a.coord ∧ (a.afterAssessor v old).seq.stage = a.seq.stage
        ∧ (target v).code < 2)
      ∨ (a.TurnOver (a.afterAssessor v old) ∧ (target v).code < 2) := by
  have hkept := a.noteAssessor_coord v old
  obtain ⟨hstage, -, hnhold⟩ := a.noteAssessor_stage v old
  have hline : (a.noteAssessor v old).line.Sound := (a.noticed_noteAssessor v old).served.sound hl
  have hfollow : (a.noteAssessor v old).followCalm v old = a.noteAssessor v old := by
    have hn : (a.noteAssessor v old).coord.phase = .energizing := by rw [hkept, hphase]
    unfold Actors.followCalm Actors.onLeftCalm Actors.onEnteredCalm
    rw [hn]
    split
    · rfl
    · split <;> rfl
  rw [Actors.afterAssessor_eq, hfollow]
  have hform := Actors.formTarget_energizing (v := v) hline (by rw [hkept]; exact hcoord) (by rw [hkept]; exact hphase)
    (hnhold.trans hhold) (by unfold Actors.Fits; rw [hkept, hstage]; exact hfits)
  rw [hkept, hstage] at hform
  refine hform.imp_right (Or.imp_right fun ⟨hover, hlow⟩ => ⟨⟨?_, hover.low, hover.phase, hover.noTurn⟩, hlow⟩)
  rw [← hstage]
  exact hover.stage

end

end Sys2Proof.Machine
end


section
/-! PROOFS. The deliveries of one port event, one after another, and the answer of the acting blocks to them (R4, R42, R96, R98,
R154, R165, R172). -/

namespace Sys2Proof.Machine

/-! ### One change of the assessor, in every phase -/

theorem Assessor.reportable_iff (old new : Assessor) :
    old.reportable new = true ↔ new.detector ≠ old.detector ∨ new.grade ≠ old.grade
      ∨ (old.event.clipped = false ∧ new.event.clipped = true) := by
  simp only [Assessor.reportable, Bool.or_eq_true, Bool.and_eq_true, decide_eq_true_eq, Bool.not_eq_true', or_assoc,
    ne_comm (a := old.detector), ne_comm (a := old.grade)]

/-- What is to be reported of two changes together is to be reported of one of them. -/
theorem Assessor.reportable_between {a b c : Assessor} (h : a.reportable c = true) :
    a.reportable b = true ∨ b.reportable c = true := by
  by_contra hnone
  obtain ⟨hab, hbc⟩ := not_or.1 hnone
  rw [Assessor.reportable_iff] at h hab hbc
  simp only [not_or, not_not] at hab hbc
  obtain ⟨hd, hg, hclip⟩ := hab
  obtain ⟨hd', hg', hclip'⟩ := hbc
  rw [hd', hd, hg', hg] at h
  rcases h with h | h | ⟨hold, hnew⟩
  · exact h rfl
  · exact h rfl
  · cases hb : b.event.clipped with
    | true => exact hclip ⟨hold, hb⟩
    | false => exact hclip' ⟨hb, hnew⟩

theorem Actors.afterAssessor_kept (a : Actors) (v : View) (old : Assessor) :
    a.line.Served v.now (a.afterAssessor v old).line ∧ (a.afterAssessor v old).seq.floor = a.seq.floor
      ∧ (a.afterAssessor v old).seq.rejoinHold = a.seq.rejoinHold
      ∧ (a.afterAssessor v old).seq.target = target v
      ∧ (a.line.Sound → old.reportable v.assessor = true → (a.afterAssessor v old).line.urgentDue = true) := by
  obtain ⟨-, hfloor, hhold⟩ := a.noteAssessor_stage v old
  have hnote := (a.noticed_noteAssessor v old).served
  have hfollow := (a.noteAssessor v old).reach_followCalm v old
  have hform := ((a.noteAssessor v old).followCalm v old).reach_formTarget v
  rw [Actors.afterAssessor_eq]
  refine ⟨(hnote.trans hfollow.line).trans hform.line, (hform.floor.trans hfollow.floor).trans hfloor,
    (hform.rejoinHold.trans hfollow.rejoinHold).trans hhold, Actors.formTarget_target _ v, fun hl hreport => ?_⟩
  exact (hfollow.line.trans hform.line).urgentDue (hnote.sound hl) (Actors.noteAssessor_due hl hreport)

/-! ### The deliveries of one event -/

/-- The blocks that a port event finds outside ENERGIZING, and what its deliveries so far have made of them. -/
structure State.LedOutside (s t : State) : Prop where
  waits : s.act.Waits t.act
  held : s.act.seq.rejoinHold = true → t.act.seq.stage = s.act.seq.stage
  grows : s.act.seq.stage.code ≤ t.act.seq.stage.code
  rise : s.act.seq.stage.code < t.act.seq.stage.code → s.act.coord.phase ≠ .rejoin →
    s.act.coord.phase ≠ .none ∨ 2 ≤ t.act.seq.stage.code → t.act.coord.phase = .quietWait
  leaves : s.assessor.detector = .calm → t.assessor.detector ≠ .calm → s.act.coord.phase.awaits →
    t.act.coord.phase = .quietWait
  now : ((s.assessor.detector = .calm ↔ t.assessor.detector = .calm) → s.act.WaitsNow s.view) → t.act.WaitsNow t.view

/-- What deliveries so far have made of a state. -/
structure State.Led (s t : State) : Prop where
  frame : t = { s with port := t.port, assessor := t.assessor, act := t.act }
  line : s.act.line.Served s.clock t.act.line
  floor : t.act.seq.floor = s.act.seq.floor
  hold : t.act.seq.rejoinHold = s.act.seq.rejoinHold
  due : s.assessor.reportable t.assessor = true → t.act.line.urgentDue = true
  outside : s.act.coord.phase ≠ .energizing → s.LedOutside t
  turn : s.act.coord.phase = .energizing → s.act.seq.rejoinHold = false →
    t.act.coord.Aborted ∨ (t.act.coord = s.act.coord ∧ t.act.seq.stage = s.act.seq.stage) ∨ s.act.TurnOver t.act

/-- The parts of soundness that the answer to a delivery rests on. -/
structure State.Coherent (s : State) : Prop where
  line : s.act.line.Sound
  coord : s.act.coord.Sound
  stages : s.act.StageSound

theorem State.Led.of_port (s : State) (p : Port) : s.Led { s with port := p } where
  frame := rfl
  line := .refl _
  floor := rfl
  hold := rfl
  due hr := by simp [Assessor.reportable] at hr
  outside _ := ⟨.refl _, fun _ => rfl, le_rfl, fun hlt => absurd hlt (Nat.lt_irrefl _), fun h hn => absurd h hn,
    fun hn => hn Iff.rfl⟩
  turn _ _ := .inr (.inl ⟨rfl, rfl⟩)

theorem Actors.Waits.aborted {a b : Actors} (h : a.Waits b) (ha : a.coord.Aborted) : b.coord.Aborted := by
  obtain ⟨hphase, hnone⟩ := ha
  cases h with
  | kept hcoord => rw [hcoord]; exact ⟨hphase, hnone⟩
  | left hquiet hleft => exact ⟨hquiet, hleft⟩

/-- A turn over stays over, or a rise takes it to QUIET_WAIT. -/
theorem Actors.TurnOver.next {a b c : Actors} (h : a.TurnOver b) (hwaits : b.Waits c)
    (hgrows : b.seq.stage.code ≤ c.seq.stage.code)
    (hrise : b.seq.stage.code < c.seq.stage.code → b.coord.phase ≠ .rejoin →
      b.coord.phase ≠ .none ∨ 2 ≤ c.seq.stage.code → c.coord.phase = .quietWait) :
    c.coord.Aborted ∨ a.TurnOver c := by
  have hnone : c.coord.NoTurn := by
    cases hwaits with
    | kept hcoord => rw [hcoord]; exact h.noTurn
    | left _ hleft => exact hleft
  have hrejoin : b.coord.phase ≠ .rejoin := by rcases h.phase with hp | hp <;> rw [hp] <;> decide
  have hlow := h.low
  by_cases hhigh : 2 ≤ c.seq.stage.code
  · exact .inl ⟨hrise (by omega) hrejoin (.inr hhigh), hnone⟩
  · rcases hwaits.phase with hp | hp
    · exact .inr ⟨h.stage, by omega, by rw [hp]; exact h.phase, hnone⟩
    · exact .inl ⟨hp, hnone⟩

/-- A port event answered: T formed after its last delivery, and everything that follows (R42, R96 to R102, R154, R165, R172). -/
structure State.Formed (s t : State) : Prop extends State.Led s t where
  target : t.act.seq.target = Machine.target t.view
  reaches : s.act.seq.rejoinHold = false → s.act.coord.phase ≠ .energizing →
    (Machine.target t.view).code ≤ t.act.seq.stage.code ∧ s.act.seq.floor.code ≤ t.act.seq.stage.code
  abort : s.act.seq.rejoinHold = false → s.act.coord.phase = .energizing → 2 ≤ (Machine.target t.view).code →
    t.act.coord.phase = .quietWait

section
variable {s w : State}

theorem Stage.code_demand (stage t floor : Stage) :
    stage.code ≤ (stage.higher (t.higher floor)).code ∧ t.code ≤ (stage.higher (t.higher floor)).code
      ∧ floor.code ≤ (stage.higher (t.higher floor)).code := by
  simp only [Stage.code_higher]
  omega

/-- The stage after one delivery that finds the phase other than ENERGIZING. -/
theorem State.deliver_stage (hl : w.act.line.Sound) (hclaim : w.act.coord.ClaimSound)
    (hne : w.act.coord.phase ≠ .energizing) (hhold : w.act.seq.rejoinHold = false) (d : Delivery) :
    (w.deliver d).act.seq.stage
      = w.act.seq.stage.higher ((Machine.target (w.deliver d).view).higher w.act.seq.floor) := by
  obtain ⟨-, -, hstage, -⟩ := Actors.afterAssessor_outside
    (v := ({ w with assessor := w.assessor.take (profileOf w.straps) d } : State).view) hl hclaim hne w.assessor
  rw [hhold] at hstage
  exact hstage

/-- One more delivery, outside ENERGIZING. -/
theorem State.LedOutside.deliver (h : s.LedOutside w) (hs : s.Coherent) (hl : w.act.line.Sound)
    (hhold : w.act.seq.rejoinHold = s.act.seq.rejoinHold) (hne : s.act.coord.phase ≠ .energizing) (d : Delivery) :
    s.LedOutside (w.deliver d) := by
  have hclaim := h.waits.claimSound (Coordinator.claimSound hs.coord)
  obtain ⟨hwaits, hrise, hstage, hleaves, hnow⟩ := Actors.afterAssessor_outside
    (v := ({ w with assessor := w.assessor.take (profileOf w.straps) d } : State).view) hl hclaim
    (h.waits.not_energizing hne) w.assessor
  have hgrows : w.act.seq.stage.code ≤ (w.deliver d).act.seq.stage.code := by
    show _ ≤ (w.act.afterAssessor _ w.assessor).seq.stage.code
    rw [hstage]
    split
    · exact le_rfl
    · exact (Stage.code_demand _ _ _).1
  refine ⟨h.waits.trans hwaits, fun hh => ?_, h.grows.trans hgrows, fun hlt hrejoin hnone => ?_,
    fun hs' hn hin => ?_, fun hn => hnow fun hsame hq => ?_⟩
  · exact (hstage.trans (if_pos (hhold.trans hh))).trans (h.held hh)
  · rcases h.waits.phase with hp | hp
    · by_cases hlast : w.act.seq.stage.code < (w.deliver d).act.seq.stage.code
      · exact hrise hlast (by rwa [hp]) (by rw [hp]; exact hnone)
      · have heq : w.act.seq.stage.code = (w.deliver d).act.seq.stage.code := Nat.le_antisymm hgrows (Nat.not_lt.1 hlast)
        exact hwaits.quietWait (h.rise (by rwa [heq]) hrejoin (by rwa [heq]))
    · exact hwaits.quietWait hp
  · by_cases hcalm : w.assessor.detector = .calm
    · rcases h.waits.phase with hp | hp
      · exact hleaves hcalm hn (by rwa [hp])
      · exact hwaits.quietWait hp
    · exact hwaits.quietWait (h.leaves hs' hcalm hin)
  · have hbefore := h.now (fun hiff => hn (hiff.trans hsame)) hq
    have hclock : w.view.assessor.detector = .calm ↔ ({ w with
        assessor := w.assessor.take (profileOf w.straps) d } : State).view.assessor.detector = .calm := hsame
    simp only [hclock] at hbefore
    exact hbefore

/-- One more delivery in ENERGIZING, or after it. -/
theorem State.Led.deliver_turn (h : s.Led w) (hs : s.Coherent) (d : Delivery)
    (hphase : s.act.coord.phase = .energizing) (hhold : s.act.seq.rejoinHold = false) :
    (w.deliver d).act.coord.Aborted
      ∨ ((w.deliver d).act.coord = s.act.coord ∧ (w.deliver d).act.seq.stage = s.act.seq.stage
        ∧ (Machine.target (w.deliver d).view).code < 2)
      ∨ (s.act.TurnOver (w.deliver d).act ∧ (Machine.target (w.deliver d).view).code < 2) := by
  have hl := h.line.sound hs.line
  have hwhold := h.hold.trans hhold
  obtain ⟨-, -, -, -, -, -, hfits⟩ := hs.stages
  rcases h.turn hphase hhold with ha | ⟨hcoord, hstage⟩ | hover
  · obtain ⟨hwaits, -⟩ := Actors.afterAssessor_outside
      (v := ({ w with assessor := w.assessor.take (profileOf w.straps) d } : State).view) hl ha.2.claimSound
      (by rw [ha.1]; decide) w.assessor
    exact .inl (hwaits.aborted ha)
  · have hgo := Actors.afterAssessor_energizing
      (v := ({ w with assessor := w.assessor.take (profileOf w.straps) d } : State).view) hl (by rw [hcoord]; exact hs.coord)
      (by rw [hcoord]; exact hphase) hwhold (by unfold Actors.Fits; rw [hcoord, hstage]; exact hfits) w.assessor
    rw [hcoord, hstage] at hgo
    refine hgo.imp_right (Or.imp_right fun ⟨hover, hlow⟩ => ⟨⟨?_, hover.low, hover.phase, hover.noTurn⟩, hlow⟩)
    rw [← hstage]
    exact hover.stage
  · have hwne : w.act.coord.phase ≠ .energizing := by rcases hover.phase with hp | hp <;> rw [hp] <;> decide
    obtain ⟨hwaits, hrise, hformed, -⟩ := Actors.afterAssessor_outside
      (v := ({ w with assessor := w.assessor.take (profileOf w.straps) d } : State).view) hl hover.noTurn.claimSound
      hwne w.assessor
    rw [hwhold] at hformed
    have hbound := Stage.code_demand w.act.seq.stage (Machine.target (w.deliver d).view) w.act.seq.floor
    have hreached : (w.deliver d).act.seq.stage = _ := hformed
    have hgrows : w.act.seq.stage.code ≤ (w.deliver d).act.seq.stage.code := by rw [hreached]; exact hbound.1
    refine (hover.next hwaits hgrows hrise).imp_right fun hover' => .inr ⟨hover', ?_⟩
    have hlow := hover'.low
    rw [hreached] at hlow
    exact Nat.lt_of_le_of_lt (hbound.2.1.trans hlow) (by decide)

/-- One more delivery, with T formed after it. -/
theorem State.Led.deliver (h : s.Led w) (hs : s.Coherent) (d : Delivery) : s.Formed (w.deliver d) := by
  have hl := h.line.sound hs.line
  obtain ⟨hserved, hfloor, hhold, htarget, hdue⟩ := w.act.afterAssessor_kept
    ({ w with assessor := w.assessor.take (profileOf w.straps) d } : State).view w.assessor
  have hclock : w.clock = s.clock := by rw [h.frame]
  have hline : w.act.line.Served s.clock (w.deliver d).act.line := by rw [← hclock]; exact hserved
  refine ⟨⟨?_, h.line.trans hline, hfloor.trans h.floor, hhold.trans h.hold, fun hr => ?_,
    fun hne => (h.outside hne).deliver hs hl h.hold hne d, fun hphase hh => ?_⟩, htarget, fun hh hne => ?_,
    fun hh hphase hhigh => ?_⟩
  · unfold State.deliver State.acting State.withAct
    rw [h.frame]
  · rcases Assessor.reportable_between (b := w.assessor) hr with hr | hr
    · exact hline.urgentDue hl (h.due hr)
    · exact hdue hl hr
  · exact (h.deliver_turn hs d hphase hh).imp_right
      (Or.imp (fun ⟨hcoord, hstage, _⟩ => ⟨hcoord, hstage⟩) And.left)
  · have hout := h.outside hne
    have hstage := State.deliver_stage hl (hout.waits.claimSound (Coordinator.claimSound hs.coord))
      (hout.waits.not_energizing hne) (h.hold.trans hh) d
    rw [h.floor] at hstage
    obtain ⟨-, hreach, hreachf⟩ := Stage.code_demand w.act.seq.stage (Machine.target (w.deliver d).view) s.act.seq.floor
    rw [hstage]
    exact ⟨hreach, hreachf⟩
  · rcases h.deliver_turn hs d hphase hh with ha | ⟨-, -, hlow⟩ | ⟨-, hlow⟩
    · exact ha.1
    · omega
    · omega

/-- All deliveries of one event. -/
theorem State.Led.deliver_all (h : s.Led w) (hs : s.Coherent) (ds : List Delivery) : s.Led (ds.foldl State.deliver w) := by
  induction ds generalizing w with
  | nil => exact h
  | cons d ds ih => exact ih (h.deliver hs d).toLed

end

end Sys2Proof.Machine
end


section
/-! PROOFS. The events of the Sample Port: frames in sequence, loss, recovery and silence, with the answer of the acting blocks. -/

namespace Sys2Proof.Machine

/-- The answer of the acting blocks to an event of the port, once the event has ended. -/
structure State.Answered (s t : State) : Prop where
  target : t.act.seq.target = Machine.target t.view
  floor : t.act.seq.floor = s.act.seq.floor
  held : s.act.coord.phase ≠ .energizing → s.act.seq.rejoinHold = true → t.act.seq.stage = s.act.seq.stage
  grows : s.act.coord.phase ≠ .energizing → s.act.seq.stage.code ≤ t.act.seq.stage.code
  reaches : s.act.seq.rejoinHold = false → s.act.coord.phase ≠ .energizing →
    (Machine.target t.view).code ≤ t.act.seq.stage.code ∧ s.act.seq.floor.code ≤ t.act.seq.stage.code
  abort : s.act.seq.rejoinHold = false → s.act.coord.phase = .energizing → 2 ≤ (Machine.target t.view).code →
    t.act.coord.phase = .quietWait
  rise : s.act.seq.rejoinHold = false → s.act.seq.stage.code < t.act.seq.stage.code → s.act.coord.phase ≠ .rejoin →
    s.act.coord.phase ≠ .none ∨ 2 ≤ t.act.seq.stage.code → t.act.coord.phase = .quietWait
  due : t.assessor.detector ≠ s.assessor.detector ∨ t.assessor.grade ≠ s.assessor.grade
    ∨ (s.assessor.event.clipped = false ∧ t.assessor.event.clipped = true) → t.act.line.urgentDue = true
  leaves : s.assessor.detector = .calm → t.assessor.detector ≠ .calm → s.act.coord.phase.awaits →
    t.act.coord.phase = .quietWait ∧ t.act.coord.claimOutstanding = false ∧ t.act.coord.claimPending = false
      ∧ t.act.coord.bidWindow = none ∧ t.act.coord.contest = none ∧ t.act.coord.quietStart = none
      ∧ (s.act.coord.claimOutstanding = true → t.act.line.restartAsked .claim = false
        ∧ (t.act.line.restartAsked .yield = true ∨ s.act.line.restartAsked .claim = true))
  enters : s.assessor.detector ≠ .calm → t.assessor.detector = .calm → s.act.coord.phase = .quietWait →
    t.act.coord.phase = .quietWait ∧ t.act.coord.quietStart = some s.clock

theorem Phase.awaits_not_energizing {p : Phase} (h : p.awaits) : p ≠ .energizing := by
  rintro rfl
  exact absurd h (by decide)

/-- A rise over a whole event in ENERGIZING aborted the turn. -/
theorem State.Led.turn_rise {s t : State} (h : s.Led t) (hphase : s.act.coord.phase = .energizing)
    (hhold : s.act.seq.rejoinHold = false) (hlt : s.act.seq.stage.code < t.act.seq.stage.code) :
    t.act.coord.phase = .quietWait := by
  rcases h.turn hphase hhold with ha | ⟨-, hstage⟩ | hover
  · exact ha.1
  · rw [hstage] at hlt
    exact absurd hlt (Nat.lt_irrefl _)
  · have hlow := hover.low
    rw [hover.stage] at hlt
    exact absurd (Nat.lt_of_lt_of_le hlt hlow) (by decide)

theorem State.Formed.answered {s t : State} (h : s.Formed t) (hs : s.Coherent) : s.Answered t where
  target := h.target
  floor := h.floor
  held hne hh := (h.outside hne).held hh
  grows hne := (h.outside hne).grows
  reaches := h.reaches
  abort := h.abort
  rise hh hlt hrejoin hnone := by
    by_cases hphase : s.act.coord.phase = .energizing
    · exact h.turn_rise hphase hh hlt
    · exact (h.outside hphase).rise hlt hrejoin hnone
  due hchange := h.due ((Assessor.reportable_iff _ _).2 hchange)
  leaves hcalm hleft hin := by
    have hout := h.outside (Phase.awaits_not_energizing hin)
    have hquiet := hout.leaves hcalm hleft hin
    have hclaim := Coordinator.claimSound hs.coord
    obtain ⟨hno, hpending, hwindow, hcontest⟩ := (hout.waits.claimSound hclaim).noTurn (by rw [hquiet]; rfl)
    have hstart := hout.now (fun hiff => absurd (hiff.1 hcalm) hleft) hquiet
    have hview : t.view.assessor.detector ≠ .calm := hleft
    rw [if_neg hview] at hstart
    refine ⟨hquiet, hno, hpending, hwindow, hcontest, hstart, fun hclaimed => ?_⟩
    cases hout.waits with
    | kept hcoord =>
      have hsame : s.act.coord.claimOutstanding = t.act.coord.claimOutstanding := by rw [hcoord]
      rw [hsame, hno] at hclaimed
      cases hclaimed
    | left _ _ _ hyielded => exact hyielded hclaimed
  enters hleft hcalm hquiet := by
    have hout := h.outside (by rw [hquiet]; decide)
    have hafter := hout.waits.quietWait hquiet
    have hstart := hout.now (fun hiff => absurd (hiff.2 hcalm) hleft) hafter
    have hview : t.view.assessor.detector = .calm := hcalm
    have hnow : t.view.now = s.clock := by
      have hclock := congrArg State.clock h.frame
      exact hclock
    rw [if_pos hview, hnow] at hstart
    exact ⟨hafter, hstart⟩

/-- What the arbiter does at the end of the event leaves the answer as it is. -/
theorem State.Answered.endEvent {s t : State} (h : s.Answered t) (old : State) : s.Answered (t.endEvent old) := by
  have hstep := t.stepOnly_endEvent old
  have hview : (t.endEvent old).view = t.view := by rw [t.endEvent_eq old]; rfl
  have hassessor : (t.endEvent old).assessor = t.assessor := by rw [t.endEvent_eq old]
  have hstage : (t.endEvent old).act.seq.stage = t.act.seq.stage := by rw [hstep.seq]
  have hfloor : (t.endEvent old).act.seq.floor = t.act.seq.floor := by rw [hstep.seq]
  have hphase : (t.endEvent old).act.coord.phase = t.act.coord.phase := by rw [hstep.coord]
  refine ⟨State.target_endEvent h.target old, hfloor.trans h.floor, ?_, ?_, ?_, ?_, ?_, ?_, ?_, ?_⟩
  · rw [hstage]; exact h.held
  · rw [hstage]; exact h.grows
  · rw [hstage, hview]; exact h.reaches
  · rw [hphase, hview]; exact h.abort
  · rw [hstage, hphase]; exact h.rise
  · rw [hassessor, hstep.line]; exact h.due
  · rw [hassessor, hstep.line, hstep.coord]; exact h.leaves
  · rw [hassessor, hstep.coord]; exact h.enters

/-! ### A port event that delivers something -/

section
variable {s : State} {p : Port} {ds : List Delivery} {d : Delivery}

/-- The event of a port that answered with a state of its own and deliveries (R4). -/
def State.portEvent (s : State) (r : Port × List Delivery) : State := (s.fromPort r).endEvent s

theorem exec_frameEnd_eq (s : State) (bits : List Bool) :
    exec (.frameEnd bits) s = .next (s.portEvent (s.port.frameEnd s.clock bits)) := rfl

theorem State.portEvent_eq (s : State) (r : Port × List Delivery) :
    s.portEvent r = { s with
      port := r.1, assessor := r.2.foldl (fun a d => a.take (profileOf s.straps) d) s.assessor
      act := (s.portEvent r).act } := by
  unfold State.portEvent
  rw [State.endEvent_eq, s.fromPort_eq r]

theorem State.portEvent_frame (s : State) (r : Port × List Delivery) :
    s.portEvent r = { s with
      port := (s.portEvent r).port, assessor := (s.portEvent r).assessor, act := (s.portEvent r).act } := by
  rw [s.portEvent_eq r]

theorem State.portEvent_nil (s : State) (p : Port) : s.portEvent (p, []) = { s with port := p } :=
  State.endEvent_of_calm _ s rfl rfl

theorem State.portEvent_port (s : State) (r : Port × List Delivery) : (s.portEvent r).port = r.1 := by
  rw [s.portEvent_eq r]

theorem State.portEvent_assessor (s : State) (r : Port × List Delivery) :
    (s.portEvent r).assessor = r.2.foldl (fun a d => a.take (profileOf s.straps) d) s.assessor := by
  rw [s.portEvent_eq r]

theorem State.fromPort_append (s : State) (p : Port) (ds : List Delivery) (d : Delivery) :
    s.fromPort (p, ds ++ [d]) = (ds.foldl State.deliver { s with port := p }).deliver d := by
  unfold State.fromPort
  rw [List.foldl_append]
  rfl

theorem State.portEvent_answered (hs : s.Coherent) (p : Port) (ds : List Delivery) (d : Delivery) :
    s.Answered (s.portEvent (p, ds ++ [d])) := by
  unfold State.portEvent
  rw [s.fromPort_append]
  exact ((((State.Led.of_port s p).deliver_all hs ds).deliver hs d).answered hs).endEvent s

theorem State.deliver_target (s : State) (d : Delivery) :
    (s.deliver d).act.seq.target = Machine.target (s.deliver d).view := by
  obtain ⟨-, -, -, htarget, -⟩ :=
    s.act.afterAssessor_kept ({ s with assessor := s.assessor.take (profileOf s.straps) d } : State).view s.assessor
  exact htarget

theorem State.portEvent_target (s : State) (p : Port) (ds : List Delivery) (d : Delivery) :
    (s.portEvent (p, ds ++ [d])).act.seq.target = Machine.target (s.portEvent (p, ds ++ [d])).view := by
  refine State.target_endEvent ?_ s
  rw [s.fromPort_append]
  exact State.deliver_target _ d

/-- The stage where one delivery alone finds the phase other than ENERGIZING. -/
theorem State.portEvent_stage (hs : s.Coherent) (p : Port) (d : Delivery) (hhold : s.act.seq.rejoinHold = false)
    (hne : s.act.coord.phase ≠ .energizing) :
    (s.portEvent (p, [d])).act.seq.stage
      = s.act.seq.stage.higher ((Machine.target (s.portEvent (p, [d])).view).higher s.act.seq.floor) := by
  have hstage := State.deliver_stage (w := { s with port := p }) hs.line (Coordinator.claimSound hs.coord) hne hhold d
  have hstep := (s.fromPort (p, [d])).stepOnly_endEvent s
  have hview : (s.portEvent (p, [d])).view = (s.fromPort (p, [d])).view := by
    unfold State.portEvent
    rw [State.endEvent_eq]
    rfl
  rw [hview]
  refine Eq.trans ?_ hstage
  unfold State.portEvent
  rw [hstep.seq]
  rfl

end

/-! ### Silence (R10) -/

theorem exec_frameTimer_due {s : State} {st : Stamp} (h : s.port.frameTimer = some st) (hran : 25 ≤ elapsed s.clock st) :
    exec .frameTimerExpiry s = .next (s.portEvent s.port.timeout) := by
  have hoccurs : ranFor s.clock s.port.frameTimer frameTimeout = true := by
    rw [h]
    exact decide_eq_true hran
  exact congrArg Host.Outcome.next (congrArg (fun b => s.eventWhen b _) hoccurs)

theorem Assessor.lose_detector (a : Assessor) : a.lose.detector = .blind := by
  unfold Assessor.lose
  split
  · assumption
  · rfl
  all_goals rfl

/-- Settles O10: the port's answer to silence, and the blocks' answer to its one delivery. -/
theorem frameTimerExpirySilence : Obligations.FrameTimerExpirySilence := by
  refine ⟨fun s st htimer hran hheard => ?_, fun s st htimer hran hlost => ?_, fun s hnone => ?_,
    fun s st htimer hran hheard hline hcoord hstages => ?_⟩
  · have hexec := exec_frameTimer_due htimer hran
    rw [Port.timeout_of_heard hheard] at hexec
    refine ⟨_, hexec, s.portEvent_frame _, ?_, s.portEvent_target _ [] _, s.portEvent_assessor _, s.portEvent_port _⟩
    rw [s.portEvent_assessor]
    exact s.assessor.lose_detector
  · rw [exec_frameTimer_due htimer hran, Port.timeout_of_lost hlost, s.portEvent_nil]
  · have hoccurs : ranFor s.clock s.port.frameTimer frameTimeout = false := by
      cases h : s.port.frameTimer with
      | none => rfl
      | some st => exact decide_eq_false (Nat.not_le.2 (hnone st h))
    exact congrArg Host.Outcome.next (s.eventWhen_of_not _ hoccurs)
  · have hs : s.Coherent := ⟨hline, hcoord, hstages⟩
    have hexec := exec_frameTimer_due htimer hran
    rw [Port.timeout_of_heard hheard] at hexec
    have hanswer := State.portEvent_answered hs { s.port.lose 0 with frameTimer := none } [] .loss
    have hstage := State.portEvent_stage hs { s.port.lose 0 with frameTimer := none } .loss
    exact ⟨_, hexec, hanswer.target, hanswer.floor, hanswer.held,
      fun hhold => ⟨hstage hhold, hanswer.abort hhold, hanswer.rise hhold⟩, hanswer.due, hanswer.leaves⟩

end Sys2Proof.Machine
end


section
/-! PROOFS. FRAME_END: the frame in sequence, the loss of the sensor and its recovery. -/

namespace Sys2Proof.Machine

theorem Assessor.takes_held (a : Assessor) (prof : Profile) (g : Sample) (now : Stamp) (k : Nat) :
    (heldSamples g now k).foldl (fun a d => a.take prof d) a
      = (List.range k).foldl (fun a i => a.sample prof g (now - BitVec.ofNat 32 (5 * (k - i)))) a := by
  unfold heldSamples
  rw [List.foldl_map]
  rfl

section
variable {s : State} {bits : List Bool} {r : Port × List Delivery}

theorem exec_frameEnd_to (h : s.port.frameEnd s.clock bits = r) : exec (.frameEnd bits) s = .next (s.portEvent r) := by
  rw [exec_frameEnd_eq, h]

theorem exec_frameEnd_silent {p : Port} (h : s.port.frameEnd s.clock bits = (p, [])) :
    exec (.frameEnd bits) s = .next { s with port := p } := by
  rw [exec_frameEnd_to h, s.portEvent_nil]

end

/-- Settles O6: what the port delivers, and the blocks' answer. -/
theorem frameEndInSequence : Obligations.FrameEndInSequence := by
  refine ⟨fun s bits f n g hcut hframe hstatus hrecovery hn hg h1 h4 halike => ?_,
    fun s bits f hcut hframe hstatus hport => ?_,
    fun s bits f n g hcut hframe hstatus hrecovery hn hg h1 h4 halike hline hcoord hstages => ?_,
    fun s bits f hcut hframe hstatus hport hline hcoord hstages => ?_⟩
  · have hend := Port.frameEnd_in_sequence s.clock hcut hframe hstatus hrecovery hn hg h1 h4 halike
    refine ⟨_, exec_frameEnd_to hend, s.portEvent_frame _, s.portEvent_port _, ?_, s.portEvent_target _ _ _⟩
    rw [s.portEvent_assessor, List.foldl_append, Assessor.takes_held]
    rfl
  · have hend := Port.frameEnd_in_start s.clock hcut hframe hstatus hport
    exact ⟨_, exec_frameEnd_to hend, s.portEvent_frame _, s.portEvent_port _, s.portEvent_assessor _,
      s.portEvent_target _ [] _⟩
  · have hend := Port.frameEnd_in_sequence s.clock hcut hframe hstatus hrecovery hn hg h1 h4 halike
    have hs : s.Coherent := ⟨hline, hcoord, hstages⟩
    have hanswer := fun p => State.portEvent_answered hs p (heldSamples g s.clock ((f.seq - n).toNat - 1))
      (.sample f.counts s.clock false)
    refine ⟨_, exec_frameEnd_to hend, (hanswer _).target, (hanswer _).floor, (hanswer _).held, fun hhold =>
      ⟨fun hne => ⟨(hanswer _).grows hne, (hanswer _).reaches hhold hne⟩, (hanswer _).abort hhold,
        (hanswer _).rise hhold⟩, (hanswer _).due, fun hnext hhold hne => ?_, (hanswer _).leaves, (hanswer _).enters⟩
    have hdiff : (f.seq - n).toNat = 1 := by
      rw [hnext, show n + 1 - n = 1 by bv_omega]
      rfl
    rw [hdiff]
    exact State.portEvent_stage hs _ _ hhold hne
  · have hend := Port.frameEnd_in_start s.clock hcut hframe hstatus hport
    have hs : s.Coherent := ⟨hline, hcoord, hstages⟩
    have hanswer := fun p => State.portEvent_answered hs p [] (.sample f.counts s.clock false)
    have hstage := fun p => State.portEvent_stage hs p (.sample f.counts s.clock false)
    exact ⟨_, exec_frameEnd_to hend, (hanswer _).target, (hanswer _).floor, (hanswer _).held, fun hhold =>
      ⟨hstage _ hhold, (hanswer _).abort hhold, (hanswer _).rise hhold⟩, (hanswer _).due, (hanswer _).leaves,
      (hanswer _).enters⟩

/-! ### Loss -/

theorem Port.arrive_loses {p : Port} {now : Stamp} {f : Frame} {held : List Delivery}
    (h : (p.arrive now f held).1.status = .lost) : (p.arrive now f held) = ((p.take f).lose 0, held ++ [.loss]) := by
  by_cases hstuck : 2048 ≤ p.identicalAfter f.counts
  · exact Port.arrive_of_stuck hstuck now held
  · rw [Port.arrive_of_less (Nat.lt_of_not_le hstuck)] at h
    cases h

/-- A sound frame at which a port that tracks loses the sensor: the loss is told last, and alone but for a short gap. -/
theorem Port.sound_loses {p : Port} {now : Stamp} {f : Frame} (hstatus : p.status ≠ .lost)
    (hlost : (p.sound now f).1.status = .lost) :
    ∃ q ds, p.sound now f = (q, ds ++ [.loss])
      ∧ ((∀ n, p.lastSeq = some n → 5 ≤ (f.seq - n).toNat ∨ f.seq = n + 1) → ds = []) := by
  cases h : p.status with
  | lost => exact absurd h hstatus
  | start =>
    rw [Port.sound_of_start now h] at hlost ⊢
    exact ⟨_, [], Port.arrive_loses hlost, fun _ => rfl⟩
  | tracking =>
    cases hn : p.lastSeq with
    | none =>
      rw [Port.sound_of_first now h hn] at hlost ⊢
      exact ⟨_, [], Port.arrive_loses hlost, fun _ => rfl⟩
    | some n =>
      by_cases hfar : 5 ≤ (f.seq - n).toNat
      · rw [Port.sound_of_far now h hn hfar]
        exact ⟨_, [], rfl, fun _ => rfl⟩
      · simp only [Port.sound, h, hn] at hlost ⊢
        by_cases hzero : (f.seq - n).toNat = 0
        · rw [if_pos hzero, h] at hlost
          cases hlost
        · rw [if_neg hzero, if_pos (show (f.seq - n).toNat ≤ 4 by omega)] at hlost ⊢
          refine ⟨_, _, Port.arrive_loses hlost, fun honly => ?_⟩
          have hnext := (honly n rfl).resolve_left hfar
          have hdiff : (f.seq - n).toNat = 1 := by
            rw [hnext, show n + 1 - n = 1 by bv_omega]
            rfl
          rw [hdiff]
          split <;> rfl

/-- A port that tracks, and answers without a delivery, still tracks; one that loses the sensor says so last. -/
theorem Port.frameEnd_loses {p : Port} (now : Stamp) (bits : List Bool) (hcut : p.awaitLow = false)
    (hstatus : p.status ≠ .lost) (hlost : (p.frameEnd now bits).1.status = .lost) :
    ∃ q ds, p.frameEnd now bits = (q, ds ++ [.loss])
      ∧ ((∀ f n, (p.clockFrame bits).soundFrame? = some f → p.lastSeq = some n →
        5 ≤ (f.seq - n).toNat ∨ f.seq = n + 1) → ds = []) := by
  cases hframe : (p.clockFrame bits).soundFrame? with
  | none =>
    rw [Port.frameEnd_of_missing now hcut hframe] at hlost ⊢
    by_cases hfew : (p.clockFrame bits).missing < 4
    · rw [Port.missed_of_few (by simpa) hfew] at hlost
      exact absurd hlost (by simpa)
    · rw [Port.missed_of_four (by simpa) (Nat.le_of_not_lt hfew)]
      exact ⟨_, [], rfl, fun _ => rfl⟩
  | some f =>
    rw [Port.frameEnd_of_sound now hcut hframe] at hlost ⊢
    obtain ⟨q, ds, hsound, hsingle⟩ := Port.sound_loses (by simpa) hlost
    exact ⟨q, ds, hsound, fun honly => hsingle fun n hn => honly f n rfl (by simpa using hn)⟩

/-- Settles O8: what the port finds and how it declares the loss, and the blocks' answer. -/
theorem frameEndLoss : Obligations.FrameEndLoss := by
  refine ⟨fun s bits f n g hcut hframe hstatus hn hg h5 => ?_,
    fun s bits f n g hcut hframe hstatus hn hg h1 h4 hsame hcount => ?_,
    fun s bits hcut hframe hstatus hfour => ?_, fun s bits hcut hframe hstatus hfew => ?_,
    fun s bits hcut hframe hstatus => ?_, fun s bits hcut => ?_,
    fun s bits hcut hstatus hline hcoord hstages => ?_⟩
  · have hend := Port.frameEnd_long_gap s.clock hcut hframe hstatus hn hg h5
    refine ⟨_, exec_frameEnd_to hend, s.portEvent_frame _, ?_, s.portEvent_target _ [] _, s.portEvent_assessor _,
      s.portEvent_port _⟩
    rw [s.portEvent_assessor]
    exact s.assessor.lose_detector
  · have halike : s.port.alike g f.counts = 2048 := by rw [Port.alike, if_pos hsame, hcount]
    have hend := Port.frameEnd_stuck s.clock hcut hframe hstatus hn hg h1 h4 halike
    have hassessor := s.portEvent_assessor (({ s.port.clockFrame bits with
      lastSeq := some f.seq, lastGood := some f.counts, identical := 2048, status := .lost, missing := 0
      recovery := 0 } : Port), heldSamples g s.clock ((f.seq - n).toNat - 1) ++ [.loss])
    rw [List.foldl_append, Assessor.takes_held] at hassessor
    refine ⟨_, exec_frameEnd_to hend, s.portEvent_frame _, ?_, s.portEvent_target _ _ _, hassessor, s.portEvent_port _⟩
    rw [hassessor]
    exact Assessor.lose_detector _
  · have hend : s.port.frameEnd s.clock bits = ((s.port.clockFrame bits).lose 0, [.loss]) := by
      rw [Port.frameEnd_of_missing s.clock hcut hframe, Port.missed_of_four (by simpa) (by simp [hfour])]
    refine ⟨_, exec_frameEnd_to hend, s.portEvent_frame _, ?_, s.portEvent_target _ [] _, s.portEvent_assessor _,
      s.portEvent_port _⟩
    rw [s.portEvent_assessor]
    exact s.assessor.lose_detector
  · refine exec_frameEnd_silent ?_
    rw [Port.frameEnd_of_missing s.clock hcut hframe, Port.missed_of_few (by simpa) (by simpa), Port.clockFrame_missing]
  · refine exec_frameEnd_silent ?_
    rw [Port.frameEnd_of_missing s.clock hcut hframe, Port.missed_of_lost (by simpa)]
  · exact exec_frameEnd_silent (Port.frameEnd_of_cut s.clock hcut)
  · have hs : s.Coherent := ⟨hline, hcoord, hstages⟩
    refine ⟨_, exec_frameEnd_eq s bits, fun hlost => ?_⟩
    rw [s.portEvent_port] at hlost
    obtain ⟨q, ds, hend, hsingle⟩ := Port.frameEnd_loses s.clock bits hcut hstatus hlost
    rw [hend]
    have hanswer := State.portEvent_answered hs q ds .loss
    refine ⟨hanswer.target, hanswer.floor, hanswer.held, fun hhold =>
      ⟨fun hne => ⟨hanswer.grows hne, hanswer.reaches hhold hne⟩, hanswer.abort hhold, hanswer.rise hhold⟩, hanswer.due,
      fun honly hhold hne => ?_, hanswer.leaves⟩
    rw [hsingle honly]
    exact State.portEvent_stage hs q .loss hhold hne

/-! ### Recovery -/

/-- The seeding sample of a fresh CAPTURE (R25, R26). -/
theorem Assessor.enterCapture_sample (a : Assessor) (prof : Profile) (c : Sample) (stamp : Stamp) :
    (a.enterCapture.sample prof c stamp).detector = .capture
      ∧ (a.enterCapture.sample prof c stamp).captureCount = 1
      ∧ (a.enterCapture.sample prof c stamp).awaitingSeed = false
      ∧ (a.enterCapture.sample prof c stamp).base = ⟨c.x.toInt * 256, c.y.toInt * 256, c.z.toInt * 256⟩
      ∧ (a.enterCapture.sample prof c stamp).short = 0 ∧ (a.enterCapture.sample prof c stamp).long = 128 := by
  have hzero : ∀ w : Word16, dynamic w (w.toInt * 256) = 0 := by
    intro w
    rw [dynamic, Int.mul_ediv_cancel _ (by decide), sub_self]
    rfl
  have hm : magnitude c (.seed c) = 0 := by
    unfold magnitude Axes.seed
    simp only [hzero]
    rfl
  have hstay : ∀ x : Int, approach x x 6 = x := fun x => by simp [approach]
  have hsample : a.enterCapture.sample prof c stamp =
      ((a.enterCapture.seed c).withShort (magnitude c (.seed c))).endCapture c (magnitude c (.seed c)) := rfl
  rw [hsample, hm, Assessor.endCapture_counts (show 0 < 1023 by decide)]
  refine ⟨rfl, rfl, rfl, ?_, rfl, rfl⟩
  show Axes.follow (.seed c) c 6 = _
  simp only [Axes.follow, Axes.seed, hstay]

theorem target_of_capture {v : View} (h : v.assessor.detector = .capture) : Machine.target v = targetBlind v := by
  unfold Machine.target
  rw [h]

/-- The stage after the two deliveries of a restoration: both form the same T. -/
theorem State.portEvent_restored {s : State} (hs : s.Coherent) (p : Port) (c : Sample) (stamp : Stamp)
    (hhold : s.act.seq.rejoinHold = false) (hne : s.act.coord.phase ≠ .energizing) :
    (s.portEvent (p, [.restoration, .sample c stamp false])).act.seq.stage
      = s.act.seq.stage.higher ((Machine.target
        (s.portEvent (p, [.restoration, .sample c stamp false])).view).higher s.act.seq.floor) := by
  have hled := (State.Led.of_port s p).deliver hs .restoration
  have hout := hled.outside hne
  have hclaim := Coordinator.claimSound hs.coord
  have hfirst := State.deliver_stage (w := { s with port := p }) hs.line hclaim hne hhold .restoration
  have hsecond := State.deliver_stage (hled.line.sound hs.line) (hout.waits.claimSound hclaim)
    (hout.waits.not_energizing hne) (hled.hold.trans hhold) (.sample c stamp false)
  obtain ⟨hcapture, -⟩ := s.assessor.enterCapture_sample (profileOf s.straps) c stamp
  have htarget : Machine.target (({ s with port := p } : State).deliver .restoration).view = Machine.target
      ((({ s with port := p } : State).deliver .restoration).deliver (.sample c stamp false)).view :=
    (target_of_capture rfl).trans (Eq.trans rfl (target_of_capture hcapture).symm)
  have hstep := (s.fromPort (p, [.restoration, .sample c stamp false])).stepOnly_endEvent s
  have hview : (s.portEvent (p, [.restoration, .sample c stamp false])).view
      = ((({ s with port := p } : State).deliver .restoration).deliver (.sample c stamp false)).view := by
    unfold State.portEvent
    rw [State.endEvent_eq]
    rfl
  rw [hview]
  refine Eq.trans ?_ (hsecond.trans ?_)
  · unfold State.portEvent
    rw [hstep.seq]
    rfl
  · rw [hled.floor, hfirst, ← htarget]
    exact Stage.higher_of_le (by simp only [Stage.code_higher]; omega)

/-- Settles O9: the run and its breaks, and the restoration with the blocks' answer. -/
theorem frameEndRecovery : Obligations.FrameEndRecovery := by
  refine ⟨fun s bits f n g hcut hframe hstatus hn hg hne hrun => ?_,
    fun s bits f n g hcut hframe hstatus hn hg hne hrun => ?_, fun s bits f hcut hframe hstatus hn => ?_,
    fun s bits f hcut hframe hstatus hn hg => ?_,
    fun s bits f n g hcut hframe hstatus hn hg hne hrun hline hcoord hstages => ?_⟩
  · exact exec_frameEnd_silent (Port.frameEnd_recovers s.clock hcut hframe hstatus hn hg hne hrun)
  · have hend := Port.frameEnd_restores s.clock hcut hframe hstatus hn hg hne hrun
    have hassessor := s.portEvent_assessor (({ s.port.clockFrame bits with
      lastSeq := some f.seq, lastGood := some f.counts, frameTimer := some s.clock, status := .tracking, missing := 0
      recovery := 0, identical := s.port.alike g f.counts } : Port), [.restoration, .sample f.counts s.clock false])
    have hafter : _ = s.assessor.enterCapture.sample (profileOf s.straps) f.counts s.clock := hassessor
    obtain ⟨hdetector, hcount, hseed, hbase, hshort, hlong⟩ :=
      s.assessor.enterCapture_sample (profileOf s.straps) f.counts s.clock
    rw [← hafter] at hdetector hcount hseed hbase hshort hlong
    exact ⟨_, exec_frameEnd_to hend, s.portEvent_frame _, s.portEvent_port _, hafter, hdetector, hcount, hseed, hbase,
      hshort, hlong, s.portEvent_target _ [.restoration] _⟩
  · exact exec_frameEnd_silent (Port.frameEnd_lost_repeat s.clock hcut hframe hstatus hn)
  · exact exec_frameEnd_silent (Port.frameEnd_lost_first s.clock hcut hframe hstatus hn hg)
  · have hs : s.Coherent := ⟨hline, hcoord, hstages⟩
    have hend := Port.frameEnd_restores s.clock hcut hframe hstatus hn hg hne hrun
    have hanswer := fun p => State.portEvent_answered hs p [.restoration] (.sample f.counts s.clock false)
    exact ⟨_, exec_frameEnd_to hend, (hanswer _).target, (hanswer _).floor, (hanswer _).held, fun hhold =>
      ⟨State.portEvent_restored hs _ _ _ hhold, (hanswer _).abort hhold, (hanswer _).rise hhold⟩, (hanswer _).due⟩

end Sys2Proof.Machine
end


section
/-! PROOFS. What the zone has been brought up to stays so: the operations that follow in one event assert and request, and take
nothing back. -/

namespace Sys2Proof.Machine

/-! ### The driver -/

/-- LEVEL and HOLD channels asserted stay so, and a trip once asked for is not READY again. -/
structure Driver.Onward (d e : Driver) : Prop where
  levels : ∀ id, (d.level id).state = .asserted → (e.level id).state = .asserted
  holds : ∀ id, (d.hold id).asserted = true → (e.hold id).asserted = true
  gone : ∀ p, (d.pulse (.trip p)).state ≠ .ready → (e.pulse (.trip p)).state ≠ .ready

/-- The pulse queue holds no entry twice, and its trips are QUEUED (R128). -/
def Driver.TripsQueued (d : Driver) : Prop :=
  d.pulseQueue.Nodup ∧ ∀ p, .trip p ∈ d.pulseQueue → (d.pulse (.trip p)).state = .queued

/-- No trip is asked for: those not QUEUED stay as they stand. -/
structure Driver.Unasked (d e : Driver) : Prop where
  queue : d.TripsQueued → e.TripsQueued
  trips : d.TripsQueued → ∀ p, (d.pulse (.trip p)).state ≠ .queued → e.pulse (.trip p) = d.pulse (.trip p)

section
variable {d e f : Driver}

theorem Driver.Onward.refl (d : Driver) : d.Onward d := ⟨fun _ => id, fun _ => id, fun _ => id⟩

theorem Driver.Onward.trans (h : d.Onward e) (k : e.Onward f) : d.Onward f :=
  ⟨fun id => k.levels id ∘ h.levels id, fun id => k.holds id ∘ h.holds id, fun p => k.gone p ∘ h.gone p⟩

theorem Driver.SameBut.onward (h : d.SameBut e)
    (hgone : ∀ p, (d.pulse (.trip p)).state ≠ .ready → (e.pulse (.trip p)).state ≠ .ready) : d.Onward e :=
  ⟨fun id hd => by rw [h.1 id]; exact hd, fun id hd => by rw [h.2 id]; exact hd, hgone⟩

theorem Driver.Unasked.refl (d : Driver) : d.Unasked d := ⟨id, fun _ _ _ => rfl⟩

theorem Driver.Unasked.trans (h : d.Unasked e) (k : e.Unasked f) : d.Unasked f where
  queue := k.queue ∘ h.queue
  trips hd p hp := by
    have hsame := h.trips hd p hp
    exact (k.trips (h.queue hd) p (by rwa [hsame])).trans hsame

/-- The trips are as they were, and the queue has lost entries at most. -/
theorem Driver.Unasked.of_same (htrip : ∀ p, e.pulse (.trip p) = d.pulse (.trip p))
    (hqueue : e.pulseQueue.Sublist d.pulseQueue) : d.Unasked e where
  queue hd := ⟨hd.1.sublist hqueue, fun p hp => by rw [htrip]; exact hd.2 p (hqueue.subset hp)⟩
  trips _ p _ := htrip p

theorem Driver.tripsQueued (h : d.PulseSound) : d.TripsQueued := by
  obtain ⟨hnodup, hqueued, -⟩ := h
  exact ⟨hnodup, fun p hp => (hqueued (.trip p) (mem_pulseIds _)).1 hp⟩

/-- The trips are the same, and nothing else but the closes, the queue and the gap differs. -/
theorem Driver.onward_of_trips (hsame : d.SameBut e) (htrip : ∀ p, e.pulse (.trip p) = d.pulse (.trip p)) : d.Onward e :=
  hsame.onward fun p hp => by rwa [htrip]

theorem Driver.onward_assertLevel (d : Driver) (id : LevelId) : d.Onward (d.assertLevel id) where
  levels other h := by
    unfold Driver.assertLevel
    rw [Driver.level_setLevel]
    split
    · rfl
    · exact h
  holds other h := by rwa [Driver.assertLevel, Driver.hold_setLevel]
  gone p h := by rwa [Driver.assertLevel, Driver.pulse_setLevel]

theorem Driver.unasked_assertLevel (d : Driver) (id : LevelId) : d.Unasked (d.assertLevel id) :=
  .of_same (fun p => d.pulse_setLevel id _ _) (by rw [Driver.assertLevel, Driver.pulseQueue_setLevel])

theorem Driver.assertLevel_asserted (d : Driver) (id : LevelId) : ((d.assertLevel id).level id).state = .asserted := by
  rw [Driver.assertLevel, Driver.level_setLevel_self]

theorem Driver.onward_assertHold (d : Driver) (sc : Scanner) (now : Stamp) (id : HoldId) :
    d.Onward (d.assertHold sc now id) where
  levels other h := by
    unfold Driver.assertHold
    dsimp only
    split
    · exact h
    · rwa [Driver.level_setHold]
  holds other h := by
    by_cases hid : other = id
    · rw [hid]
      exact d.asserted_assertHold sc now id
    · rwa [d.hold_assertHold_of_ne sc now hid]
  gone p h := by rwa [Driver.pulse_assertHold]

theorem Driver.pulseQueue_assertHold (d : Driver) (sc : Scanner) (now : Stamp) (id : HoldId) :
    (d.assertHold sc now id).pulseQueue = d.pulseQueue := by
  unfold Driver.assertHold
  dsimp only
  split
  · rfl
  · exact d.pulseQueue_setHold _ _

theorem Driver.onward_assertSafe (d : Driver) (v : View) : d.Onward (d.assertSafe v) :=
  (d.onward_assertHold ..).trans (Driver.onward_assertHold ..)

theorem Driver.unasked_assertSafe (d : Driver) (v : View) : d.Unasked (d.assertSafe v) :=
  .of_same (fun p => d.pulse_assertSafe v _) (by
    rw [Driver.assertSafe, Driver.pulseQueue_assertHold, Driver.pulseQueue_assertHold])

/-! ### Closes taken back, trips asked for -/

theorem Driver.trip_stopClose (d : Driver) (now : Stamp) (p q : Pdu) :
    (d.stopClose now p).pulse (.trip q) = d.pulse (.trip q) := by
  unfold Driver.stopClose
  split
  · exact d.pulse_setPulse_of_ne _ (by simp)
  · exact d.pulse_setPulse_of_ne _ (by simp)
  all_goals rfl

theorem Driver.queue_stopClose (d : Driver) (now : Stamp) (p : Pdu) :
    (d.stopClose now p).pulseQueue.Sublist d.pulseQueue := by
  unfold Driver.stopClose
  split
  · exact List.filter_sublist
  · rw [show ∀ (e : Driver) (g : Option Stamp), ({ e with gap := g } : Driver).pulseQueue = e.pulseQueue from fun _ _ => rfl,
      Driver.pulseQueue_setPulse]
  all_goals exact List.Sublist.refl _

theorem Driver.leaveEnergizing_trips (d : Driver) (now : Stamp) :
    d.Onward (d.leaveEnergizing now).1 ∧ d.Unasked (d.leaveEnergizing now).1 := by
  have htrip : ∀ p, (d.leaveEnergizing now).1.pulse (.trip p) = d.pulse (.trip p) := fun p => by
    rw [Driver.leaveEnergizing_fst, Driver.trip_stopClose, Driver.trip_stopClose]
  refine ⟨Driver.onward_of_trips (d.sameBut_leaveEnergizing now) htrip, .of_same htrip ?_⟩
  rw [Driver.leaveEnergizing_fst]
  exact (Driver.queue_stopClose _ now .b).trans (d.queue_stopClose now .a)

theorem Driver.trip_cutClose (d : Driver) (now : Stamp) (p q : Pdu) :
    (d.cutClose now p).1.pulse (.trip q) = d.pulse (.trip q) := by
  unfold Driver.cutClose
  split
  · exact d.trip_stopClose now p q
  · exact d.trip_stopClose now p q
  · exact d.pulse_setPulse_of_ne _ (by simp)
  all_goals rfl

/-- A trip asked for is not READY afterwards, and the other stands as it did. -/
theorem Driver.requestTrip_trips (d : Driver) (sc : Scanner) (now : Stamp) (p : Pdu) :
    ((d.requestTrip sc now p).1.pulse (.trip p)).state ≠ .ready
      ∧ ∀ q, q ≠ p → (d.requestTrip sc now p).1.pulse (.trip q) = d.pulse (.trip q) := by
  have hcut := d.trip_cutClose now p
  rw [Driver.requestTrip, Driven.next_fst]
  generalize (d.cutClose now p).1 = e at hcut
  have hother : ∀ q, q ≠ p → PulseId.trip q ≠ .trip p := fun q hq h => hq (by cases h; rfl)
  split
  · split
    · refine ⟨by rw [Driver.pulse_setPulse_self]; exact nofun, fun q hq => ?_⟩
      rw [e.pulse_setPulse_of_ne _ (hother q hq), hcut]
    · refine ⟨?_, fun q hq => (e.pulse_enqueue_of_ne (hother q hq) _).trans (hcut q)⟩
      show ((e.setPulse _ _).pulse _).state ≠ _
      rw [Driver.pulse_setPulse_self]
      exact nofun
  all_goals next h => exact ⟨by rw [h]; exact nofun, fun q _ => hcut q⟩

theorem Driver.onward_requestTrip (d : Driver) (sc : Scanner) (now : Stamp) (p : Pdu) :
    d.Onward (d.requestTrip sc now p).1 := by
  obtain ⟨hp, hother⟩ := d.requestTrip_trips sc now p
  refine (d.sameBut_requestTrip sc now p).onward fun q hq => ?_
  by_cases h : q = p
  · rw [h]
    exact hp
  · rwa [hother q h]

/-! ### The arbiter outside ENERGIZING (R131) -/

/-- The head judged outside ENERGIZING: a trip fires or is SPENT, a close is back in READY; the others stand. -/
theorem Driver.judgeHead_idle (d : Driver) (sc : Scanner) (now : Stamp) (id : PulseId) :
    (∀ p, id = .trip p → ((d.judgeHead sc now false id).1.pulse id).state ≠ .ready)
      ∧ (∀ q, .trip q ≠ id → (d.judgeHead sc now false id).1.pulse (.trip q) = d.pulse (.trip q))
      ∧ (d.judgeHead sc now false id).1.pulseQueue = d.pulseQueue
      ∧ ∀ n ∈ (d.judgeHead sc now false id).2, ∃ p, n = .tripOutcome p ∨ n = .closeWithdrawn p := by
  unfold Driver.judgeHead
  cases id with
  | trip p =>
    dsimp only
    split
    · exact ⟨fun _ _ => by rw [Driver.pulse_setPulse_self]; exact nofun, fun q hq => d.pulse_setPulse_of_ne _ hq,
        d.pulseQueue_setPulse _ _, fun n hn => ⟨p, .inl (List.mem_singleton.1 hn)⟩⟩
    · exact ⟨fun _ _ => by rw [Driver.fire, Driver.pulse_setPulse_self]; exact nofun,
        fun q hq => d.pulse_setPulse_of_ne _ hq, d.pulseQueue_setPulse _ _, fun n hn => absurd hn List.not_mem_nil⟩
  | close p =>
    exact ⟨nofun, fun q hq => d.pulse_setPulse_of_ne _ hq, d.pulseQueue_setPulse _ _,
      fun n hn => ⟨p, .inr (List.mem_singleton.1 hn)⟩⟩

theorem Driver.serve_idle (sc : Scanner) (now : Stamp) (n : Nat) (d : Driver) :
    d.Onward (Driver.serve sc now false n d).1 ∧ d.Unasked (Driver.serve sc now false n d).1
      ∧ ∀ m ∈ (Driver.serve sc now false n d).2, ∃ p, m = .tripOutcome p ∨ m = .closeWithdrawn p := by
  induction n generalizing d with
  | zero => exact ⟨.refl d, .refl d, fun m hm => absurd hm List.not_mem_nil⟩
  | succ n ih =>
    unfold Driver.serve
    split
    · exact ⟨.refl d, .refl d, fun m hm => absurd hm List.not_mem_nil⟩
    · split
      · exact ⟨.refl d, .refl d, fun m hm => absurd hm List.not_mem_nil⟩
      · next id rest hqueue =>
        obtain ⟨hself, hother, hrest, hnotices⟩ := ({ d with pulseQueue := rest } : Driver).judgeHead_idle sc now id
        have hsame := ({ d with pulseQueue := rest } : Driver).sameBut_judgeHead sc now false id
        generalize ({ d with pulseQueue := rest } : Driver).judgeHead sc now false id = r at *
        obtain ⟨honward, hunasked, hmore⟩ := ih r.1
        have hpop : ∀ q, ({ d with pulseQueue := rest } : Driver).pulse (.trip q) = d.pulse (.trip q) := fun q => by
          cases q <;> rfl
        have hhead : d.Onward r.1 := by
          refine Driver.SameBut.onward ⟨fun ch => (hsame.1 ch).trans (by cases ch <;> rfl),
            fun ch => (hsame.2 ch).trans (by cases ch <;> rfl)⟩ fun q hq => ?_
          by_cases hid : PulseId.trip q = id
          · rw [hid]
            exact hself q hid.symm
          · rwa [hother q hid, hpop]
        have hpopped : d.Unasked r.1 := by
          refine ⟨fun ⟨hnodup, hqueued⟩ => ?_, fun ⟨_, hqueued⟩ q hq => ?_⟩
          · rw [hqueue] at hnodup hqueued
            obtain ⟨hnot, hnd⟩ := List.nodup_cons.1 hnodup
            refine ⟨by rw [hrest]; exact hnd, fun q hq => ?_⟩
            rw [hrest] at hq
            have hid : PulseId.trip q ≠ id := fun h => hnot (h ▸ hq)
            rw [hother q hid, hpop]
            exact hqueued q (List.mem_cons_of_mem _ hq)
          · have hid : PulseId.trip q ≠ id := fun h => hq (hqueued q (by rw [hqueue, h]; exact List.mem_cons_self))
            rw [hother q hid, hpop]
        refine ⟨hhead.trans honward, hpopped.trans hunasked, fun m hm => ?_⟩
        rw [Driven.next_snd] at hm
        exact (List.mem_append.1 hm).elim (hnotices m) (hmore m)

end

end Sys2Proof.Machine
end


section
/-! PROOFS. The zone brought up to a stage (R101 to R107), and what the rest of the event makes of it. -/

namespace Sys2Proof.Machine

/-! ### Acts that take nothing back, and acts that ask for no trip -/

/-- SAFE is asked for: the SAFE wait stands, or both HOLD channels are asserted (R107). -/
def Actors.SafeMet (a : Actors) : Prop :=
  a.seq.safeWait = true ∨ (a.drv.valve.asserted = true ∧ a.drv.coolstop.asserted = true)

/-- Both trips have been asked for. -/
def Actors.TripsAsked (a : Actors) : Prop := ∀ p, (a.drv.pulse (.trip p)).state ≠ .ready

structure Actors.Onward (a b : Actors) : Prop where
  drv : a.drv.Onward b.drv
  wait : a.seq.safeWait = true → b.SafeMet

structure Actors.Unasked (a b : Actors) : Prop where
  drv : a.drv.Unasked b.drv
  grace : b.seq.grace = a.seq.grace
  wait : a.drv.TripsQueued → a.seq.safeWait = true → ∀ p, (a.drv.pulse (.trip p)).state = .ready → b.seq.safeWait = true

section
variable {a b c : Actors} {v : View}

theorem Actors.Onward.refl (a : Actors) : a.Onward a := ⟨.refl _, .inl⟩

theorem Actors.Onward.safeMet (h : a.Onward b) (ha : a.SafeMet) : b.SafeMet :=
  ha.elim h.wait fun ⟨hv, hc⟩ => .inr ⟨h.drv.holds .valve hv, h.drv.holds .coolstop hc⟩

theorem Actors.Onward.tripsAsked (h : a.Onward b) (ha : a.TripsAsked) : b.TripsAsked := fun p => h.drv.gone p (ha p)

theorem Actors.Onward.trans (h : a.Onward b) (k : b.Onward c) : a.Onward c := ⟨h.drv.trans k.drv, k.safeMet ∘ h.wait⟩

theorem Actors.Onward.of_drv (hdrv : a.drv.Onward b.drv) (hwait : b.seq.safeWait = a.seq.safeWait) : a.Onward b :=
  ⟨hdrv, fun h => .inl (hwait.trans h)⟩

theorem Actors.Unasked.refl (a : Actors) : a.Unasked a := ⟨.refl _, rfl, fun _ h _ _ => h⟩

theorem Actors.Unasked.trans (h : a.Unasked b) (k : b.Unasked c) : a.Unasked c where
  drv := h.drv.trans k.drv
  grace := k.grace.trans h.grace
  wait hq hw p hp := by
    have hsame := h.drv.trips hq p (by rw [hp]; exact nofun)
    exact k.wait (h.drv.queue hq) (h.wait hq hw p hp) p (by rw [hsame]; exact hp)

theorem Actors.Unasked.of_drv (hdrv : a.drv.Unasked b.drv) (hgrace : b.seq.grace = a.seq.grace)
    (hwait : a.seq.safeWait = true → b.seq.safeWait = true) : a.Unasked b := ⟨hdrv, hgrace, fun _ h _ _ => hwait h⟩

/-! ### Notices -/

theorem Actors.onward_tripOutcome (a : Actors) (v : View) : a.Onward (a.tripOutcome v) := by
  unfold Actors.tripOutcome
  split
  · exact ⟨a.drv.onward_assertSafe v, fun _ => .inr (a.drv.assertSafe_asserts v)⟩
  · exact .refl a

theorem Actors.unasked_tripOutcome (a : Actors) (v : View) : a.Unasked (a.tripOutcome v) := by
  unfold Actors.tripOutcome
  split
  · next h =>
    rw [Bool.and_eq_true, Driver.tripsEnded_iff] at h
    refine ⟨a.drv.unasked_assertSafe v, rfl, fun _ _ p hp => ?_⟩
    rcases h.2 p with hended | hended <;> cases hp.symm.trans hended
  · exact .refl a

theorem Actors.onward_hear (a : Actors) (v : View) (n : Notice) : a.Onward (a.hear v n) := by
  cases n with
  | tripOutcome p => exact a.onward_tripOutcome v
  | _ => exact .of_drv (.refl _) rfl

theorem Actors.unasked_hear (a : Actors) (v : View) (n : Notice) : a.Unasked (a.hear v n) := by
  cases n with
  | tripOutcome p => exact a.unasked_tripOutcome v
  | _ => exact .of_drv (.refl _) rfl id

theorem Actors.onward_hearAll (v : View) (ns : List Notice) (a : Actors) : a.Onward (ns.foldl (fun a n => a.hear v n) a) := by
  induction ns generalizing a with
  | nil => exact .refl a
  | cons n ns ih => exact (a.onward_hear v n).trans (ih _)

theorem Actors.unasked_hearAll (v : View) (ns : List Notice) (a : Actors) :
    a.Unasked (ns.foldl (fun a n => a.hear v n) a) := by
  induction ns generalizing a with
  | nil => exact .refl a
  | cons n ns ih => exact (a.unasked_hear v n).trans (ih _)

theorem Actors.onward_drive (f : Driver → Driven) (h : a.drv.Onward (f a.drv).1) : a.Onward (a.drive v f) :=
  Actors.Onward.trans (b := a.withDrv (f a.drv).1) (.of_drv h rfl) (Actors.onward_hearAll v _ _)

theorem Actors.unasked_drive (f : Driver → Driven) (h : a.drv.Unasked (f a.drv).1) : a.Unasked (a.drive v f) :=
  Actors.Unasked.trans (b := a.withDrv (f a.drv).1) (.of_drv h rfl id) (Actors.unasked_hearAll v _ _)

/-! ### Trip requests and the end of the grace (R104, R129) -/

theorem Actors.onward_tripOne (a : Actors) (v : View) (p : Pdu) : a.Onward (a.tripOne v p) := by
  unfold Actors.tripOne
  split
  · exact Actors.onward_drive _ (a.drv.onward_requestTrip v.scanner v.now p)
  · exact .refl a

theorem Actors.tripOne_asked (a : Actors) (v : View) (p : Pdu) : ((a.tripOne v p).drv.pulse (.trip p)).state ≠ .ready := by
  unfold Actors.tripOne
  split
  · exact (Actors.onward_hearAll v _ (a.withDrv (a.drv.requestTrip v.scanner v.now p).1)).drv.gone p
      (a.drv.requestTrip_trips v.scanner v.now p).1
  · next h => exact h

theorem Actors.onward_tripReady (a : Actors) (v : View) : a.Onward (a.tripReady v) :=
  (a.onward_tripOne v .a).trans (Actors.onward_tripOne _ v .b)

theorem Actors.tripReady_asked (a : Actors) (v : View) : (a.tripReady v).TripsAsked := by
  intro p
  rw [a.tripReady_eq v]
  cases p with
  | a => exact (Actors.onward_tripOne _ v .b).drv.gone .a (a.tripOne_asked v .a)
  | b => exact Actors.tripOne_asked _ v .b

theorem Actors.tripReady_of_asked (v : View) (h : a.TripsAsked) : a.tripReady v = a := by
  have hone : ∀ p, a.tripOne v p = a := fun p => if_neg (h p)
  rw [a.tripReady_eq v, hone, hone]

theorem Actors.tripReady_grace (a : Actors) (v : View) : (a.tripReady v).seq.grace = a.seq.grace := by
  rw [(a.driveOnly_tripReady v).2]

theorem Actors.endGrace_of_running {expiry : Stamp} (h : a.seq.grace = .running expiry) :
    (a.endGrace v).seq.grace = .ended ∧ (a.endGrace v).TripsAsked := by
  have hend : a.endGrace v = (a.withSeq { a.seq with grace := .ended }).tripReady v := by
    unfold Actors.endGrace
    rw [h]
  rw [hend]
  exact ⟨Actors.tripReady_grace _ v, Actors.tripReady_asked _ v⟩

theorem Actors.endGrace_of_not (v : View) (h : ∀ e, a.seq.grace ≠ .running e) : a.endGrace v = a := by
  unfold Actors.endGrace
  split
  · next e he => exact absurd he (h e)
  · rfl
  · rfl

theorem Actors.onward_endGrace (a : Actors) (v : View) : a.Onward (a.endGrace v) := by
  unfold Actors.endGrace
  split
  · exact Actors.Onward.trans (b := a.withSeq { a.seq with grace := .ended }) (.of_drv (.refl _) rfl)
      (Actors.onward_tripReady _ v)
  · exact .refl a
  · exact .refl a

/-! ### What each stage asks for (R101, R103, R107) -/

theorem Actors.onward_bringIsolate (a : Actors) (v : View) : a.Onward (a.bringIsolate v) := by
  unfold Actors.bringIsolate Actors.cutAtStart
  split
  · have hset : a.Onward (a.withSeq { a.seq with grace := .running (later v.now v.profile.grace) }) := .of_drv (.refl _) rfl
    split
    · exact hset.trans (Actors.onward_endGrace _ v)
    · exact hset
  · exact .refl a
  · exact a.onward_tripReady v

theorem Actors.onward_bringSafe (a : Actors) (v : View) : a.Onward (a.bringSafe v) := by
  unfold Actors.bringSafe
  split
  · exact .refl a
  · split
    · exact .of_drv (a.drv.onward_assertSafe v) rfl
    · exact ⟨.refl _, fun _ => .inl rfl⟩

theorem Actors.bringSafe_met (a : Actors) (v : View) : (a.bringSafe v).SafeMet := by
  unfold Actors.bringSafe
  split
  · next h => exact .inr (by simpa using h)
  · split
    · exact .inr (a.drv.assertSafe_asserts v)
    · exact .inl rfl

theorem Actors.unasked_bringSafe (a : Actors) (v : View) : a.Unasked (a.bringSafe v) := by
  unfold Actors.bringSafe
  split
  · exact .refl a
  · split
    · exact .of_drv (a.drv.unasked_assertSafe v) rfl id
    · exact .of_drv (.refl _) rfl fun _ => rfl

theorem Actors.bringSafe_waits (v : View) (hsafe : ¬ (a.drv.valve.asserted = true ∧ a.drv.coolstop.asserted = true))
    {p : Pdu} (hp : (a.drv.pulse (.trip p)).state = .ready) : (a.bringSafe v).seq.safeWait = true := by
  have hopen : ¬ a.drv.tripsEnded = true := fun h => by
    rcases a.drv.tripsEnded_iff.1 h p with hended | hended <;> cases hp.symm.trans hended
  unfold Actors.bringSafe
  rw [if_neg (by simpa using hsafe), if_neg hopen]
  rfl

/-- The cuts tested as a grace starts (R103). -/
def Actors.CutsAtStart (a : Actors) (v : View) : Prop := v.scanner.active 5 = true ∨ a.grade7 v = true

theorem Actors.bringIsolate_cut (hgrace : a.seq.grace = .none) (hcut : a.CutsAtStart v) :
    (a.bringIsolate v).seq.grace = .ended ∧ (a.bringIsolate v).TripsAsked := by
  have hbring : a.bringIsolate v
      = (a.withSeq { a.seq with grace := .running (later v.now v.profile.grace) }).endGrace v := by
    unfold Actors.bringIsolate Actors.cutAtStart
    rw [hgrace]
    exact if_pos (show (v.scanner.active 5 || a.grade7 v) = true by simpa [Actors.CutsAtStart] using hcut)
  rw [hbring]
  exact Actors.endGrace_of_running rfl

theorem Actors.bringIsolate_starts (hgrace : a.seq.grace = .none) (hcut : ¬ a.CutsAtStart v) :
    a.bringIsolate v = a.withSeq { a.seq with grace := .running (later v.now v.profile.grace) } := by
  unfold Actors.bringIsolate Actors.cutAtStart
  rw [hgrace]
  exact if_neg (show ¬ (v.scanner.active 5 || a.grade7 v) = true by simpa [Actors.CutsAtStart] using hcut)

theorem Actors.bringIsolate_ended (hgrace : a.seq.grace = .ended) : a.bringIsolate v = a.tripReady v := by
  unfold Actors.bringIsolate
  rw [hgrace]

theorem Actors.bringIsolate_running {expiry : Stamp} (hgrace : a.seq.grace = .running expiry) : a.bringIsolate v = a := by
  unfold Actors.bringIsolate
  rw [hgrace]

/-- ADVISE and LIFT asked for, and FREEZE and HALTREQ too from QUIESCE up. -/
def Actors.levelled (a : Actors) (v : View) (stage : Stage) : Actors :=
  if 2 ≤ stage.code then (a.bringOne v .alert).bringOne v .quiesce
  else if 1 ≤ stage.code then a.bringOne v .alert else a

theorem Actors.bringUp_eq (a : Actors) (v : View) (stage : Stage) :
    a.bringUp v stage =
      if stage = .safe then ((a.levelled v stage).bringIsolate v).bringSafe v
      else if stage = .isolate then (a.levelled v stage).bringIsolate v else a.levelled v stage := by
  cases stage <;> rfl

theorem Actors.levelled_spec (a : Actors) (v : View) (stage : Stage) :
    a.Onward (a.levelled v stage) ∧ a.Unasked (a.levelled v stage) ∧ (a.levelled v stage).seq = a.seq
      ∧ (∀ h, (a.levelled v stage).drv.hold h = a.drv.hold h)
      ∧ (∀ p, (a.levelled v stage).drv.pulse p = a.drv.pulse p)
      ∧ (1 ≤ stage.code → ∀ id ∈ [LevelId.advise, .lift], ((a.levelled v stage).drv.level id).state = .asserted)
      ∧ (2 ≤ stage.code → ∀ id ∈ levelIds, ((a.levelled v stage).drv.level id).state = .asserted) := by
  have hone : ∀ (b : Actors) (x y : LevelId),
      b.Onward (b.withDrv ((b.drv.assertLevel x).assertLevel y))
        ∧ b.Unasked (b.withDrv ((b.drv.assertLevel x).assertLevel y))
        ∧ (∀ h, ((b.drv.assertLevel x).assertLevel y).hold h = b.drv.hold h)
        ∧ (∀ p, ((b.drv.assertLevel x).assertLevel y).pulse p = b.drv.pulse p)
        ∧ ∀ id ∈ [x, y], (((b.drv.assertLevel x).assertLevel y).level id).state = .asserted := by
    intro b x y
    refine ⟨.of_drv ((b.drv.onward_assertLevel x).trans (Driver.onward_assertLevel _ y)) rfl,
      .of_drv ((b.drv.unasked_assertLevel x).trans (Driver.unasked_assertLevel _ y)) rfl id,
      fun h => by simp [Driver.assertLevel], fun p => by simp [Driver.assertLevel], fun id hid => ?_⟩
    rcases List.mem_cons.1 hid with rfl | hid
    · exact (Driver.onward_assertLevel _ y).levels _ (b.drv.assertLevel_asserted _)
    · rw [List.mem_singleton.1 hid]
      exact Driver.assertLevel_asserted _ y
  obtain ⟨hon, hun, hhold, hpulse, hup⟩ := hone a .advise .lift
  unfold Actors.levelled
  split
  · obtain ⟨hon', hun', hhold', hpulse', hup'⟩ := hone (a.bringOne v .alert) .freeze .haltreq
    refine ⟨hon.trans hon', hun.trans hun', rfl, fun h => (hhold' h).trans (hhold h),
      fun p => (hpulse' p).trans (hpulse p), fun _ id hid => hon'.drv.levels id (hup id hid), fun _ id _ => ?_⟩
    cases id with
    | advise | lift => exact hon'.drv.levels _ (hup _ (by decide))
    | freeze | haltreq => exact hup' _ (by decide)
  · next hlow =>
    split
    · exact ⟨hon, hun, rfl, hhold, hpulse, fun _ => hup, fun h => absurd h hlow⟩
    · next hzero => exact ⟨.refl a, .refl a, rfl, fun _ => rfl, fun _ => rfl, fun h => absurd h hzero, fun h => absurd h hlow⟩

/-- The zone brought up to a stage: what stands asserted, the SAFE wait, the grace and the trips. The two conditions say
whether a fresh grace, and one that stood, have been ended. -/
structure Actors.Brought (v : View) (stage : Stage) (cutFresh cutOld : Prop) (a b : Actors) : Prop where
  low : 1 ≤ stage.code → ∀ id ∈ [LevelId.advise, .lift], (b.drv.level id).state = .asserted
  all : 2 ≤ stage.code → ∀ id ∈ levelIds, (b.drv.level id).state = .asserted
  safe : stage = .safe → b.SafeMet
  cut : 3 ≤ stage.code → (a.seq.grace = .none ∧ cutFresh) ∨ (a.seq.grace ≠ .none ∧ cutOld) →
    b.seq.grace = .ended ∧ b.TripsAsked
  starts : 3 ≤ stage.code → a.seq.grace = .none → ¬ cutFresh →
    b.seq.grace = .running (later v.now v.profile.grace)
  trips : 3 ≤ stage.code → a.seq.grace = .none → ¬ cutFresh → a.drv.TripsQueued → b.drv.TripsQueued
    ∧ ∀ p, (a.drv.pulse (.trip p)).state ≠ .queued → b.drv.pulse (.trip p) = a.drv.pulse (.trip p)
  waits : stage = .safe → a.seq.grace = .none → ¬ cutFresh → a.drv.TripsQueued →
    ¬ (a.drv.valve.asserted = true ∧ a.drv.coolstop.asserted = true) →
    ∀ p, (a.drv.pulse (.trip p)).state = .ready → b.seq.safeWait = true
  old : 3 ≤ stage.code → a.seq.grace ≠ .none → ¬ cutOld → b.seq.grace = a.seq.grace

variable {stage : Stage} {cutFresh cutOld : Prop}

theorem Actors.Brought.keep (h : Actors.Brought v stage cutFresh cutOld a b) (honward : b.Onward c) (hunasked : b.Unasked c) :
    Actors.Brought v stage cutFresh cutOld a c where
  low hs id hid := honward.drv.levels id (h.low hs id hid)
  all hs id hid := honward.drv.levels id (h.all hs id hid)
  safe hs := honward.safeMet (h.safe hs)
  cut hs hc := ⟨hunasked.grace.trans (h.cut hs hc).1, honward.tripsAsked (h.cut hs hc).2⟩
  starts hs hg hc := hunasked.grace.trans (h.starts hs hg hc)
  trips hs hg hc hq := by
    obtain ⟨hqueue, hsame⟩ := h.trips hs hg hc hq
    refine ⟨hunasked.drv.queue hqueue, fun p hp => ?_⟩
    exact (hunasked.drv.trips hqueue p (by rwa [hsame p hp])).trans (hsame p hp)
  waits hs hg hc hq hsafe p hp := by
    obtain ⟨hqueue, hsame⟩ := h.trips (by rw [hs]; decide) hg hc hq
    exact hunasked.wait hqueue (h.waits hs hg hc hq hsafe p hp) p (by rwa [hsame p (by rw [hp]; exact nofun)])
  old hs hg hc := hunasked.grace.trans (h.old hs hg hc)

theorem Actors.Brought.congr (h : Actors.Brought v stage cutFresh cutOld a b) {fresh old : Prop}
    (hfresh : a.seq.grace = .none → (cutFresh ↔ fresh)) (hold : a.seq.grace ≠ .none → (cutOld ↔ old)) :
    Actors.Brought v stage fresh old a b where
  low := h.low
  all := h.all
  safe := h.safe
  cut hs hc := h.cut hs (hc.imp (fun ⟨hg, hf⟩ => ⟨hg, (hfresh hg).2 hf⟩) fun ⟨hg, ho⟩ => ⟨hg, (hold hg).2 ho⟩)
  starts hs hg hc := h.starts hs hg (hc ∘ (hfresh hg).1)
  trips hs hg hc := h.trips hs hg (hc ∘ (hfresh hg).1)
  waits hs hg hc := h.waits hs hg (hc ∘ (hfresh hg).1)
  old hs hg hc := h.old hs hg (hc ∘ (hold hg).1)

/-- A cut after the zone has been brought up (R104). -/
theorem Actors.Brought.endGrace (h : Actors.Brought v stage cutFresh cutOld a b) (hended : a.seq.grace = .ended → cutOld) :
    Actors.Brought v stage True True a (b.endGrace v) where
  low hs id hid := (b.onward_endGrace v).drv.levels id (h.low hs id hid)
  all hs id hid := (b.onward_endGrace v).drv.levels id (h.all hs id hid)
  safe hs := (b.onward_endGrace v).safeMet (h.safe hs)
  starts _ _ hc := absurd trivial hc
  trips _ _ hc := absurd trivial hc
  waits _ _ hc := absurd trivial hc
  old _ _ hc := absurd trivial hc
  cut hs _ := by
    have hcase : (∃ e, b.seq.grace = .running e) ∨ (b.seq.grace = .ended ∧ b.TripsAsked) := by
      by_cases hg : a.seq.grace = .none
      · by_cases hc : cutFresh
        · exact .inr (h.cut hs (.inl ⟨hg, hc⟩))
        · exact .inl ⟨_, h.starts hs hg hc⟩
      · by_cases hc : cutOld
        · exact .inr (h.cut hs (.inr ⟨hg, hc⟩))
        · have hsame := h.old hs hg hc
          cases hag : a.seq.grace with
          | none => exact absurd hag hg
          | ended => exact absurd (hended hag) hc
          | running e => exact .inl ⟨e, hsame.trans hag⟩
    rcases hcase with ⟨e, he⟩ | ⟨hended', hasked⟩
    · exact Actors.endGrace_of_running he
    · rw [Actors.endGrace_of_not v fun e he => nomatch he.symm.trans hended']
      exact ⟨hended', hasked⟩

/-- The zone brought up to a stage, from what stood before (R101). -/
theorem Actors.brought_bringUp (a : Actors) (v : View) (stage : Stage) :
    Actors.Brought v stage (a.CutsAtStart v) (a.seq.grace = .ended) a (a.bringUp v stage) := by
  obtain ⟨hlon, hlun, hlseq, hlhold, hlpulse, hlow, hall⟩ := a.levelled_spec v stage
  have hgrade : (a.levelled v stage).CutsAtStart v ↔ a.CutsAtStart v := by
    unfold Actors.CutsAtStart Actors.grade7
    rw [hlseq]
  have hlgrace : (a.levelled v stage).seq.grace = a.seq.grace := by rw [hlseq]
  rw [Actors.bringUp_eq]
  generalize a.levelled v stage = l at *
  by_cases hhigh : 3 ≤ stage.code
  · have hiso : Actors.Brought v .isolate (a.CutsAtStart v) (a.seq.grace = .ended) a (l.bringIsolate v) := by
      have honward := l.onward_bringIsolate v
      refine ⟨fun _ id hid => honward.drv.levels id (hlow (by omega) id hid),
        fun _ id hid => honward.drv.levels id (hall (by omega) id hid), nofun, fun _ hc => ?_, fun _ hg hc => ?_,
        fun _ hg hc hq => ?_, nofun, fun _ hg hc => ?_⟩
      · rcases hc with ⟨hg, hc⟩ | ⟨-, hg⟩
        · exact Actors.bringIsolate_cut (hlgrace.trans hg) (hgrade.2 hc)
        · rw [Actors.bringIsolate_ended (hlgrace.trans hg)]
          exact ⟨(l.tripReady_grace v).trans (hlgrace.trans hg), l.tripReady_asked v⟩
      · rw [Actors.bringIsolate_starts (hlgrace.trans hg) (mt hgrade.1 hc)]
        rfl
      · rw [Actors.bringIsolate_starts (hlgrace.trans hg) (mt hgrade.1 hc)]
        exact ⟨hlun.drv.queue hq, fun p _ => hlpulse (.trip p)⟩
      · cases hag : a.seq.grace with
        | none => exact absurd hag hg
        | ended => exact absurd hag hc
        | running e => rw [Actors.bringIsolate_running (hlgrace.trans hag), hlgrace, hag]
    by_cases hsafe : stage = .safe
    · rw [if_pos hsafe, hsafe]
      have hkept := hiso.keep (Actors.onward_bringSafe _ v) (Actors.unasked_bringSafe _ v)
      refine ⟨fun _ => hkept.low (by decide), fun _ => hkept.all (by decide), fun _ => Actors.bringSafe_met _ v,
        fun _ => hkept.cut (by decide), fun _ => hkept.starts (by decide), fun _ => hkept.trips (by decide),
        fun _ hg hc _ hnot p hp => ?_, fun _ => hkept.old (by decide)⟩
      rw [Actors.bringIsolate_starts (hlgrace.trans hg) (mt hgrade.1 hc)]
      refine Actors.bringSafe_waits (p := p) v ?_ ?_
      · have hv : l.drv.valve = a.drv.valve := hlhold .valve
        have hcool : l.drv.coolstop = a.drv.coolstop := hlhold .coolstop
        show ¬ (l.drv.valve.asserted = true ∧ l.drv.coolstop.asserted = true)
        rwa [hv, hcool]
      · show (l.drv.pulse (.trip p)).state = .ready
        rwa [hlpulse]
    · have hisolate : stage = .isolate := by
        cases stage with
        | isolate => rfl
        | safe => exact absurd rfl hsafe
        | watch | alert | quiesce => exact absurd hhigh (by decide)
      rw [if_neg hsafe, if_pos hisolate, hisolate]
      exact hiso
  · rw [if_neg (by rintro rfl; exact hhigh (by decide)), if_neg (by rintro rfl; exact hhigh (by decide))]
    exact ⟨hlow, hall, fun hs => absurd (by rw [hs]; decide) hhigh, fun h => absurd h hhigh, fun h => absurd h hhigh,
      fun h => absurd h hhigh, fun hs => absurd (by rw [hs]; decide) hhigh, fun h => absurd h hhigh⟩

/-- A second bringing up, with nothing left to ask of the trips. -/
theorem Actors.bringUp_again (v : View) (stage : Stage) (hnone : 3 ≤ stage.code → a.seq.grace ≠ .none)
    (hasked : 3 ≤ stage.code → a.seq.grace = .ended → a.TripsAsked) :
    a.Onward (a.bringUp v stage) ∧ a.Unasked (a.bringUp v stage) := by
  obtain ⟨hlon, hlun, hlseq, -⟩ := a.levelled_spec v stage
  have hlgrace : (a.levelled v stage).seq.grace = a.seq.grace := by rw [hlseq]
  have hisolate : 3 ≤ stage.code → (a.levelled v stage).bringIsolate v = a.levelled v stage := by
    intro hhigh
    cases hg : a.seq.grace with
    | none => exact absurd hg (hnone hhigh)
    | running e => exact Actors.bringIsolate_running (hlgrace.trans hg)
    | ended =>
      rw [Actors.bringIsolate_ended (hlgrace.trans hg)]
      exact Actors.tripReady_of_asked v (hlon.tripsAsked (hasked hhigh hg))
  rw [Actors.bringUp_eq]
  split
  · next hs =>
    rw [hisolate (by rw [hs]; decide)]
    exact ⟨hlon.trans (Actors.onward_bringSafe _ v), hlun.trans (Actors.unasked_bringSafe _ v)⟩
  · split
    · next hs =>
      rw [hisolate (by rw [hs]; decide)]
      exact ⟨hlon, hlun⟩
    · exact ⟨hlon, hlun⟩

/-! ### Changes of phase and the arbiter -/

theorem Actors.setPhase_zone (a : Actors) (v : View) (phase : Phase) :
    a.Onward (a.setPhase v phase) ∧ a.Unasked (a.setPhase v phase) := by
  have hseq := a.setPhase_seq v phase
  have hwait : (a.setPhase v phase).seq.safeWait = a.seq.safeWait := by rw [hseq]
  have hgrace : (a.setPhase v phase).seq.grace = a.seq.grace := by rw [hseq]
  have hdrv : a.drv.Onward (a.setPhase v phase).drv ∧ a.drv.Unasked (a.setPhase v phase).drv := by
    rw [Actors.setPhase_drv_eq]
    split
    · exact a.drv.leaveEnergizing_trips v.now
    · exact ⟨.refl _, .refl _⟩
  exact ⟨.of_drv hdrv.1 hwait, .of_drv hdrv.2 hgrace hwait.trans⟩

theorem Actors.enterQuietWait_zone (a : Actors) (v : View) :
    a.Onward (a.enterQuietWait v) ∧ a.Unasked (a.enterQuietWait v) := by
  obtain ⟨hon, hun⟩ := a.setPhase_zone v .quietWait
  exact ⟨hon.trans (.of_drv (.refl _) rfl), hun.trans (.of_drv (.refl _) rfl id)⟩

/-- Outside ENERGIZING nobody but the sequencer acts on what the arbiter does. -/
theorem Actors.serve_eq_drive (a : Actors) (v : View) (hphase : a.coord.phase ≠ .energizing) :
    a.serve v = a.drive v fun d => Driver.serve v.scanner v.now false d.pulseQueue.length d := by
  have henergizing : a.energizing = false := decide_eq_false hphase
  obtain ⟨-, -, hnotices⟩ := Driver.serve_idle v.scanner v.now a.drv.pulseQueue.length a.drv
  have hreport : ∀ (ns : List Notice) (b : Actors), (∀ n ∈ ns, ∃ p, n = .tripOutcome p ∨ n = .closeWithdrawn p) →
      ns.foldl (fun a n => a.report v n) b = ns.foldl (fun a n => a.hear v n) b := by
    intro ns
    induction ns with
    | nil => exact fun _ _ => rfl
    | cons n ns ih =>
      intro b h
      have hone : b.report v n = b.hear v n := by
        obtain ⟨p, rfl | rfl⟩ := h n List.mem_cons_self <;> rfl
      rw [List.foldl_cons, List.foldl_cons, hone]
      exact ih _ fun n hn => h n (List.mem_cons_of_mem _ hn)
  unfold Actors.serve Actors.operate Actors.drive
  rw [henergizing]
  exact hreport _ _ hnotices

theorem Actors.serve_zone (a : Actors) (v : View) (hphase : a.coord.phase ≠ .energizing) :
    a.Onward (a.serve v) ∧ a.Unasked (a.serve v) := by
  obtain ⟨hon, hun, -⟩ := Driver.serve_idle v.scanner v.now a.drv.pulseQueue.length a.drv
  rw [a.serve_eq_drive v hphase]
  exact ⟨Actors.onward_drive _ hon, Actors.unasked_drive _ hun⟩

theorem State.endEvent_zone (s old : State) (hphase : s.act.coord.phase ≠ .energizing) :
    s.act.Onward (s.endEvent old).act ∧ s.act.Unasked (s.endEvent old).act := by
  unfold State.endEvent
  split
  · exact s.act.serve_zone s.view hphase
  · exact ⟨.refl _, .refl _⟩

end

end Sys2Proof.Machine
end


section
/-! PROOFS. What a raise, a forming of T and an abort make of the zone and of the turn (R100 to R107, R172). -/

namespace Sys2Proof.Machine

section
variable {a b c e : Actors} {v : View} {stage : Stage} {cutFresh cutOld fresh old : Prop}

/-! ### The zone brought up, seen from an earlier state -/

/-- Nothing of the trips, the HOLD channels asked for and the queue's order has been touched. -/
structure Actors.Untouched (a e : Actors) : Prop where
  drv : a.drv.Unasked e.drv
  valve : e.drv.valve = a.drv.valve
  coolstop : e.drv.coolstop = a.drv.coolstop

theorem Actors.Untouched.of_drv (h : e.drv = a.drv) : a.Untouched e :=
  ⟨by rw [h]; exact .refl _, by rw [h], by rw [h]⟩

/-- The zone brought up from `e`, told from an earlier state whose grace was cut before or not. -/
theorem Actors.Brought.since (h : Actors.Brought v stage cutFresh cutOld e b)
    (hfresh : a.seq.grace = .none → e.seq.grace = .none ∧ (cutFresh ↔ fresh) ∧ a.Untouched e)
    (hcut : a.seq.grace ≠ .none → old → e.seq.grace ≠ .none ∧ cutOld)
    (hkept : a.seq.grace ≠ .none → ¬ old → e.seq.grace = a.seq.grace ∧ ¬ cutOld) :
    Actors.Brought v stage fresh old a b where
  low := h.low
  all := h.all
  safe := h.safe
  cut hs hc := by
    rcases hc with ⟨hg, hf⟩ | ⟨hg, ho⟩
    · obtain ⟨heg, hiff, -⟩ := hfresh hg
      exact h.cut hs (.inl ⟨heg, hiff.2 hf⟩)
    · exact h.cut hs (.inr (hcut hg ho))
  starts hs hg hc := by
    obtain ⟨heg, hiff, -⟩ := hfresh hg
    exact h.starts hs heg (hc ∘ hiff.1)
  trips hs hg hc hq := by
    obtain ⟨heg, hiff, hsame⟩ := hfresh hg
    obtain ⟨hqueue, htrips⟩ := h.trips hs heg (hc ∘ hiff.1) (hsame.drv.queue hq)
    refine ⟨hqueue, fun p hp => ?_⟩
    have hone := hsame.drv.trips hq p hp
    exact (htrips p (by rwa [hone])).trans hone
  waits hs hg hc hq hsafe p hp := by
    obtain ⟨heg, hiff, hsame⟩ := hfresh hg
    have hone := hsame.drv.trips hq p (by rw [hp]; exact nofun)
    exact h.waits hs heg (hc ∘ hiff.1) (hsame.drv.queue hq) (by rwa [hsame.valve, hsame.coolstop]) p (by rwa [hone])
  old hs hg ho := by
    obtain ⟨heg, hno⟩ := hkept hg ho
    exact (h.old hs (by rwa [heg]) hno).trans heg

theorem Actors.Brought.of_same (h : Actors.Brought v stage cutFresh cutOld e b) (hdrv : e.drv = a.drv)
    (hgrace : e.seq.grace = a.seq.grace) : Actors.Brought v stage cutFresh cutOld a b :=
  h.since (fun hg => ⟨hgrace.trans hg, .rfl, .of_drv hdrv⟩) (fun hg ho => ⟨by rwa [hgrace], ho⟩) fun _ ho => ⟨hgrace, ho⟩

/-- From ISOLATE up a grace stands, and once it has ended both trips have been asked for. -/
theorem Actors.Brought.ready (h : Actors.Brought v stage cutFresh cutOld a b) (hended : a.seq.grace = .ended → cutOld)
    (hs : 3 ≤ stage.code) : b.seq.grace ≠ .none ∧ (b.seq.grace = .ended → b.TripsAsked) := by
  by_cases hg : a.seq.grace = .none
  · by_cases hc : cutFresh
    · obtain ⟨hbg, hasked⟩ := h.cut hs (.inl ⟨hg, hc⟩)
      exact ⟨by rw [hbg]; exact nofun, fun _ => hasked⟩
    · rw [h.starts hs hg hc]
      exact ⟨nofun, nofun⟩
  · by_cases hc : cutOld
    · obtain ⟨hbg, hasked⟩ := h.cut hs (.inr ⟨hg, hc⟩)
      exact ⟨by rw [hbg]; exact nofun, fun _ => hasked⟩
    · rw [h.old hs hg hc]
      exact ⟨hg, fun hag => absurd (hended hag) hc⟩

/-! ### Entry to QUIET_WAIT, abort, raise -/

theorem Actors.untouched_enterQuietWait (a : Actors) (v : View) : a.Untouched (a.enterQuietWait v) := by
  have hsame : a.drv.SameBut (a.setPhase v .quietWait).drv := by
    rw [Actors.setPhase_drv_eq]
    split
    · exact a.drv.sameBut_leaveEnergizing v.now
    · exact .refl _
  exact ⟨(a.enterQuietWait_zone v).2.drv, hsame.2 .valve, hsame.2 .coolstop⟩

theorem Actors.enterQuietWait_seq (a : Actors) (v : View) :
    (a.enterQuietWait v).seq.grace = a.seq.grace ∧ (a.enterQuietWait v).seq.target = a.seq.target
      ∧ (a.enterQuietWait v).seq.stage = a.seq.stage := by
  have hseq : (a.enterQuietWait v).seq = _ := a.setPhase_seq v .quietWait
  rw [hseq]
  exact ⟨rfl, rfl, rfl⟩

/-- An abort after a raise has nothing more to ask of the trips. -/
theorem Actors.Brought.abort (h : Actors.Brought v stage cutFresh cutOld a b) (hended : a.seq.grace = .ended → cutOld)
    (hstage : b.seq.stage = stage) : Actors.Brought v stage cutFresh cutOld a (b.abort v) := by
  obtain ⟨hon, hun⟩ := b.enterQuietWait_zone v
  have hwait := h.keep hon hun
  obtain ⟨-, -, hstand⟩ := b.enterQuietWait_seq v
  obtain ⟨hon', hun'⟩ := Actors.bringUp_again (a := b.enterQuietWait v) v stage (fun hs => (hwait.ready hended hs).1)
    fun hs => (hwait.ready hended hs).2
  show Actors.Brought v stage cutFresh cutOld a ((b.enterQuietWait v).bringUp v (b.enterQuietWait v).seq.stage)
  rw [hstand, hstage]
  exact hwait.keep hon' hun'

theorem Actors.brought_raise (a : Actors) (v : View) (new : Stage) :
    Actors.Brought v new (a.CutsAtStart v) (a.seq.grace = .ended) a (a.raise v new) := by
  have hlifted : Actors.Brought v new (a.CutsAtStart v) (a.seq.grace = .ended) a (a.lifted v new) :=
    ((Actors.brought_bringUp (a.setStage v new) v new).of_same (a := a) rfl rfl).keep (.of_drv (.refl _) rfl)
      (.of_drv (.refl _) rfl id)
  by_cases hphase : a.coord.phase = .energizing
  · rw [Actors.raise_of_energizing hphase]
    exact hlifted.abort id (a.lifted_stage v new)
  · rw [Actors.raise_eq]
    rcases Actors.onRise_cases (a := a.lifted v new) (new := new) (v := v) (by rwa [Actors.lifted_coord]) with h | ⟨h, -⟩
    · rw [h]
      exact hlifted.keep (Actors.enterQuietWait_zone _ v).1 (Actors.enterQuietWait_zone _ v).2
    · rw [h]
      exact hlifted

/-! ### The grade-7 cut and the forming of T -/

/-- The grade-7 condition (R106) as T is formed. -/
abbrev GradeCuts (v : View) (t : Stage) : Prop :=
  (v.assessor.detector = .event ∨ v.assessor.detector = .settling) ∧ v.assessor.event.grade = 7 ∧ 3 ≤ t.code

theorem Actors.grade7_iff : a.grade7 v = true ↔ GradeCuts v a.seq.target := by
  unfold Actors.grade7 GradeCuts Assessor.grade
  cases v.assessor.detector <;> simp [Detector.inEvent]

theorem Actors.cutByGrade_of (h : GradeCuts v a.seq.target) : a.cutByGrade v = a.endGrace v :=
  if_pos (Actors.grade7_iff.2 h)

theorem Actors.cutByGrade_of_not (h : ¬ GradeCuts v a.seq.target) : a.cutByGrade v = a :=
  if_neg (mt Actors.grade7_iff.1 h)

theorem Actors.cutsAtStart_iff : a.CutsAtStart v ↔ v.scanner.active 5 = true ∨ GradeCuts v a.seq.target := by
  unfold Actors.CutsAtStart
  rw [Actors.grade7_iff]

/-- The zone brought up by a raise, the grade-7 cut tested after it. -/
theorem Actors.Brought.cutByGrade (h : Actors.Brought v stage cutFresh cutOld a b) (hended : a.seq.grace = .ended → cutOld) :
    Actors.Brought v stage (cutFresh ∨ GradeCuts v b.seq.target) (cutOld ∨ GradeCuts v b.seq.target) a
      (b.cutByGrade v) := by
  by_cases hgrade : GradeCuts v b.seq.target
  · rw [Actors.cutByGrade_of hgrade]
    exact (h.endGrace hended).congr (fun _ => ⟨fun _ => .inr hgrade, fun _ => trivial⟩) fun _ => ⟨fun _ => .inr hgrade, fun _ => trivial⟩
  · rw [Actors.cutByGrade_of_not hgrade]
    exact h.congr (fun _ => ⟨.inl, fun h => h.resolve_right hgrade⟩) fun _ => ⟨.inl, fun h => h.resolve_right hgrade⟩

/-- The zone as T is formed: brought up to the stage, a fresh grace cut by input 5 or the grade-7 condition, one that stood
by the latter (R101 to R106). -/
def Actors.Formed (v : View) (stage t : Stage) (a b : Actors) : Prop :=
  Actors.Brought v stage (v.scanner.active 5 = true ∨ GradeCuts v t) (a.seq.grace = .ended ∨ GradeCuts v t) a b

/-- T just formed, as it stands held. -/
def Actors.aimed (a : Actors) (v : View) : Actors := a.withSeq { a.seq with target := target v }

theorem Actors.formTarget_aimed (a : Actors) (v : View) (h : a.seq.rejoinHold = false) :
    a.formTarget v = (((a.aimed v).compare v).cutByGrade v).onTarget v := a.formTarget_eq v h

theorem Actors.compare_target (a : Actors) (v : View) : (a.compare v).seq.target = a.seq.target := (a.reach_compare v).target

/-- A forming of T that raises the stage, whatever the phase. -/
theorem Actors.formed_of_raise (hhold : a.seq.rejoinHold = false)
    (hlt : a.seq.stage.code < ((target v).higher a.seq.floor).code) :
    Actors.Formed v ((target v).higher a.seq.floor) (target v) a (((a.aimed v).compare v).cutByGrade v)
      ∧ (((a.aimed v).compare v).cutByGrade v).coord = ((a.aimed v).raise v ((target v).higher a.seq.floor)).coord
      ∧ (a.aimed v).compare v = (a.aimed v).raise v ((target v).higher a.seq.floor) := by
  have hraise : (a.aimed v).compare v = (a.aimed v).raise v ((target v).higher a.seq.floor) := by
    rcases (a.aimed v).compare_cases v hhold with ⟨-, h⟩ | ⟨hle, -⟩
    · exact h
    · exact absurd hlt (Nat.not_lt.2 hle)
  refine ⟨?_, by rw [(Actors.asks_cutByGrade _ v).coord, hraise], hraise⟩
  have hcut := (((a.aimed v).brought_raise v ((target v).higher a.seq.floor)).cutByGrade id).of_same (a := a) rfl rfl
  rw [← hraise, Actors.compare_target] at hcut
  refine hcut.congr (fun _ => ?_) fun _ => .rfl
  rw [Actors.cutsAtStart_iff, or_assoc]
  exact or_congr_right (or_self_iff)

/-! ### The five claims on a raised zone -/

/-- What stands asked for after a raise, outcome by outcome. -/
theorem Actors.Brought.claims [Decidable cutFresh] [Decidable cutOld] (h : Actors.Brought v stage cutFresh cutOld a b)
    (hone : 1 ≤ stage.code) (hstage : b.seq.stage = stage) (hq : a.drv.TripsQueued) :
    (∀ id ∈ [LevelId.advise, .lift], (b.drv.level id).state = .asserted)
      ∧ (2 ≤ b.seq.stage.code → ∀ id ∈ levelIds, (b.drv.level id).state = .asserted)
      ∧ (3 ≤ b.seq.stage.code → a.seq.grace = .none →
        if cutFresh then
          b.seq.grace = .ended ∧ b.drv.tripA.state ≠ .ready ∧ b.drv.tripB.state ≠ .ready
        else b.seq.grace = .running (later v.now v.profile.grace)
          ∧ (∀ p ∈ [Pdu.a, .b], (a.drv.pulse (.trip p)).state ≠ .queued →
            b.drv.pulse (.trip p) = a.drv.pulse (.trip p))
          ∧ (b.seq.stage = .safe → a.drv.tripA.state = .ready ∨ a.drv.tripB.state = .ready →
            a.drv.valve.asserted = false ∨ a.drv.coolstop.asserted = false → b.seq.safeWait = true))
      ∧ (3 ≤ b.seq.stage.code → a.seq.grace ≠ .none →
        if cutOld then
          b.seq.grace = .ended ∧ b.drv.tripA.state ≠ .ready ∧ b.drv.tripB.state ≠ .ready
        else b.seq.grace = a.seq.grace)
      ∧ (b.seq.stage = .safe →
        b.seq.safeWait = true ∨ (b.drv.valve.asserted = true ∧ b.drv.coolstop.asserted = true)) := by
  rw [hstage]
  refine ⟨h.low hone, h.all, fun hs hg => ?_, fun hs hg => ?_, h.safe⟩
  · split
    · next hc =>
      obtain ⟨hended, hasked⟩ := h.cut hs (.inl ⟨hg, hc⟩)
      exact ⟨hended, hasked .a, hasked .b⟩
    · next hc =>
      refine ⟨h.starts hs hg hc, fun p _ => (h.trips hs hg hc hq).2 p, fun hsafe hready hhold => ?_⟩
      have hnot : ¬ (a.drv.valve.asserted = true ∧ a.drv.coolstop.asserted = true) := fun ⟨hv, hcool⟩ => by
        rcases hhold with hh | hh
        · rw [hh] at hv; cases hv
        · rw [hh] at hcool; cases hcool
      rcases hready with hp | hp
      · exact h.waits hsafe hg hc hq hnot .a hp
      · exact h.waits hsafe hg hc hq hnot .b hp
  · split
    · next hc =>
      obtain ⟨hended, hasked⟩ := h.cut hs (.inr ⟨hg, hc⟩)
      exact ⟨hended, hasked .a, hasked .b⟩
    · next hc => exact h.old hs hg hc

/-! ### An abort (R172) -/

/-- The turn given up in QUIET_WAIT: what the coordinator keeps, and what is asked of the line. -/
structure Actors.GivesUp (v : View) (a b : Actors) : Prop where
  coord : b.coord = { a.coord with
    phase := .quietWait, step := .none, holdPending := false, claimOutstanding := false, stagger := none
    quietStart := if v.assessor.detector = .calm then some v.now else none }
  claim : b.line.restartAsked .claim = false
  yield : b.line.restartAsked .yield = true ∨ a.line.restartAsked .claim = true
  due : b.line.urgentDue = true
  line : b.line.Sound

theorem Actors.GivesUp.next (h : a.GivesUp v b) (hcoord : c.coord = b.coord) (hline : b.line.Noticed v.now c.line) :
    a.GivesUp v c where
  coord := hcoord.trans h.coord
  claim := by rw [hline.restartAsked h.line]; exact h.claim
  yield := by rw [hline.restartAsked h.line]; exact h.yield
  due := hline.served.urgentDue h.line h.due
  line := hline.served.sound h.line

theorem Actors.GivesUp.since (h : e.GivesUp v b) (hl : a.line.Sound) (hcoord : e.coord = a.coord)
    (hline : a.line.Noticed v.now e.line) : a.GivesUp v b where
  coord := by rw [h.coord, hcoord]
  claim := h.claim
  yield := by rw [← hline.restartAsked hl]; exact h.yield
  due := h.due
  line := h.line

theorem Actors.abort_givesUp (hl : a.line.Sound) (hcoord : a.coord.Sound) (hphase : a.coord.phase = .energizing) :
    a.GivesUp v (a.abort v) := by
  obtain ⟨-, -, hpending, hwindow, hcontest, -, hclaim, -⟩ := hcoord
  have hp : a.coord.claimPending = false := Bool.eq_false_iff.2 fun h => by simp [hphase] at hpending; simp [hpending] at h
  have hw : a.coord.bidWindow = none := Option.eq_none_iff_forall_ne_some.2 fun x h => by simp [h, hphase] at hwindow
  have hc : a.coord.contest = none := Option.eq_none_iff_forall_ne_some.2 fun x h => by simp [h, hphase] at hcontest
  obtain ⟨hclaim, hyield⟩ := a.setPhase_yields v (phase := .quietWait) hl (by rw [hphase]; rfl) rfl
    (hclaim (.inr hphase))
  have hquiet : a.GivesUp v (a.enterQuietWait v) := by
    refine ⟨?_, hclaim, hyield, Actors.setPhase_urgentDue v hl (by rw [hphase]; exact nofun),
      (a.reach_setPhase v .quietWait (by decide)).line.sound hl⟩
    have hmoved : (a.setPhase v .quietWait).coord = _ := (a.setPhase_coord v .quietWait).trans
      (Coordinator.moved_of_turn (by rw [hphase]; rfl) rfl)
    show ({ (a.setPhase v .quietWait).coord with
      quietStart := if v.assessor.detector = .calm then some v.now else none } : Coordinator) = _
    rw [hmoved, if_pos hphase, if_pos hphase]
    dsimp only
    rw [hp, hw, hc]
  exact hquiet.next ((a.enterQuietWait v).asks_bringUp v _).coord ((a.enterQuietWait v).noticed_bringUp v _)

end

end Sys2Proof.Machine
end


section
/-! PROOFS. SOLO_DELAY_EXPIRY: what a forming of T makes of stage, zone and turn. -/

namespace Sys2Proof.Machine

section
variable {a b : Actors} {v : View}

/-! ### A forming of T outside ENERGIZING -/

/-- The highest of stage, T and floor, the stage a forming of T leaves. -/
def Actors.aim (a : Actors) (v : View) : Stage := a.seq.stage.higher ((target v).higher a.seq.floor)

/-- A forming that calls for no raise. -/
def Actors.Meets (a : Actors) (v : View) : Prop := ((target v).higher a.seq.floor).code ≤ a.seq.stage.code

theorem Actors.meets_of (htarget : (target v).code ≤ a.seq.stage.code) (hfloor : a.seq.floor.code ≤ a.seq.stage.code) :
    a.Meets v := by
  unfold Actors.Meets
  rw [Stage.code_higher]
  exact max_le htarget hfloor

theorem Actors.compare_of_meets (h : a.Meets v) : (a.aimed v).compare v = a.aimed v := Actors.compare_of_le _ v h

theorem Actors.abort_stage (a : Actors) (v : View) : (a.abort v).seq.stage = a.seq.stage := by
  have h : (a.abort v).seq.stage = (a.enterQuietWait v).seq.stage := by
    show ((a.enterQuietWait v).bringUp v (a.enterQuietWait v).seq.stage).seq.stage = _
    rw [(Actors.asks_bringUp _ v _).seq]
  rw [h, Actors.enterQuietWait_stage]

theorem Actors.raise_stage_always (a : Actors) (v : View) (new : Stage) : (a.raise v new).seq.stage = new := by
  by_cases hphase : a.coord.phase = .energizing
  · rw [Actors.raise_of_energizing hphase, Actors.abort_stage, Actors.lifted_stage]
  · exact a.raise_stage v new hphase

/-- A comparison outside the hold leaves the greater of stage and demand, whatever the phase. -/
theorem Actors.compare_stage (a : Actors) (v : View) (hhold : a.seq.rejoinHold = false) :
    (a.compare v).seq.stage = a.seq.stage.higher a.seq.demand := by
  rcases a.compare_cases v hhold with ⟨hlt, h⟩ | ⟨hle, h⟩
  · rw [h, Actors.raise_stage_always, Stage.higher_of_lt hlt]
  · rw [h, Stage.higher_of_le hle]

/-- Outside ENERGIZING the coordinator leaves T alone, and the cut is the last of the forming. -/
theorem Actors.formTarget_outside (hq : a.Quiescent) (hhold : a.seq.rejoinHold = false) :
    a.formTarget v = ((a.aimed v).compare v).cutByGrade v ∧ (a.formTarget v).seq.stage = a.aim v
      ∧ (a.formTarget v).Quiescent := by
  have hphase : (((a.aimed v).compare v).cutByGrade v).coord.phase ≠ .energizing := by
    rw [(Actors.asks_cutByGrade _ v).coord]
    exact (((a.aimed v).reach_compare v).grows hq).1.1
  have hform : a.formTarget v = ((a.aimed v).compare v).cutByGrade v := by
    rw [a.formTarget_aimed v hhold, Actors.onTarget_of_phase hphase]
  refine ⟨hform, ?_, ((a.reach_formTarget v).grows hq).1⟩
  rw [hform, (Actors.asks_cutByGrade _ v).seq]
  exact (a.aimed v).compare_stage v hhold

/-- Outside ENERGIZING the comparison takes nothing back, and asks for no trip where a grace has begun and its trips, if it has
ended, have been asked for. -/
theorem Actors.compare_again (hne : a.coord.phase ≠ .energizing) (hnone : a.seq.grace ≠ .none)
    (hasked : a.seq.grace = .ended → a.TripsAsked) :
    a.Onward (a.compare v) ∧ a.Unasked (a.compare v) := by
  have hraise : ∀ new, a.Onward (a.raise v new) ∧ a.Unasked (a.raise v new) := by
    intro new
    obtain ⟨hon, hun⟩ := Actors.bringUp_again (a := a.setStage v new) v new (fun _ => hnone) fun _ hended => hasked hended
    have hset : a.Onward (a.setStage v new) ∧ a.Unasked (a.setStage v new) := ⟨.of_drv (.refl _) rfl, .of_drv (.refl _) rfl id⟩
    have hlift : a.Onward (a.lifted v new) ∧ a.Unasked (a.lifted v new) :=
      ⟨(hset.1.trans hon).trans (.of_drv (.refl _) rfl), (hset.2.trans hun).trans (.of_drv (.refl _) rfl id)⟩
    rw [Actors.raise_eq]
    rcases Actors.onRise_cases (a := a.lifted v new) (new := new) (v := v) (by rwa [Actors.lifted_coord]) with h | ⟨h, -⟩
    · rw [h]
      exact ⟨hlift.1.trans (Actors.enterQuietWait_zone _ v).1, hlift.2.trans (Actors.enterQuietWait_zone _ v).2⟩
    · rw [h]
      exact hlift
  unfold Actors.compare
  split
  · exact ⟨.refl a, .refl a⟩
  · split
    · exact hraise _
    · exact ⟨.refl a, .refl a⟩

/-- A running grace outlives the comparison. -/
theorem Actors.compare_running {expiry : Stamp} (hne : a.coord.phase ≠ .energizing) (hgrace : a.seq.grace = .running expiry) :
    a.Onward (a.compare v) ∧ a.Unasked (a.compare v) :=
  Actors.compare_again hne (by rw [hgrace]; exact nofun) fun hended => nomatch hgrace.symm.trans hended

/-- A running grace at a forming of T outside ENERGIZING: the grade-7 condition ends it (R106). -/
theorem Actors.formTarget_running {expiry : Stamp} (hq : a.Quiescent) (hhold : a.seq.rejoinHold = false)
    (hgrace : a.seq.grace = .running expiry) :
    (GradeCuts v (target v) → (a.formTarget v).seq.grace = .ended ∧ (a.formTarget v).TripsAsked)
      ∧ (¬ GradeCuts v (target v) → (a.formTarget v).seq.grace = .running expiry) := by
  have hgraceb : ((a.aimed v).compare v).seq.grace = .running expiry :=
    (Actors.compare_running (a := a.aimed v) hq.1 hgrace).2.grace.trans hgrace
  have htarget : ((a.aimed v).compare v).seq.target = target v := (a.aimed v).compare_target v
  rw [(Actors.formTarget_outside hq hhold).1]
  refine ⟨fun h => ?_, fun h => ?_⟩
  · rw [Actors.cutByGrade_of (by rwa [htarget])]
    exact Actors.endGrace_of_running hgraceb
  · rw [Actors.cutByGrade_of_not (by rwa [htarget])]
    exact hgraceb

/-- A forming of T without a raise, where neither the grade-7 condition nor the coordinator acts on it. -/
theorem Actors.formTarget_stands (hhold : a.seq.rejoinHold = false) (hmeets : a.Meets v) (hgrade : ¬ GradeCuts v (target v))
    (hon : (a.aimed v).onTarget v = a.aimed v) : a.formTarget v = a.aimed v := by
  rw [a.formTarget_aimed v hhold, Actors.compare_of_meets hmeets, Actors.cutByGrade_of_not hgrade, hon]

/-! ### A forming of T in ENERGIZING -/

/-- An abort without a raise: the zone is brought up to the stage it holds, after the grade-7 cut (R113, R172). -/
theorem Actors.formed_of_abort :
    Actors.Formed v a.seq.stage (target v) a (((a.aimed v).cutByGrade v).abort v) := by
  set c := (a.aimed v).cutByGrade v with hc
  have hstage : c.seq.stage = a.seq.stage := by rw [hc, (Actors.asks_cutByGrade _ v).seq]; rfl
  have htarget : c.seq.target = target v := by rw [hc, (Actors.asks_cutByGrade _ v).seq]; rfl
  obtain ⟨hwgrace, hwtarget, hwstage⟩ := c.enterQuietWait_seq v
  have hbrought := Actors.brought_bringUp (c.enterQuietWait v) v (c.enterQuietWait v).seq.stage
  have habort : c.abort v = (c.enterQuietWait v).bringUp v (c.enterQuietWait v).seq.stage := rfl
  rw [← habort, hwstage, hstage] at hbrought
  have huncut : (∀ e, a.seq.grace ≠ .running e) ∨ ¬ GradeCuts v (target v) → c = a.aimed v := by
    rintro (h | h)
    · unfold Actors.cutByGrade at hc
      rw [hc, Actors.endGrace_of_not v (a := a.aimed v) h, ite_self]
    · exact Actors.cutByGrade_of_not h
  refine hbrought.since (fun hg => ?_) (fun hg hold => ?_) fun hg hold => ?_
  · have hsame := huncut (.inl fun e he => nomatch hg.symm.trans he)
    refine ⟨hwgrace.trans (by rw [hsame]; exact hg), ?_, ?_⟩
    · rw [Actors.cutsAtStart_iff, hwtarget, htarget]
    · rw [hsame]
      have hwait := (a.aimed v).untouched_enterQuietWait v
      exact ⟨hwait.drv, hwait.valve, hwait.coolstop⟩
  · have hended : c.seq.grace = .ended := by
      cases hag : a.seq.grace with
      | none => exact absurd hag hg
      | ended =>
        rw [huncut (.inl fun e he => nomatch hag.symm.trans he)]
        exact hag
      | running e =>
        rw [hc, Actors.cutByGrade_of (a := a.aimed v) (hold.resolve_left fun h => nomatch hag.symm.trans h)]
        exact (Actors.endGrace_of_running (a := a.aimed v) hag).1
    rw [hwgrace, hended]
    exact ⟨nofun, rfl⟩
  · rw [not_or] at hold
    have hsame := huncut (.inr hold.2)
    rw [hwgrace, hsame]
    exact ⟨rfl, hold.1⟩

/-- A T of 2 or more in ENERGIZING aborts the turn, raise or not (R172). -/
theorem Actors.formTarget_aborts (hl : a.line.Sound) (hcoord : a.coord.Sound) (hphase : a.coord.phase = .energizing)
    (hhold : a.seq.rejoinHold = false) (htarget : 2 ≤ (target v).code) :
    Actors.Formed v (a.aim v) (target v) a (a.formTarget v) ∧ (a.formTarget v).seq.stage = a.aim v
      ∧ a.GivesUp v (a.formTarget v) := by
  rw [a.formTarget_aimed v hhold]
  by_cases hlt : a.seq.stage.code < ((target v).higher a.seq.floor).code
  · obtain ⟨hformed, hcut, hraise⟩ := Actors.formed_of_raise (v := v) hhold hlt
    have haim : a.aim v = (target v).higher a.seq.floor := Stage.higher_of_lt hlt
    have hlifted := (a.aimed v).lifted_noticed v ((target v).higher a.seq.floor)
    have hlcoord := (a.aimed v).lifted_coord v ((target v).higher a.seq.floor)
    have habort := (a.aimed v).raise_of_energizing (v := v) hphase ((target v).higher a.seq.floor)
    have hup : a.GivesUp v ((a.aimed v).compare v) := by
      rw [hraise, habort]
      exact (Actors.abort_givesUp (hlifted.served.sound hl) (by rw [hlcoord]; exact hcoord)
        (by rw [hlcoord]; exact hphase)).since hl hlcoord hlifted
    have hcutup := hup.next (Actors.asks_cutByGrade _ v).coord (Actors.noticed_cutByGrade _ v)
    rw [Actors.onTarget_of_phase (by rw [hcutup.coord]; exact nofun), haim]
    refine ⟨hformed, ?_, hcutup⟩
    rw [(Actors.asks_cutByGrade _ v).seq, hraise, habort]
    exact (Actors.abort_stage _ v).trans (Actors.lifted_stage _ v _)
  · have hle := Nat.not_lt.1 hlt
    have haim : a.aim v = a.seq.stage := Stage.higher_of_le hle
    rw [Actors.compare_of_meets hle]
    have hnoticed := (a.aimed v).noticed_cutByGrade v
    have hask := (a.aimed v).asks_cutByGrade v
    have htargetc : ((a.aimed v).cutByGrade v).seq.target = target v := by rw [hask.seq]; rfl
    have hcphase : ((a.aimed v).cutByGrade v).coord.phase = .energizing := by rw [hask.coord]; exact hphase
    have hon : ((a.aimed v).cutByGrade v).onTarget v = ((a.aimed v).cutByGrade v).abort v := by
      unfold Actors.onTarget
      rw [if_pos hcphase, htargetc, if_pos htarget]
    rw [hon, haim]
    refine ⟨Actors.formed_of_abort, ?_, ?_⟩
    · rw [Actors.abort_stage, hask.seq]
      rfl
    · exact (Actors.abort_givesUp (hnoticed.served.sound hl) (by rw [hask.coord]; exact hcoord) hcphase).since hl
        hask.coord hnoticed

/-- In ENERGIZING the coordinator leaves a T below 2 alone, but for a postponed step D at T = 0. -/
theorem Actors.onTarget_low (hlow : a.seq.target = .alert ∨ (a.seq.target = .watch ∧ a.coord.step ≠ .postponed)) :
    a.onTarget v = a := by
  unfold Actors.onTarget
  split
  · rcases hlow with h | ⟨h, hstep⟩
    · simp [h, Stage.code]
    · simp [h, hstep, Stage.code]
  · rfl

/-- The postponed step D runs at T = 0 (R171). -/
theorem Actors.formTarget_runs (hphase : a.coord.phase = .energizing) (hhold : a.seq.rejoinHold = false)
    (hstep : a.coord.step = .postponed) (htarget : target v = .watch) (hmeets : a.Meets v) :
    a.formTarget v = (a.aimed v).runD v := by
  have hgrade : ¬ GradeCuts v (target v) := fun h => by rw [htarget] at h; exact absurd h.2.2 (by decide)
  rw [a.formTarget_aimed v hhold, Actors.compare_of_meets hmeets, Actors.cutByGrade_of_not hgrade]
  unfold Actors.onTarget
  rw [if_pos (show (a.aimed v).coord.phase = .energizing from hphase)]
  show (if 2 ≤ (target v).code then (a.aimed v).abort v
    else if (decide (target v = .watch) && decide (a.coord.step = .postponed)) = true then (a.aimed v).runD v else a.aimed v) = _
  rw [htarget, hstep]
  rfl

/-! ### A refused step D (R127, R173) -/

theorem Driver.released_refused {d : Driver} (h : d.assertedAbove .alert = true) :
    d.releaseLevel .advise = (d, false) ∧ d.releaseLevel .lift = (d, false) := ⟨if_pos h, if_pos h⟩

/-- A refused release of step D stops the energizing, the LEVEL channels and the stage kept. -/
theorem Actors.runD_refused (horder : a.drv.assertedAbove .alert = true) :
    a.runD v = a.stop v := by
  obtain ⟨hadvise, hlift⟩ := Driver.released_refused horder
  have hboth : a.drv.bothReleased .advise .lift = false := by
    unfold Driver.bothReleased
    rw [hadvise, hlift]
    rfl
  have hsame : a.released .advise .lift = a := by
    unfold Actors.released
    rw [hadvise, hlift]
    rfl
  rw [Actors.runD_eq, hboth, hsame]
  rfl

theorem Actors.stop_kept (hl : a.line.Sound) (hphase : a.coord.phase = .energizing) :
    (a.stop v).seq = { a.seq with standDown := none } ∧ (a.stop v).line.urgentDue = true := by
  obtain ⟨-, hseq, hdue, -⟩ := (a.leaveTaken v).awaitPermit_of_energizing v hl hphase
  exact ⟨hseq, hdue⟩

end

end Sys2Proof.Machine
end


section
/-! PROOFS. The solo delay's expiry, whole. -/

namespace Sys2Proof.Machine

section
variable {s : State}

/-- T formed as one event. -/
def State.formsTarget (s : State) : State := s.withAct (s.act.formTarget s.view)

theorem exec_soloDelay {e : Stamp} (hsolo : s.act.seq.solo = some e) (hreached : reached s.clock e = true) :
    exec .soloDelayExpiry s = .next (s.formsTarget.endEvent s) := by
  refine congrArg Host.Outcome.next ?_
  rw [show expired s.clock s.act.seq.solo = true by rw [hsolo]; exact hreached]
  rfl

theorem exec_soloDelay_aimed {e : Stamp} (hsolo : s.act.seq.solo = some e) (hreached : reached s.clock e = true)
    (hform : s.act.formTarget s.view = s.act.aimed s.view) :
    exec .soloDelayExpiry s =
      .next ({ s with act := { s.act with seq := { s.act.seq with target := target s.view } } }) := by
  rw [exec_soloDelay hsolo hreached]
  unfold State.formsTarget
  rw [hform]
  exact congrArg Host.Outcome.next (State.endEvent_of_calm (s.withAct (s.act.aimed s.view)) s rfl rfl)

theorem Coordinator.Sound.quiescent {a : Actors} (h : a.coord.Sound) (hphase : a.coord.phase ≠ .energizing) : a.Quiescent :=
  ⟨hphase, Decidable.not_not.1 (mt h.1 hphase)⟩

/-- What the end of the event leaves of a forming: all but SAFE wait, driver and step. -/
theorem State.formsTarget_end (s : State) :
    s.formsTarget.endEvent s = { s with act := (s.formsTarget.endEvent s).act }
      ∧ (s.formsTarget.endEvent s).act.seq.target = target s.view
      ∧ (s.formsTarget.endEvent s).act.seq.floor = s.act.seq.floor
      ∧ (s.formsTarget.endEvent s).act.seq.stage = (s.act.formTarget s.view).seq.stage
      ∧ (s.formsTarget.endEvent s).act.line = (s.act.formTarget s.view).line := by
  have hreach := s.act.reach_formTarget s.view
  have hend := s.formsTarget.stepOnly_endEvent s
  refine ⟨State.endEvent_eq s.formsTarget s, ?_, ?_, ?_, hend.line⟩
  · rw [hend.seq]
    exact s.act.formTarget_target s.view
  · rw [hend.seq]
    exact (s.act.reach_formTarget s.view).floor
  · rw [hend.seq]
    rfl

/-- The end of the event keeps the zone a forming brought up, outside ENERGIZING. -/
theorem State.formed_end {stage : Stage} (hphase : (s.act.formTarget s.view).coord.phase ≠ .energizing)
    (h : Actors.Formed s.view stage (target s.view) s.act (s.act.formTarget s.view)) :
    Actors.Formed s.view stage (target s.view) s.act (s.formsTarget.endEvent s).act := by
  obtain ⟨hon, hun⟩ := s.formsTarget.endEvent_zone s hphase
  exact h.keep hon hun

/-- A sound state with a postponed step D, and a T of 0 that calls for no raise: step D runs at ALERT. -/
theorem State.Sound.postponed (h : s.Sound) (hstep : s.act.coord.step = .postponed) (htarget : target s.view = .watch)
    (hfloor : s.act.seq.floor.code ≤ 1) :
    s.act.coord.phase = .energizing ∧ s.AtStep .alert ∧ s.act.formTarget s.view = (s.act.aimed s.view).runD s.view := by
  obtain ⟨-, -, -, -, -, -, -, -, -, -, ⟨hwhere, -⟩, ⟨hhold, -⟩, -⟩ := id h
  have hphase : s.act.coord.phase = .energizing := hwhere (by rw [hstep]; exact nofun)
  have hat := h.atStep hphase (stage := .alert) (by rw [hstep]; rfl) nofun
  have hrunning : s.act.seq.rejoinHold = false := Bool.eq_false_iff.2 fun hh => nomatch hphase.symm.trans (hhold.1 hh)
  have hmeets : s.act.Meets s.view :=
    Actors.meets_of (by rw [htarget]; exact Nat.zero_le _) (by rw [hat.atStage]; exact hfloor)
  exact ⟨hphase, hat, Actors.formTarget_runs hphase hrunning hstep htarget hmeets⟩

theorem Driver.leaveEnergizing_of_empty {d : Driver} (now : Stamp) (h : d.pulseQueue = []) :
    (d.leaveEnergizing now).1.pulseQueue = [] := by
  rw [Driver.leaveEnergizing_fst]
  exact List.sublist_nil.1 (h ▸ (Driver.queue_stopClose _ now .b).trans (Driver.queue_stopClose d now .a))

theorem Coordinator.turn_ended {c : Coordinator} (hstagger : c.stagger = none) (hquiet : c.quietStart = none)
    (withheld : Bool) :
    ({ c with
      permit := false, keyWithheld := withheld, claimOutstanding := false
      step := .none, holdPending := false, phase := .none, quietStart := none, stagger := none } : Coordinator)
      = { c with
        phase := .none, step := .none, permit := false, claimOutstanding := false, holdPending := false
        keyWithheld := withheld } := by
  cases c
  cases hstagger
  cases hquiet
  rfl

theorem Coordinator.turn_stopped {c : Coordinator} (hstagger : c.stagger = none) (hquiet : c.quietStart = none)
    (hpending : c.claimPending = false) (hwindow : c.bidWindow = none) (hcontest : c.contest = none) (withheld : Bool) :
    ({ c with
      phase := .awaitPermit, permit := false, keyWithheld := withheld
      quietStart := none, stagger := none, claimOutstanding := false, claimPending := false, bidWindow := none
      contest := none, step := .none, holdPending := false } : Coordinator)
      = { c with
        phase := .awaitPermit, step := .none, permit := false, claimOutstanding := false, holdPending := false
        keyWithheld := withheld } := by
  cases c
  cases hstagger
  cases hquiet
  cases hpending
  cases hwindow
  cases hcontest
  rfl

end

/-- Settles O34: under the hold, without and with a raise outside ENERGIZING, an abort, a T that lets the turn go on, and
the postponed step D, run or refused. -/
theorem soloDelayExpiryFormsTheTarget : Obligations.SoloDelayExpiryFormsTheTarget := by
  refine ⟨fun s e hsolo hreached hhold => ?_, fun s e hcoord hsolo hreached hhold hphase => ?_,
    fun s e hsolo hreached hhold hphase htarget hfloor hgrade => ?_, fun s hnot => ?_,
    fun s e hcoord hpulse hsolo hreached hhold hphase hlt => ?_,
    fun s e expiry hcoord hpulse hsolo hreached hhold hphase hgrace => ?_,
    fun s e hl hcoord hpulse hsolo hreached hhold hphase htarget => ?_,
    fun s e hsolo hreached hhold hphase hlow htarget hfloor => ?_,
    fun s e sound hsolo hreached hstep htarget hfloor horder hqueue => ?_,
    fun s e sound hsolo hreached hstep htarget hfloor horder => ?_⟩
  · exact exec_soloDelay_aimed hsolo hreached (s.act.formTarget_of_hold s.view hhold)
  · obtain ⟨-, hstage, -⟩ := Actors.formTarget_outside (v := s.view) (Coordinator.Sound.quiescent hcoord hphase) hhold
    obtain ⟨heq, htarget, hfloor, hstageEnd, -⟩ := s.formsTarget_end
    exact ⟨_, exec_soloDelay hsolo hreached, heq, htarget, hfloor, hstageEnd.trans hstage⟩
  · refine exec_soloDelay_aimed hsolo hreached (Actors.formTarget_stands hhold (Actors.meets_of htarget hfloor) ?_
      (Actors.onTarget_of_phase hphase))
    rintro ⟨hin, hseven, -⟩
    refine hgrade ?_
    unfold Assessor.grade
    rcases hin with hd | hd
    · rw [show s.assessor.detector = .event from hd]
      exact congrArg some hseven
    · rw [show s.assessor.detector = .settling from hd]
      exact congrArg some hseven
  · refine congrArg Host.Outcome.next (State.eventWhen_of_not _ _ ?_)
    cases hsolo : s.act.seq.solo with
    | none => rfl
    | some e => exact hnot e hsolo
  · have hq := Coordinator.Sound.quiescent hcoord hphase
    have hup : s.act.seq.stage.code < ((target s.view).higher s.act.seq.floor).code := by
      rw [Stage.code_higher]
      exact lt_of_lt_of_le hlt (le_max_left _ _)
    obtain ⟨hform, hstage, hnext⟩ := Actors.formTarget_outside (v := s.view) hq hhold
    obtain ⟨-, -, -, hstageEnd, -⟩ := s.formsTarget_end
    have hformed := (Actors.formed_of_raise (v := s.view) hhold hup).1
    rw [← hform] at hformed
    have haim : s.act.aim s.view = (target s.view).higher s.act.seq.floor := Stage.higher_of_lt hup
    refine ⟨_, exec_soloDelay hsolo hreached, ?_⟩
    exact (State.formed_end hnext.1 hformed).claims (by omega) (hstageEnd.trans (hstage.trans haim))
      (Driver.tripsQueued hpulse)
  · have hq := Coordinator.Sound.quiescent hcoord hphase
    obtain ⟨-, -, hnext⟩ := Actors.formTarget_outside (v := s.view) hq hhold
    obtain ⟨hcut, hkept⟩ := Actors.formTarget_running (v := s.view) hq hhold hgrace
    obtain ⟨hon, hun⟩ := s.formsTarget.endEvent_zone s hnext.1
    refine ⟨_, exec_soloDelay hsolo hreached, ?_⟩
    split
    · next h =>
      obtain ⟨hended, hasked⟩ := hcut h
      exact ⟨hun.grace.trans hended, hon.tripsAsked hasked .a, hon.tripsAsked hasked .b⟩
    · next h => exact hun.grace.trans (hkept h)
  · obtain ⟨hformed, hstage, hup⟩ := Actors.formTarget_aborts (v := s.view) hl hcoord hphase hhold htarget
    have hnext : (s.act.formTarget s.view).coord.phase ≠ .energizing := by rw [hup.coord]; exact nofun
    obtain ⟨heq, htargetEnd, hfloor, hstageEnd, hline⟩ := s.formsTarget_end
    have hend := s.formsTarget.stepOnly_endEvent s
    have hcoordEnd : (s.formsTarget.endEvent s).act.coord = (s.act.formTarget s.view).coord := by
      rw [hend.coord, hend.step (show (s.act.formTarget s.view).coord.step = .none by rw [hup.coord])]
      show ({ (s.act.formTarget s.view).coord with step := .none } : Coordinator) = _
      rw [hup.coord]
    have hclose : (s.formsTarget.endEvent s).act.CloseSound := by
      have hformClose : s.formsTarget.act.CloseSound :=
        (s.act.reach_formTarget s.view).close fun hne => absurd hphase hne
      unfold State.endEvent
      split
      · exact (Actors.reach_serve s.formsTarget.act s.formsTarget.view).close hformClose
      · exact hformClose
    obtain ⟨hcloseA, hcloseB⟩ := hclose (by rw [hcoordEnd]; exact hnext)
    refine ⟨_, exec_soloDelay hsolo hreached, heq, htargetEnd, hfloor, hstageEnd.trans hstage,
      hcoordEnd.trans hup.coord, ?_, ?_, ?_, hcloseA, hcloseB, ?_⟩
    · rw [hline]
      exact hup.claim
    · rw [hline]
      exact hup.yield
    · rw [hline]
      exact hup.due
    · refine (State.formed_end hnext hformed).claims ?_ (hstageEnd.trans hstage) (Driver.tripsQueued hpulse)
      have hreached : (target s.view).code ≤ (s.act.aim s.view).code := (Stage.code_demand _ _ _).2.1
      omega
  · refine exec_soloDelay_aimed hsolo hreached (Actors.formTarget_stands hhold (Actors.meets_of htarget hfloor) ?_
      (Actors.onTarget_low hlow))
    rintro ⟨-, -, hhigh⟩
    rcases hlow with h | ⟨h, -⟩
    · rw [h] at hhigh; exact absurd hhigh (by decide)
    · rw [h] at hhigh; exact absurd hhigh (by decide)
  · obtain ⟨hphase, hat, hform⟩ := sound.postponed hstep htarget (by rw [hfloor]; decide)
    obtain ⟨hcoord, hseq, hdrv, hdue, hasked⟩ := (s.act.aimed s.view).runD_spec s.view hat.line hphase hat.atStage htarget hfloor
      hat.safeWait (hat.grace (by decide)) horder
    rw [← hform] at hcoord hseq hdrv hdue hasked
    have hempty : s.formsTarget.act.drv.pulseQueue = [] :=
      (congrArg Driver.pulseQueue hdrv).trans (Driver.leaveEnergizing_of_empty s.clock hqueue)
    have hlevel (id : LevelId) := (Driver.sameBut_leaveEnergizing ({ s.act.drv with
        advise := ⟨.normal, none, s.act.drv.advise.failed⟩
        lift := ⟨.normal, none, s.act.drv.lift.failed⟩ } : Driver) s.clock).1 id
    refine ⟨s.formsTarget, (exec_soloDelay hsolo hreached).trans
      (congrArg Host.Outcome.next (State.endEvent_of_empty _ s hempty)), rfl, ?_, hdue, ?_, hasked, ?_, ?_⟩
    · refine hseq.trans ?_
      show ({ s.act.seq with stage := .watch, target := target s.view, standDown := none } : Sequencer) = _
      rw [htarget, ← hat.standDown]
    · exact hcoord.trans (Coordinator.turn_ended hat.stagger hat.quietStart _)
    · exact (congrArg Driver.advise hdrv).trans (hlevel .advise)
    · exact (congrArg Driver.lift hdrv).trans (hlevel .lift)
  · obtain ⟨hphase, hat, hform⟩ := sound.postponed hstep htarget hfloor
    have hrefused := Actors.runD_refused (a := s.act.aimed s.view) (v := s.view) horder
    obtain ⟨hcoord, -, hdrv⟩ := Actors.stop_of_energizing (a := s.act.aimed s.view) (v := s.view) hphase
    obtain ⟨hseq, hdue⟩ := Actors.stop_kept (a := s.act.aimed s.view) (v := s.view) hat.line hphase
    rw [← hrefused, ← hform] at hcoord hseq hdrv hdue
    obtain ⟨heq, -, -, -, hline⟩ := s.formsTarget_end
    have hend := s.formsTarget.stepOnly_endEvent s
    have hwait : s.formsTarget.act.seq.safeWait = false := (congrArg Sequencer.safeWait hseq).trans hat.safeWait
    refine ⟨_, exec_soloDelay hsolo hreached, heq, ?_, ?_, ?_, fun id _ => ?_⟩
    · rw [hend.seq, hend.wait hwait]
      show ({ (s.act.formTarget s.view).seq with safeWait := false } : Sequencer) = _
      rw [hseq]
      show ({ s.act.seq with target := target s.view, standDown := none, safeWait := false } : Sequencer) = _
      rw [htarget, ← hat.standDown, ← hat.safeWait]
    · rw [hline]
      exact hdue
    · rw [hend.coord, hend.step (congrArg Coordinator.step hcoord)]
      show ({ (s.act.formTarget s.view).coord with step := .none } : Coordinator) = _
      rw [hcoord]
      exact Coordinator.turn_stopped hat.stagger hat.quietStart hat.claimPending hat.bidWindow hat.contest _
    · rw [(s.formsTarget.sameBut_endEvent s hwait).1 id]
      show (s.act.formTarget s.view).drv.level id = _
      rw [hdrv]
      exact (Driver.sameBut_leaveEnergizing s.act.drv s.clock).1 id

end Sys2Proof.Machine
end


section
/-! PROOFS. TRIP (R110, R188): floor, stage, zone and turn. -/

namespace Sys2Proof.Machine

section
variable {a b c : Actors} {v : View}

/-! ### Acts that move the turn aside -/

/-- Permit and key withheld kept, and the phase, or QUIET_WAIT; no step left over outside ENERGIZING. -/
structure Actors.Aside (a b : Actors) : Prop where
  permit : b.coord.permit = a.coord.permit
  withheld : b.coord.keyWithheld = a.coord.keyWithheld
  phase : b.coord.phase = a.coord.phase ∨ b.coord.phase = .quietWait
  step : (a.coord.step ≠ .none → a.coord.phase = .energizing) → (b.coord.step ≠ .none → b.coord.phase = .energizing)

theorem Actors.Aside.of_coord (h : b.coord = a.coord) : a.Aside b :=
  ⟨by rw [h], by rw [h], .inl (by rw [h]), fun hs => by rw [h]; exact hs⟩

theorem Actors.Aside.trans (h : a.Aside b) (k : b.Aside c) : a.Aside c where
  permit := k.permit.trans h.permit
  withheld := k.withheld.trans h.withheld
  phase := k.phase.elim (fun hk => h.phase.imp hk.trans hk.trans) .inr
  step := k.step ∘ h.step

theorem Actors.aside_enterQuietWait (a : Actors) (v : View) : a.Aside (a.enterQuietWait v) := by
  obtain ⟨hpermit, hkey⟩ := a.setPhase_leave v .quietWait
  refine ⟨hpermit, hkey, .inr (a.enterQuietWait_phase v), fun hs hstep => ?_⟩
  refine absurd ?_ hstep
  show (a.setPhase v .quietWait).coord.step = .none
  rw [Actors.setPhase_coord]
  unfold Coordinator.moved
  by_cases hquiet : a.coord.phase = .quietWait
  · rw [if_pos hquiet]
    exact Decidable.not_not.1 fun hne => nomatch hquiet.symm.trans (hs hne)
  · rw [if_neg hquiet]
    by_cases hphase : a.coord.phase = .energizing
    · simp [hphase, Coordinator.enter]
    · have hnone : a.coord.step = .none := Decidable.not_not.1 fun hne => hphase (hs hne)
      simp only [hphase, if_false]
      split <;> exact hnone

theorem Actors.aside_abort (a : Actors) (v : View) : a.Aside (a.abort v) :=
  (a.aside_enterQuietWait v).trans (.of_coord (Actors.asks_bringUp _ v _).coord)

theorem Actors.aside_onRise (a : Actors) (v : View) (new : Stage) : a.Aside (a.onRise v new) := by
  by_cases hphase : a.coord.phase = .energizing
  · have h : a.onRise v new = a.abort v := by
      unfold Actors.onRise
      rw [hphase]
    rw [h]
    exact a.aside_abort v
  · rcases Actors.onRise_cases (new := new) (v := v) hphase with h | ⟨h, -⟩
    · rw [h]
      exact a.aside_enterQuietWait v
    · rw [h]
      exact .of_coord rfl

theorem Actors.aside_compare (a : Actors) (v : View) : a.Aside (a.compare v) := by
  unfold Actors.compare
  split
  · exact .of_coord rfl
  · split
    · exact Actors.Aside.trans (.of_coord (a.lifted_coord v _)) (Actors.aside_onRise _ v _)
    · exact .of_coord rfl

/-- A trip notice aborts a turn, moves the other restart phases to QUIET_WAIT, and is nothing to NONE and REJOIN. -/
theorem Actors.onTrip_cases (a : Actors) (v : View) :
    (a.onTrip v = a.enterQuietWait v ∧ a.coord.phase.inRestart = true)
      ∨ (a.onTrip v = a.abort v ∧ a.coord.phase = .energizing)
      ∨ (a.onTrip v = a ∧ a.coord.phase.inRestart = false) := by
  unfold Actors.onTrip
  cases a.coord.phase with
  | energizing => exact .inr (.inl ⟨rfl, rfl⟩)
  | none | rejoin => exact .inr (.inr ⟨rfl, rfl⟩)
  | quietWait | awaitPermit | bidding | contest | backoff => exact .inl ⟨rfl, rfl⟩

theorem Actors.abort_phase (a : Actors) (v : View) : (a.abort v).coord.phase = .quietWait := by
  have h : (a.abort v).coord = (a.enterQuietWait v).coord := (Actors.asks_bringUp _ v _).coord
  rw [h, Actors.enterQuietWait_phase]

theorem Actors.aside_onTrip (a : Actors) (v : View) :
    a.Aside (a.onTrip v) ∧ (a.onTrip v).seq.stage = a.seq.stage
      ∧ (a.coord.phase.inRestart = true → (a.onTrip v).coord.phase = .quietWait) := by
  rcases a.onTrip_cases v with ⟨h, -⟩ | ⟨h, -⟩ | ⟨h, hout⟩
  · rw [h]
    exact ⟨a.aside_enterQuietWait v, a.enterQuietWait_stage v, fun _ => a.enterQuietWait_phase v⟩
  · rw [h]
    exact ⟨a.aside_abort v, a.abort_stage v, fun _ => a.abort_phase v⟩
  · rw [h]
    exact ⟨.of_coord rfl, rfl, fun hin => absurd hin (by rw [hout]; decide)⟩

/-! ### A console TRIP -/

/-- The floor raised to a stage (R110). -/
def Actors.floored (a : Actors) (stage : Stage) : Actors := a.withSeq { a.seq with floor := a.seq.floor.higher stage }

theorem Actors.tripTo_eq (a : Actors) (v : View) (stage : Stage) :
    a.tripTo v stage = ((a.floored stage).compare v).onTrip v := rfl

theorem Actors.asks_consoleTrip (a : Actors) (v : View) (stage : Stage) :
    Actors.Asks False False (a.tripTo v stage) (a.consoleTrip v stage) := by
  unfold Actors.consoleTrip
  dsimp only
  split
  · exact Actors.asks_endGrace _ v
  · exact .refl _

/-- What a console TRIP makes of floor, stage and turn, outside the rejoin hold. -/
theorem Actors.consoleTrip_spec (a : Actors) (v : View) (stage : Stage) (hhold : a.seq.rejoinHold = false)
    (hcoord : a.coord.Sound) :
    (a.consoleTrip v stage).seq.floor = a.seq.floor.higher stage
      ∧ (a.consoleTrip v stage).seq.stage = a.seq.stage.higher (a.seq.target.higher (a.seq.floor.higher stage))
      ∧ (a.coord.phase.inRestart = true → (a.consoleTrip v stage).coord.phase = .quietWait)
      ∧ a.Aside (a.consoleTrip v stage) ∧ (a.consoleTrip v stage).Quiescent := by
  have hask := a.asks_consoleTrip v stage
  obtain ⟨haside, hstage, hquiet⟩ := ((a.floored stage).compare v).aside_onTrip v
  have hcompare := (a.floored stage).aside_compare v
  have hfloor : a.Aside (a.floored stage) := .of_coord rfl
  have hboth : a.Aside (a.consoleTrip v stage) :=
    (hfloor.trans (hcompare.trans haside)).trans (.of_coord hask.coord)
  have hturn : a.coord.phase.inRestart = true → (a.consoleTrip v stage).coord.phase = .quietWait := fun hin => by
    rw [hask.coord]
    refine hquiet ?_
    rcases hcompare.phase with h | h
    · rw [h]; exact hin
    · rw [h]; rfl
  have hphase : (a.consoleTrip v stage).coord.phase ≠ .energizing := by
    rcases hboth.phase with h | h
    · intro hen
      rw [hturn (by rw [← h, hen]; rfl)] at hen
      cases hen
    · rw [h]; exact nofun
  refine ⟨?_, ?_, hturn, hboth, hphase, Decidable.not_not.1 fun hne => hphase (hboth.step hcoord.1 hne)⟩
  · rw [hask.seq]
    exact ((Actors.reach_onTrip _ v).floor).trans ((a.floored stage).reach_compare v).floor
  · rw [hask.seq]
    exact hstage.trans ((a.floored stage).compare_stage v hhold)

/-- A TRIP to 4 leaves no grace running (R110). -/
theorem Actors.endGrace_grace (a : Actors) (v : View) : (a.endGrace v).seq.grace = .ended ∨ (a.endGrace v).seq.grace = .none := by
  cases hg : a.seq.grace with
  | running e => exact .inl (Actors.endGrace_of_running hg).1
  | none =>
    rw [Actors.endGrace_of_not v fun e he => nomatch hg.symm.trans he]
    exact .inr hg
  | ended =>
    rw [Actors.endGrace_of_not v fun e he => nomatch hg.symm.trans he]
    exact .inl hg

/-- The zone a TRIP that raises the stage brings up (R101 to R107, R110). -/
theorem Actors.brought_consoleTrip (hhold : a.seq.rejoinHold = false) {stage : Stage}
    (hlt : a.seq.stage.code < stage.code) :
    Actors.Brought v (a.seq.target.higher (a.seq.floor.higher stage))
      (v.scanner.active 5 = true ∨ stage = .safe ∨ GradeCuts v a.seq.target) (a.seq.grace = .ended ∨ stage = .safe)
      a (a.consoleTrip v stage) := by
  set new := a.seq.target.higher (a.seq.floor.higher stage) with hnew
  have hraise : (a.floored stage).compare v = (a.floored stage).raise v new := by
    rcases (a.floored stage).compare_cases v hhold with ⟨-, h⟩ | ⟨hle, -⟩
    · exact h
    · have hreached : stage.code ≤ (a.seq.target.higher (a.seq.floor.higher stage)).code := by
        rw [Stage.code_higher, Stage.code_higher]
        exact (le_max_right _ _).trans (le_max_right _ _)
      exact absurd (lt_of_lt_of_le hlt hreached) (Nat.not_lt.2 hle)
  have hup := ((a.floored stage).brought_raise v new).of_same (a := a) rfl rfl
  have hstage : ((a.floored stage).raise v new).seq.stage = new := Actors.raise_stage_always _ v new
  have htrip : Actors.Brought v new ((a.floored stage).CutsAtStart v) (a.seq.grace = .ended) a (a.tripTo v stage) := by
    rw [Actors.tripTo_eq, hraise]
    rcases ((a.floored stage).raise v new).onTrip_cases v with ⟨h, -⟩ | ⟨h, -⟩ | ⟨h, -⟩
    · rw [h]
      exact hup.keep (Actors.enterQuietWait_zone _ v).1 (Actors.enterQuietWait_zone _ v).2
    · rw [h]
      exact hup.abort id hstage
    · rw [h]
      exact hup
  unfold Actors.consoleTrip
  dsimp only
  by_cases hsafe : stage = .safe
  · rw [if_pos hsafe]
    exact (htrip.endGrace id).congr (fun _ => ⟨fun _ => .inr (.inl hsafe), fun _ => trivial⟩)
      fun _ => ⟨fun _ => .inr hsafe, fun _ => trivial⟩
  · rw [if_neg hsafe]
    refine htrip.congr (fun _ => ?_) fun _ => ⟨.inl, fun h => h.resolve_right hsafe⟩
    rw [Actors.cutsAtStart_iff]
    exact or_congr_right ⟨.inr, fun h => h.resolve_left hsafe⟩

/-! ### TRIP heard (R185, R188) -/

theorem tripStage?_of_code {argument : Byte} {stage : Stage} (hstage : stage ≠ .watch)
    (hargument : argument.toNat = stage.code) : tripStage? argument = some stage := by
  have hne : argument ≠ 0 := by
    rintro rfl
    cases stage with
    | watch => exact hstage rfl
    | alert | quiesce | isolate | safe => cases hargument
  unfold tripStage?
  rw [if_neg hne, hargument]
  cases stage <;> rfl

/-- The state as a TRIP leaves it, before the end of its event. -/
def State.tripped (s : State) (l : LineUnit) (stage : Stage) (d : DirectiveRecord) : State :=
  { s with directive := d, act := ((s.act.withLine l).consoleTrip s.view stage).urgent s.view }

/-- A TRIP taken and accepted. -/
theorem State.exec_trip {s : State} {sender target argument : Byte} {stage : Stage} (takes : s.Takes sender target)
    (hstage : stage ≠ .watch) (hargument : argument.toNat = stage.code) :
    ∃ l d, exec (.trip sender target argument) s = .next ((s.tripped l stage d).endEvent s) := by
  have htrip := tripStage?_of_code hstage hargument
  have haccepted : s.judgeDirective .trip target argument = .accepted := by
    simp [State.judgeDirective, argumentSuits, State.suits, htrip]
  have hexec := State.exec_taken takes .trip argument
  rw [if_pos haccepted, haccepted] at hexec
  refine ⟨(s.listened (directiveBytes .trip sender target argument)).act.line,
    ⟨some .trip, some .accepted, BitVec.ofNat 2 (sender.toNat - 32)⟩, hexec.trans ?_⟩
  have happly : (s.listened (directiveBytes .trip sender target argument)).applyDirective .trip argument
      = (s.listened (directiveBytes .trip sender target argument)).acting fun v a => a.consoleTrip v stage := by
    unfold State.applyDirective
    dsimp only
    rw [htrip]
  rw [happly]
  rfl

end

/-- Settles O51: floor, stage and turn; a TRIP under the rejoin hold; the zone of a raise. -/
theorem tripRaisesFloorAndStage : Obligations.TripRaisesFloorAndStage := by
  refine ⟨fun s sender target argument stage hcoord takes hstage hargument hhold => ?_,
    fun s sender target argument stage takes hstage hargument hhold hphase hgrace => ?_,
    fun s sender target argument stage hcoord hpulse takes hstage hargument hhold hlt => ?_⟩
  · obtain ⟨l, d, hexec⟩ := State.exec_trip takes hstage hargument
    obtain ⟨hfloor, hstageNew, hturn, haside, hquiescent⟩ :=
      (s.act.withLine l).consoleTrip_spec s.view stage hhold hcoord
    set w := s.tripped l stage d with hw
    have hend := w.stepOnly_endEvent s
    have hcoordEnd : (w.endEvent s).act.coord = ((s.act.withLine l).consoleTrip s.view stage).coord :=
      (w.endEvent_of_no_step s hquiescent.2).coord
    refine ⟨_, hexec, ?_, ?_, ?_, fun hin => ?_, fun hsafe => ?_, ?_, ?_⟩
    · rw [State.endEvent_eq w s]
      rfl
    · rw [hend.seq]
      exact hfloor
    · rw [hend.seq]
      exact hstageNew
    · rw [hcoordEnd]
      refine hturn ?_
      show s.act.coord.phase.inRestart = true
      revert hin
      cases s.act.coord.phase <;> decide
    · rw [(w.endEvent_zone s hquiescent.1).2.grace]
      show ((s.act.withLine l).consoleTrip s.view stage).seq.grace = _ ∨ ((s.act.withLine l).consoleTrip s.view stage).seq.grace = _
      unfold Actors.consoleTrip
      dsimp only
      rw [if_pos hsafe]
      exact Actors.endGrace_grace _ _
    · rw [hcoordEnd]
      exact haside.permit
    · rw [hcoordEnd]
      exact haside.withheld
  · obtain ⟨l, d, hexec⟩ := State.exec_trip takes hstage hargument
    have htrip : (s.act.withLine l).consoleTrip s.view stage = (s.act.withLine l).floored stage := by
      have hto : (s.act.withLine l).tripTo s.view stage = (s.act.withLine l).floored stage := by
        rw [Actors.tripTo_eq, Actors.compare_of_hold ((s.act.withLine l).floored stage) s.view hhold]
        unfold Actors.onTrip
        rw [show ((s.act.withLine l).floored stage).coord.phase = .rejoin from hphase]
      unfold Actors.consoleTrip
      dsimp only
      have hkept := Actors.endGrace_of_not (a := (s.act.withLine l).floored stage) s.view
        fun e he => by cases (show s.act.seq.grace = .running e from he).symm.trans hgrace
      rw [hto, hkept]
      exact ite_self _
    refine ⟨_, hexec.trans (congrArg Host.Outcome.next (State.endEvent_of_calm _ s ?_ ?_)), ?_⟩
    all_goals
      unfold State.tripped
      rw [htrip]
      rfl
  · obtain ⟨l, d, hexec⟩ := State.exec_trip takes hstage hargument
    obtain ⟨-, hstageNew, -, -, hquiescent⟩ := (s.act.withLine l).consoleTrip_spec s.view stage hhold hcoord
    have hbrought := (Actors.brought_consoleTrip (a := s.act.withLine l) (v := s.view) hhold hlt).of_same (a := s.act) rfl rfl
    set w := s.tripped l stage d with hw
    obtain ⟨hon, hun⟩ := w.endEvent_zone s hquiescent.1
    have hstageEnd : (w.endEvent s).act.seq.stage = s.act.seq.target.higher (s.act.seq.floor.higher stage) := by
      rw [(w.stepOnly_endEvent s).seq]
      refine hstageNew.trans (Stage.higher_of_lt ?_)
      show s.act.seq.stage.code < (s.act.seq.target.higher (s.act.seq.floor.higher stage)).code
      rw [Stage.code_higher, Stage.code_higher]
      exact lt_of_lt_of_le hlt ((le_max_right _ _).trans (le_max_right _ _))
    have hlisted := (hbrought.keep (c := w.act) (.of_drv (.refl _) rfl) (.of_drv (.refl _) rfl id)).keep hon hun
    refine ⟨_, hexec, hlisted.claims ?_ hstageEnd (Driver.tripsQueued hpulse)⟩
    rw [Stage.code_higher, Stage.code_higher]
    have hreached : stage.code ≤ max s.act.seq.target.code (max s.act.seq.floor.code stage.code) :=
      (le_max_right _ _).trans (le_max_right _ _)
    omega

end Sys2Proof.Machine
end


section
/-! PROOFS. Adoption (R118, R139, R148, R180 to R184): the rejoin window's expiry and the scan awaited. -/

namespace Sys2Proof.Machine

/-! ### The channels of the adopted stages -/

/-- No pulse is queued or under way. -/
def Driver.Unpulsed (d : Driver) : Prop := d.pulseQueue = [] ∧ ∀ id, d.firing id = false

section
variable {d : Driver} {sc : Scanner} {now : Stamp}

theorem Driver.Unpulsed.of_same {e : Driver} (h : d.Unpulsed) (hqueue : e.pulseQueue = d.pulseQueue)
    (hpulse : ∀ id, e.pulse id = d.pulse id) : e.Unpulsed :=
  ⟨hqueue.trans h.1, fun id => by
    unfold Driver.firing
    rw [hpulse]
    exact h.2 id⟩

theorem Driver.unpulsed_adoptTrip (h : d.Unpulsed) (p : Pdu) :
    (d.adoptTrip sc p).1.Unpulsed ∧ ∀ id, (d.adoptTrip sc p).1.level id = d.level id := by
  unfold Driver.adoptTrip
  split
  · refine ⟨⟨by rw [Driver.pulseQueue_setPulse]; exact h.1, fun id => ?_⟩, fun id => Driver.level_setPulse ..⟩
    unfold Driver.firing
    rw [Driver.pulse_setPulse]
    split
    · rfl
    · exact h.2 id
  · exact ⟨h, fun _ => rfl⟩

theorem Driver.level_assertHold (d : Driver) (sc : Scanner) (now : Stamp) (id : HoldId) (l : LevelId) :
    (d.assertHold sc now id).level l = d.level l := by
  unfold Driver.assertHold
  dsimp only
  split
  · rfl
  · exact d.level_setHold ..

theorem Driver.unpulsed_adoptHold (h : d.Unpulsed) (id : HoldId) :
    (d.adoptHold sc now id).Unpulsed ∧ ∀ l, (d.adoptHold sc now id).level l = d.level l := by
  unfold Driver.adoptHold
  split
  · exact ⟨h.of_same (by simp) fun p => by simp, fun l => by simp⟩
  · exact ⟨h.of_same (d.pulseQueue_assertHold sc now id) fun p => d.pulse_assertHold sc now id p,
      fun l => d.level_assertHold sc now id l⟩

theorem Driver.unpulsed_assertLevel (h : d.Unpulsed) (id : LevelId) : (d.assertLevel id).Unpulsed :=
  h.of_same (by rw [Driver.assertLevel, Driver.pulseQueue_setLevel]) fun p => d.pulse_setLevel id _ p

/-- The adoption request of one stage starts no pulse, and its LEVEL channels stand asserted, with those that stood so. -/
theorem Driver.adoptStage_spec (h : d.Unpulsed) (stage : Stage) :
    (d.adoptStage sc now stage).1.Unpulsed
      ∧ ∀ id, (d.level id).state = .asserted ∨ levelStage id = stage →
        ((d.adoptStage sc now stage).1.level id).state = .asserted := by
  have hlevels : ∀ x y : LevelId, ∀ id, (d.level id).state = .asserted ∨ id = x ∨ id = y →
      (((d.assertLevel x).assertLevel y).level id).state = .asserted := by
    rintro x y id (hup | rfl | rfl)
    · exact (Driver.onward_assertLevel _ y).levels id ((d.onward_assertLevel x).levels id hup)
    · exact (Driver.onward_assertLevel _ y).levels id (d.assertLevel_asserted id)
    · exact Driver.assertLevel_asserted _ id
  cases stage with
  | watch => exact ⟨h, fun id hid => hid.elim (fun hup => hup) fun hs => by cases id <;> cases hs⟩
  | alert =>
    exact ⟨Driver.unpulsed_assertLevel (Driver.unpulsed_assertLevel h _) _,
      fun id hid => hlevels .advise .lift id (hid.imp_right fun hs => by cases id <;> simp_all [levelStage])⟩
  | quiesce =>
    exact ⟨Driver.unpulsed_assertLevel (Driver.unpulsed_assertLevel h _) _,
      fun id hid => hlevels .freeze .haltreq id (hid.imp_right fun hs => by cases id <;> simp_all [levelStage])⟩
  | isolate =>
    obtain ⟨ha, hla⟩ := Driver.unpulsed_adoptTrip (sc := sc) h .a
    obtain ⟨hb, hlb⟩ := Driver.unpulsed_adoptTrip (sc := sc) ha .b
    refine ⟨hb, fun id hid => ?_⟩
    show (((d.adoptTrip sc .a).1.adoptTrip sc .b).1.level id).state = _
    rw [hlb, hla]
    exact hid.elim (fun hup => hup) fun hs => by cases id <;> cases hs
  | safe =>
    obtain ⟨ha, hla⟩ := Driver.unpulsed_adoptHold (sc := sc) (now := now) h .valve
    obtain ⟨hb, hlb⟩ := Driver.unpulsed_adoptHold (sc := sc) (now := now) ha .coolstop
    refine ⟨hb, fun id hid => ?_⟩
    show (((d.adoptHold sc now .valve).adoptHold sc now .coolstop).level id).state = _
    rw [hlb, hla]
    exact hid.elim (fun hup => hup) fun hs => by cases id <;> cases hs

end

section
variable {a b : Actors} {v : View}

theorem Actors.adoptDrive_drv (hw : a.seq.safeWait = false) (stage : Stage) :
    (a.drive v fun d => d.adoptStage v.scanner v.now stage).drv = (a.drv.adoptStage v.scanner v.now stage).1 :=
  Actors.hearAll_drv_of_wait v (a.drv.adoptStage v.scanner v.now stage).2
    (a.withDrv (a.drv.adoptStage v.scanner v.now stage).1) hw

theorem Actors.adoptChannels_spec (hw : a.seq.safeWait = false) (hidle : a.drv.Unpulsed) (stage : Stage) :
    (a.adoptChannels v stage).drv.Unpulsed
      ∧ (2 ≤ stage.code → ∀ id, ((a.adoptChannels v stage).drv.level id).state = .asserted) := by
  have hall : ∀ (l : List Stage) (b : Actors), b.seq.safeWait = false → b.drv.Unpulsed →
      (l.foldl (fun a st => a.drive v fun d => d.adoptStage v.scanner v.now st) b).drv.Unpulsed
        ∧ ∀ id, (b.drv.level id).state = .asserted ∨ levelStage id ∈ l →
          ((l.foldl (fun a st => a.drive v fun d => d.adoptStage v.scanner v.now st) b).drv.level id).state = .asserted := by
    intro l
    induction l with
    | nil => exact fun b _ hb => ⟨hb, fun id hid => hid.resolve_right List.not_mem_nil⟩
    | cons st l ih =>
      intro b hb hidle
      obtain ⟨hone, hup⟩ := Driver.adoptStage_spec (sc := v.scanner) (now := v.now) hidle st
      have hdrv := Actors.adoptDrive_drv (a := b) (v := v) hb st
      obtain ⟨hrest, hlast⟩ := ih (b.drive v fun d => d.adoptStage v.scanner v.now st) ((b.asks_drive v _).wait_false hb)
        (by rw [hdrv]; exact hone)
      refine ⟨hrest, fun id hid => hlast id ?_⟩
      rw [hdrv]
      rcases hid with hid | hid
      · exact .inl (hup id (.inl hid))
      · exact (List.mem_cons.1 hid).imp (fun hs => hup id (.inr hs)) fun hin => hin
  unfold Actors.adoptChannels
  split
  · next hhigh =>
    obtain ⟨hrest, hlast⟩ := hall (stagesTo stage) a hw hidle
    refine ⟨hrest, fun _ id => hlast id (.inr ?_)⟩
    cases stage with
    | watch | alert => exact absurd hhigh (by decide)
    | quiesce | isolate | safe => cases id <;> decide
  · next hlow => exact ⟨hidle, fun h => absurd h hlow⟩

/-! ### The adopted stage taken (R118, R183) -/

/-- A state that has adopted a stage. -/
structure Actors.Adopted (new : Stage) (a b : Actors) : Prop where
  stage : b.seq.stage = new
  grace : b.seq.grace = if 3 ≤ new.code then .ended else .none
  wait : b.seq.safeWait = false
  phase : b.coord.phase = if 2 ≤ new.code then .quietWait else .none
  permit : b.coord.permit = a.coord.permit
  withheld : b.coord.keyWithheld = a.coord.keyWithheld
  levels : 2 ≤ new.code → ∀ id, (b.drv.level id).state = .asserted
  pulses : b.drv.Unpulsed
  due : new ≠ .watch → b.line.urgentDue = true

theorem Actors.Held.unpulsed (h : a.Held v) (hgood : a.drv.Good) : a.drv.Unpulsed :=
  ⟨h.rest.queue_empty hgood, fun id => by
    unfold Driver.firing
    rw [h.rest.1 id]
    rfl⟩

theorem Actors.adoptPhase_drv (hphase : a.coord.phase = .rejoin) (stage : Stage) : (a.adoptPhase v stage).drv = a.drv := by
  unfold Actors.adoptPhase
  split
  · exact a.setPhase_drv v .quietWait (by rw [hphase]; exact nofun)
  · exact a.setPhase_drv v .none (by rw [hphase]; exact nofun)

theorem Actors.adoptPhase_leave (a : Actors) (v : View) (stage : Stage) :
    (a.adoptPhase v stage).coord.permit = a.coord.permit ∧ (a.adoptPhase v stage).coord.keyWithheld = a.coord.keyWithheld := by
  unfold Actors.adoptPhase
  split
  · exact a.setPhase_leave v .quietWait
  · exact a.setPhase_leave v .none

/-- Adoption with neither T nor the floor above the adopted stage. -/
theorem Actors.adopt_spec (h : a.Held v) (hgood : a.drv.Good) (hline : a.line.Sound) {stage : Stage}
    (htarget : a.seq.target.code ≤ stage.code) (hfloor : a.seq.floor.code ≤ stage.code) :
    Actors.Adopted stage a (a.adopt v stage) := by
  have hch := a.adopts_channels v stage h.wait fun p hq => by
    rw [h.rest.1] at hq
    cases hq
  obtain ⟨hidle, hlevels⟩ := Actors.adoptChannels_spec (v := v) h.wait (h.unpulsed hgood) stage
  have hphase : (a.adoptChannels v stage).coord.phase = .rejoin := by rw [hch.asks.coord]; exact h.phase
  obtain ⟨-, -, hnew, -⟩ := Actors.adoptPhase_coord (a.adoptChannels v stage) v stage (by rw [hch.asks.coord]; exact h.coord) hphase
  obtain ⟨hpermit, hwithheld⟩ := (a.adoptChannels v stage).adoptPhase_leave v stage
  rw [hch.asks.coord] at hpermit hwithheld
  have hdrv := Actors.adoptPhase_drv (v := v) hphase stage
  have htouch := hch.touch.trans ((a.adoptChannels v stage).touch_adoptPhase v stage)
  have hsound := htouch.line.sound hline
  have htargetb := htouch.target
  have hfloorb := htouch.floor
  rw [Actors.adopt_eq, Actors.adoptStage_eq]
  rw [← hdrv] at hidle hlevels
  generalize (a.adoptChannels v stage).adoptPhase v stage = b at *
  have hmet : ((b.takeStage v stage).tellStage v stage).compare v = (b.takeStage v stage).tellStage v stage := by
    refine Actors.compare_of_le _ v ?_
    have hseq : ((b.takeStage v stage).tellStage v stage).seq = (b.takeStage v stage).seq := by
      unfold Actors.tellStage
      split <;> rfl
    rw [hseq]
    exact Sequencer.demand_code_le (q := (b.takeStage v stage).seq) (by
      show b.seq.target.code ≤ stage.code
      rw [htargetb]
      exact htarget) (by
      show b.seq.floor.code ≤ stage.code
      rw [hfloorb]
      exact hfloor)
  have hgrace : ((b.takeStage v stage).tellStage v stage).seq.grace = if 3 ≤ stage.code then .ended else .none := by
    unfold Actors.tellStage
    split <;> rfl
  have hcut : ((b.takeStage v stage).tellStage v stage).cutByFloor v = (b.takeStage v stage).tellStage v stage := by
    unfold Actors.cutByFloor
    split
    · refine Actors.endGrace_of_not v fun e he => ?_
      rw [hgrace] at he
      split at he <;> cases he
    · rfl
  have htake : (b.takeStage v stage).line.Sound := ((LineUnit.Served.refl b.line).cadence _).sound hsound
  rw [hmet, hcut]
  unfold Actors.tellStage
  split
  · next hwatch =>
    exact ⟨rfl, rfl, rfl, hnew, hpermit, hwithheld, hlevels, hidle, fun hne => absurd hwatch hne⟩
  · exact ⟨rfl, rfl, rfl, hnew, hpermit, hwithheld, hlevels, hidle,
      fun _ => LineUnit.urgentDue_urgent _ _ htake.nonempty⟩

/-! ### A scan under the rejoin hold -/

theorem Actors.Whole.held (h : a.Whole v true) : a.Held v :=
  h.sane.resolve_right fun hlive => nomatch hlive.hold.symm.trans h.hold

/-- Permit and target left as they were. -/
def Actors.Reserved (a b : Actors) : Prop := b.coord.permit = a.coord.permit ∧ b.seq.target = a.seq.target

theorem Actors.Reserved.trans {c : Actors} (h : a.Reserved b) (k : b.Reserved c) : a.Reserved c :=
  ⟨k.1.trans h.1, k.2.trans h.2⟩

theorem Actors.Reserved.of_asks {p q : Prop} (h : Actors.Asks p q a b) : a.Reserved b := ⟨by rw [h.coord], by rw [h.seq]⟩

theorem Actors.Held.reserved_onInput (h : a.Held v) (i : Nat) : a.Reserved (a.onInput v i) := by
  have hrefl : a.Reserved a := ⟨rfl, rfl⟩
  have hoperate : ∀ f, a.Reserved (a.operate v f) := fun f => .of_asks (a.asks_operate v f h.step)
  unfold Actors.onInput
  split
  · exact hoperate _
  · exact hoperate _
  · exact hoperate _
  · exact hoperate _
  · split
    · exact .of_asks (a.asks_endGrace v)
    · exact hrefl
  · split
    · have hfloored : (a.floored .isolate).compare v = a.floored .isolate := Actors.compare_of_hold _ v h.hold
      have htrip : a.localTrip v = a.floored .isolate := by
        unfold Actors.localTrip
        rw [Actors.tripTo_eq, hfloored]
        unfold Actors.onTrip
        rw [show (a.floored .isolate).coord.phase = .rejoin from h.phase]
      rw [htrip]
      exact ⟨rfl, rfl⟩
    · exact hrefl
  · unfold Actors.onKey
    split
    · rw [a.checkAuthority_of_phase v (by rw [h.phase]; exact nofun)]
      exact hrefl
    · exact ⟨rfl, rfl⟩
  · rw [a.compareBackoff_of_phase v (by rw [h.phase]; exact nofun)]
    exact hrefl
  · exact hrefl

theorem Actors.Whole.reserved_afterScan (h : a.Whole v true) (old : Scanner) : a.Reserved (a.afterScan v old) := by
  have hinputs : ∀ (is : List Nat) (b : Actors), b.Whole v true → b.Reserved (is.foldl (fun a i => a.onInput v i) b) := by
    intro is
    induction is with
    | nil => exact fun b _ => ⟨rfl, rfl⟩
    | cons i is ih => exact fun b hb => (hb.held.reserved_onInput i).trans (ih _ (hb.onInput i))
  have hrejoin : ∀ b : Actors, b.coord = a.coord → b.coord.phase = .rejoin := fun b hb => by rw [hb]; exact h.held.phase
  unfold Actors.afterScan
  split
  · have hask := a.asks_operate v Driver.faultBegins h.held.step
    have hbegins : a.Reserved (a.faultBegins v) := by
      unfold Actors.faultBegins Actors.onFault
      rw [hrejoin _ hask.coord]
      exact .of_asks (hask.andThen (Actors.asks_urgent _ v))
    exact hbegins.trans (hinputs _ _ h.faultBegins)
  · split
    · have hask := a.asks_operate v (fun d => d.faultEnds v.scanner v.now a.energizing) h.held.step
      have hends : a.Reserved (a.faultEnds v) := by
        unfold Actors.faultEnds
        rw [Actors.checkAuthority_of_phase _ v (by rw [hrejoin _ hask.coord]; exact nofun)]
        exact .of_asks hask
      exact hends.trans (hinputs _ _ h.faultEnds)
    · exact hinputs _ a h

end

/-- Adoption as the last act of an event: the arbiter finds no pulse to serve. -/
theorem State.adopt_end {s : State} (old : State) (h : s.act.Held s.view) (hgood : s.act.drv.Good) (hline : s.act.line.Sound)
    (htarget : s.act.seq.target.code ≤ (adoptedStage s.view).code)
    (hfloor : s.act.seq.floor.code ≤ (adoptedStage s.view).code) :
    s.adopt.endEvent old = s.adopt ∧ Actors.Adopted (adoptedStage s.view) s.act s.adopt.act := by
  have hspec : Actors.Adopted (adoptedStage s.view) s.act s.adopt.act := Actors.adopt_spec h hgood hline htarget hfloor
  exact ⟨State.endEvent_of_empty s.adopt old hspec.pulses.1, hspec⟩

theorem State.adopt_seq {s : State} (h : s.act.Held s.view) :
    s.adopt.act.seq.floor = s.act.seq.floor ∧ s.adopt.act.seq.rejoinHold = false := by
  have hch := s.act.adopts_channels s.view (adoptedStage s.view) h.wait fun p hq => by
    rw [h.rest.1] at hq
    cases hq
  have hphase := (s.act.adoptChannels s.view (adoptedStage s.view)).touch_adoptPhase s.view (adoptedStage s.view)
  have htake := ((s.act.adoptChannels s.view (adoptedStage s.view)).adoptPhase s.view (adoptedStage s.view)).touch_adoptStage
    s.view (adoptedStage s.view)
  exact ⟨htake.floor.trans (hphase.floor.trans hch.touch.floor), htake.rejoinHold⟩

/-- A scan as the acting blocks take it keeps whole what was whole. -/
theorem State.Whole.scanned_act {s : State} (h : s.Whole) (frame : BitVec 24) :
    (s.scanned frame).act.Whole (s.scanned frame).view (decide (s.startup.state ≠ .running)) :=
  (h.act.view ({ s with scanner := s.scanner.complete frame } : State).view rfl).afterScan s.scanner

/-- Settles O48: the window's expiry without and with the known condition, nothing ahead of it, and the scan awaited. -/
theorem rejoinWindowEndsInAdoption : Obligations.RejoinWindowEndsInAdoption := by
  refine ⟨fun s e hstate hwindow hreached hunknown => ?_, fun s e sound hstate hwindow hreached hknown htarget hfloor => ?_,
    fun s hnot => ?_, fun s frame sound hstate hscanning => ?_⟩
  · have hdue : (decide (s.startup.state = .listening) && expired s.clock s.startup.window) = true := by
      rw [hstate, hwindow]
      exact hreached
    have hend : s.endRejoinWindow = { s with startup := { s.startup with state := .awaitingInputs, window := none } } := by
      unfold State.endRejoinWindow
      rw [hunknown]
      rfl
    exact congrArg Host.Outcome.next (s.eventWhen_calm hdue _ hend rfl rfl)
  · have hdue : (decide (s.startup.state = .listening) && expired s.clock s.startup.window) = true := by
      rw [hstate, hwindow]
      exact hreached
    have hend : s.endRejoinWindow = s.adopt := by
      unfold State.endRejoinWindow
      rw [hknown]
      rfl
    have hheld := sound.whole.held (by rw [hstate]; exact nofun)
    obtain ⟨hempty, hspec⟩ := State.adopt_end s hheld sound.whole.act.good sound.2.2.1 htarget hfloor
    refine ⟨s.adopt, congrArg Host.Outcome.next ?_, rfl, ?_, hspec.stage, hspec.grace, hspec.wait, hspec.phase, hspec.permit,
      hspec.withheld, fun hhigh id _ => hspec.levels hhigh id, fun id _ => hspec.pulses.2 id, hspec.pulses.1, hspec.due⟩
    · rw [hdue, State.eventWhen_true]
      exact (congrArg (fun t : State => t.endEvent s) hend).trans hempty
    · exact (State.adopt_seq hheld).2
  · refine congrArg Host.Outcome.next (State.eventWhen_of_not _ _ ?_)
    rcases hnot with h | h
    · simp [h]
    · simp [expired_of_all h]
  · have hwhole := sound.whole
    have hne : s.startup.state ≠ .running := by rw [hstate]; exact nofun
    have hunknown : s.scanner.known = false := hwhole.awaiting hstate
    have hexec := State.exec_scan hscanning frame
    have hcomplete : s.completeScan frame
        = if (s.scanner.complete frame).known = true then (s.scanned frame).adopt else s.scanned frame := by
      have hknown : (s.scanned frame).onKnown = (s.scanned frame).adopt := by
        unfold State.onKnown
        rw [show (s.scanned frame).startup.state = .awaitingInputs from hstate]
      unfold State.completeScan
      dsimp only
      rw [hunknown]
      exact ite_congr rfl (fun _ => hknown) fun _ => rfl
    rw [hcomplete] at hexec
    by_cases hknown : (s.scanner.complete frame).known = true
    · rw [if_pos hknown] at hexec
      have hact := hwhole.scanned_act frame
      rw [decide_eq_true hne] at hact
      have hline : (s.scanned frame).act.line.Sound := by
        have hpasses := s.passes_scanned (s.scanner.complete frame) (fun h => Scanner.known_complete h frame) fun h => h.complete frame
        exact (hpasses.line ⟨sound.2.2.1, sound.2.2.2.1⟩).1
      have hreserved := Actors.Whole.reserved_afterScan (a := s.act)
        (v := ({ s with scanner := s.scanner.complete frame } : State).view) (by
          have h := hwhole.act.view ({ s with scanner := s.scanner.complete frame } : State).view rfl
          rwa [decide_eq_true hne] at h) s.scanner
      set w := s.scanned frame with hw
      have hend := w.adopt.stepOnly_endEvent s
      obtain ⟨hfloor, hrejoin⟩ := State.adopt_seq hact.held
      have hsame : (w.adopt.endEvent s) = { w.adopt with act := (w.adopt.endEvent s).act } := State.endEvent_eq _ _
      have hview : (w.adopt.endEvent s).view = w.view := by rw [hsame]; rfl
      refine ⟨_, hexec, fun h => ?_, fun _ => ⟨?_, ?_, fun htarget hlow => ?_⟩⟩
      · rw [hsame] at h
        cases hknown.symm.trans h
      · rw [hsame]
        rfl
      · rw [hend.seq]
        exact hrejoin
      · rw [hview] at htarget hlow ⊢
        rw [hend.seq] at hlow
        obtain ⟨hempty, hspec⟩ := State.adopt_end s hact.held hact.good hline (le_of_eq_of_le (congrArg Stage.code hreserved.2) htarget)
          (le_of_eq_of_le (congrArg Stage.code hfloor).symm hlow)
        rw [hempty]
        exact ⟨hspec.stage, hspec.grace, hspec.wait, hspec.phase, hspec.permit.trans hreserved.1,
          fun hhigh id _ => hspec.levels hhigh id, fun id _ => hspec.pulses.2 id, hspec.pulses.1, hspec.due⟩
    · rw [if_neg hknown] at hexec
      have hsame : ((s.scanned frame).endEvent s) = { s.scanned frame with act := ((s.scanned frame).endEvent s).act } :=
        State.endEvent_eq _ _
      have hstartup : ((s.scanned frame).endEvent s).startup = s.startup := by rw [hsame]; rfl
      have hheld := (exec_whole hwhole hexec (fun _ _ => nofun)).held (by rw [hstartup]; exact hne)
      refine ⟨_, hexec, fun _ => ⟨hstartup, hheld.hold, hheld.stage, hheld.phase⟩, fun h => ?_⟩
      rw [hsame] at h
      exact absurd h hknown

end Sys2Proof.Machine
end


section
/-! PROOFS. Bad scans and the begin of the scan fault (R136, R140, R144, R145). -/

namespace Sys2Proof.Machine

/-! ### The channels as the fault begins (R136) -/

/-- A PULSE channel's record as the fault begins. -/
def PulseChannel.faulted (c : PulseChannel) : PulseChannel := if c.state = .checking then c.toSpent true else c

/-- A HOLD channel's record as the fault begins. -/
def HoldChannel.faulted (c : HoldChannel) : HoldChannel :=
  match c.state with
  | .pullIn | .holding => { c with window := none, unconfirmed := c.unconfirmed || c.window.isSome }
  | .releasing => { c with state := .off, window := none, unconfirmed := true }
  | .off | .failed _ => c

theorem HoldChannel.faulted_of_on {c : HoldChannel} (h : c.state = .pullIn ∨ c.state = .holding) :
    c.faulted = { c with window := none, unconfirmed := c.unconfirmed || c.window.isSome } := by
  cases c
  rcases h with h | h
  · cases h; rfl
  · cases h; rfl

theorem HoldChannel.faulted_of_releasing {c : HoldChannel} (h : c.state = .releasing) :
    c.faulted = { c with state := .off, window := none, unconfirmed := true } := by
  cases c
  cases h
  rfl

theorem HoldChannel.faulted_of_out {c : HoldChannel} (h : c.state = .off ∨ ∃ on, c.state = .failed on) : c.faulted = c := by
  cases c
  rcases h with h | ⟨on, h⟩
  · cases h; rfl
  · cases h; rfl

/-- Notices the fault's begin may send: nobody but the sequencer acts on them. -/
def Notice.ofFault : Notice → Bool
  | .tripOutcome _ | .closeUnconfirmed _ | .releaseUnconfirmed _ => true
  | .closeConfirmed _ | .closeCut _ | .closeWithdrawn _ | .closeFailed _ | .closeRefused _ | .releaseConfirmed _
  | .releaseFailed _ | .failedFlag => false

section
variable {d : Driver}

theorem Driver.pulseFault_spec (d : Driver) (id : PulseId) :
    (∀ p, (d.pulseFault id).1.pulse p = if p = id then (d.pulse p).faulted else d.pulse p)
      ∧ (∀ h, (d.pulseFault id).1.hold h = d.hold h) ∧ (∀ l, (d.pulseFault id).1.level l = d.level l)
      ∧ (d.pulseFault id).1.pulseQueue = d.pulseQueue ∧ ∀ n ∈ (d.pulseFault id).2, n.ofFault = true := by
  unfold Driver.pulseFault
  split
  · next hc =>
    have hset : (d.abandonCheck id).1 = d.setPulse id ((d.pulse id).toSpent true) := by cases id <;> rfl
    refine ⟨fun p => ?_, fun h => ?_, fun l => ?_, ?_, fun n hn => ?_⟩
    · rw [hset, Driver.pulse_setPulse]
      by_cases hp : p = id
      · rw [if_pos hp, if_pos hp, hp]
        exact (if_pos hc).symm
      · rw [if_neg hp, if_neg hp]
    · rw [hset, Driver.hold_setPulse]
    · rw [hset, Driver.level_setPulse]
    · rw [hset, Driver.pulseQueue_setPulse]
    · cases id with
      | trip q => rw [List.mem_singleton.1 hn]; rfl
      | close q => rw [List.mem_singleton.1 hn]; rfl
  · next hc =>
    refine ⟨fun p => ?_, fun _ => rfl, fun _ => rfl, rfl, fun n hn => absurd hn List.not_mem_nil⟩
    by_cases hp : p = id
    · rw [if_pos hp, hp]
      exact (if_neg hc).symm
    · rw [if_neg hp]

theorem Driver.setHold_same {id : HoldId} {c : HoldChannel} (h : c = d.hold id) : d.setHold id c = d := by
  rw [h]
  cases id <;> rfl

theorem Driver.holdFault_eq (d : Driver) (id : HoldId) :
    ∃ ns, d.holdFault id = (d.setHold id (d.hold id).faulted, ns) ∧ ∀ n ∈ ns, n.ofFault = true := by
  have hquiet : ∀ n ∈ ([] : List Notice), n.ofFault = true := fun n hn => absurd hn List.not_mem_nil
  have hwindow : (d.hold id).faulted
        = { d.hold id with window := none, unconfirmed := (d.hold id).unconfirmed || (d.hold id).window.isSome } →
      (if (d.hold id).window.isSome = true then (d.setHold id { d.hold id with window := none, unconfirmed := true }, [])
        else (d, ([] : List Notice))) = (d.setHold id (d.hold id).faulted, []) := by
    intro h
    rw [h]
    split
    · next hw => rw [hw, Bool.or_true]
    · next hw =>
      rw [Driver.setHold_same]
      rw [Bool.eq_false_iff.2 hw, Bool.or_false, ← Option.not_isSome_iff_eq_none.1 hw]
  unfold Driver.holdFault
  dsimp only
  split
  · next hs => exact ⟨[], hwindow (HoldChannel.faulted_of_on (.inl hs)), hquiet⟩
  · next hs => exact ⟨[], hwindow (HoldChannel.faulted_of_on (.inr hs)), hquiet⟩
  · next hs =>
    refine ⟨[.releaseUnconfirmed id], ?_, fun n hn => by rw [List.mem_singleton.1 hn]; rfl⟩
    rw [HoldChannel.faulted_of_releasing hs]
  · next hs => exact ⟨[], by rw [Driver.setHold_same (HoldChannel.faulted_of_out (.inl hs))], hquiet⟩
  · next on hs => exact ⟨[], by rw [Driver.setHold_same (HoldChannel.faulted_of_out (.inr ⟨on, hs⟩))], hquiet⟩

theorem Driver.holdFault_spec (d : Driver) (id : HoldId) :
    (∀ h, (d.holdFault id).1.hold h = if h = id then (d.hold h).faulted else d.hold h)
      ∧ (∀ p, (d.holdFault id).1.pulse p = d.pulse p) ∧ (∀ l, (d.holdFault id).1.level l = d.level l)
      ∧ (d.holdFault id).1.pulseQueue = d.pulseQueue ∧ ∀ n ∈ (d.holdFault id).2, n.ofFault = true := by
  obtain ⟨ns, heq, hns⟩ := d.holdFault_eq id
  rw [heq]
  refine ⟨fun h => ?_, fun p => d.pulse_setHold .., fun l => d.level_setHold .., d.pulseQueue_setHold .., hns⟩
  by_cases hh : h = id
  · rw [if_pos hh, hh]
    exact d.hold_setHold_self ..
  · rw [if_neg hh]
    exact d.hold_setHold_of_ne _ hh

/-- The fault's begin: each channel's record by itself, LEVEL channels and queue kept. -/
theorem Driver.faultBegins_spec (d : Driver) :
    (∀ p, d.faultBegins.1.pulse p = (d.pulse p).faulted) ∧ (∀ h, d.faultBegins.1.hold h = (d.hold h).faulted)
      ∧ (∀ l, d.faultBegins.1.level l = d.level l) ∧ d.faultBegins.1.pulseQueue = d.pulseQueue
      ∧ ∀ n ∈ d.faultBegins.2, n.ofFault = true := by
  obtain ⟨p₁, h₁, l₁, q₁, n₁⟩ := d.pulseFault_spec (.trip .a)
  obtain ⟨p₂, h₂, l₂, q₂, n₂⟩ := (d.pulseFault (.trip .a)).1.pulseFault_spec (.trip .b)
  unfold Driver.faultBegins
  simp only [Driven.next_fst, Driven.next_snd]
  set d₁ := (d.pulseFault (.trip .a)).1
  set d₂ := (d₁.pulseFault (.trip .b)).1
  obtain ⟨h₃, p₃, l₃, q₃, n₃⟩ := d₂.holdFault_spec .valve
  set d₃ := (d₂.holdFault .valve).1
  obtain ⟨h₄, p₄, l₄, q₄, n₄⟩ := d₃.holdFault_spec .coolstop
  set d₄ := (d₃.holdFault .coolstop).1
  obtain ⟨p₅, h₅, l₅, q₅, n₅⟩ := d₄.pulseFault_spec (.close .a)
  set d₅ := (d₄.pulseFault (.close .a)).1
  obtain ⟨p₆, h₆, l₆, q₆, n₆⟩ := d₅.pulseFault_spec (.close .b)
  refine ⟨fun p => ?_, fun h => ?_, fun l => ?_, ?_, fun n hn => ?_⟩
  · rw [p₆, p₅, p₄, p₃, p₂, p₁]
    rcases p with (_ | _) | (_ | _) <;> simp
  · rw [h₆, h₅, h₄, h₃, h₂, h₁]
    cases h <;> simp
  · rw [l₆, l₅, l₄, l₃, l₂, l₁]
  · rw [q₆, q₅, q₄, q₃, q₂, q₁]
  · simp only [List.mem_append] at hn
    rcases hn with ((((hn | hn) | hn) | hn) | hn) | hn
    exacts [n₁ n hn, n₂ n hn, n₃ n hn, n₄ n hn, n₅ n hn, n₆ n hn]

end

end Sys2Proof.Machine
end


section
/-! PROOFS. Bad scans, whole: the acting blocks as the scan fault begins (R136, R144, R166, R173). -/

namespace Sys2Proof.Machine

section
variable {a b c : Actors} {v : View}

/-! ### Acts that leave LEVEL and HOLD channels alone -/

/-- No LEVEL channel is touched, and a HOLD channel only where it is not asserted and a SAFE wait stands. -/
structure Actors.Abides (a b : Actors) : Prop where
  level : ∀ id, b.drv.level id = a.drv.level id
  hold : ∀ id, (a.drv.hold id).asserted = true ∨ a.seq.safeWait = false → b.drv.hold id = a.drv.hold id
  wait : a.seq.safeWait = false → b.seq.safeWait = false

theorem Actors.Abides.trans (h : a.Abides b) (k : b.Abides c) : a.Abides c where
  level id := (k.level id).trans (h.level id)
  hold id hid := (k.hold id (hid.imp (fun ha => by rw [h.hold id (.inl ha)]; exact ha) h.wait)).trans (h.hold id hid)
  wait := k.wait ∘ h.wait

theorem Actors.Abides.of_same (hdrv : a.drv.SameBut b.drv) (hwait : b.seq.safeWait = a.seq.safeWait) : a.Abides b :=
  ⟨hdrv.1, fun id _ => hdrv.2 id, fun h => hwait.trans h⟩

theorem Actors.abides_hear (a : Actors) (v : View) (n : Notice) : a.Abides (a.hear v n) := by
  cases n with
  | tripOutcome p =>
    show a.Abides (a.tripOutcome v)
    unfold Actors.tripOutcome
    split
    · next h =>
      rw [Bool.and_eq_true] at h
      have hasserted : ∀ (d : Driver) (x id : HoldId), (d.hold id).asserted = true →
          (d.assertHold v.scanner v.now x).hold id = d.hold id := by
        intro d x id hid
        unfold Driver.assertHold
        dsimp only
        split
        · rfl
        · next hx => exact d.hold_setHold_of_ne _ fun heq => hx (by rw [← heq]; exact hid)
      refine ⟨fun id => (Driver.level_assertHold _ _ _ _ id).trans (Driver.level_assertHold _ _ _ _ id), fun id hid => ?_,
        fun _ => rfl⟩
      rcases hid with hid | hid
      · have hone := hasserted a.drv .valve id hid
        exact (hasserted _ .coolstop id (by rw [hone]; exact hid)).trans hone
      · rw [hid] at h
        exact absurd h.1 Bool.false_ne_true
    · exact .of_same (.refl _) rfl
  | _ => exact .of_same (.refl _) rfl

theorem Actors.abides_hearAll (v : View) (ns : List Notice) (a : Actors) :
    a.Abides (ns.foldl (fun a n => a.hear v n) a) := by
  induction ns generalizing a with
  | nil => exact .of_same (.refl _) rfl
  | cons n ns ih => exact (a.abides_hear v n).trans (ih _)

theorem Actors.abides_drive (f : Driver → Driven) (h : a.drv.SameBut (f a.drv).1) : a.Abides (a.drive v f) := by
  exact Actors.Abides.trans (b := a.withDrv (f a.drv).1) (.of_same h rfl) (Actors.abides_hearAll v _ _)

/-- Outside ENERGIZING the arbiter at an event's end touches no LEVEL channel. -/
theorem State.abides_endEvent (s old : State) (hphase : s.act.coord.phase ≠ .energizing) :
    s.act.Abides (s.endEvent old).act := by
  unfold State.endEvent
  split
  · show s.act.Abides (s.act.serve s.view)
    rw [s.act.serve_eq_drive s.view hphase]
    exact Actors.abides_drive _ (Driver.sameBut_serve ..)
  · exact .of_same (.refl _) rfl

theorem Actors.abides_setPhase (a : Actors) (v : View) (phase : Phase) : a.Abides (a.setPhase v phase) := by
  refine .of_same ?_ (by rw [a.setPhase_seq v phase])
  rw [Actors.setPhase_drv_eq]
  split
  · exact a.drv.sameBut_leaveEnergizing v.now
  · exact .refl _

/-! ### A PULSE channel neither queued nor energized -/

/-- A PULSE channel that neither waits in the queue nor is energized. -/
structure Driver.Apart (d : Driver) (id : PulseId) : Prop where
  out : id ∉ d.pulseQueue
  unqueued : (d.pulse id).state ≠ .queued
  unfired : (d.pulse id).state ≠ .firing

theorem Driver.stopClose_apart {d : Driver} {id : PulseId} (h : d.Apart id) (now : Stamp) (p : Pdu) :
    (d.stopClose now p).pulse id = d.pulse id ∧ (d.stopClose now p).Apart id := by
  have hpulse : (d.stopClose now p).pulse id = d.pulse id := by
    by_cases hp : id = .close p
    · rw [Driver.stopClose_of_idle now (hp ▸ h.unqueued) (hp ▸ h.unfired)]
    · unfold Driver.stopClose
      split
      · rw [Driver.pulse_withQueue]
        exact d.pulse_setPulse_of_ne _ hp
      · rw [Driver.pulse_withGap]
        exact d.pulse_setPulse_of_ne _ hp
      all_goals rfl
  exact ⟨hpulse, fun hin => h.out ((d.queue_stopClose now p).subset hin), by rw [hpulse]; exact h.unqueued,
    by rw [hpulse]; exact h.unfired⟩

theorem Actors.setPhase_apart {id : PulseId} (h : a.drv.Apart id) (phase : Phase) :
    (a.setPhase v phase).drv.pulse id = a.drv.pulse id ∧ (a.setPhase v phase).drv.Apart id := by
  rw [Actors.setPhase_drv_eq]
  split
  · rw [Driver.leaveEnergizing_fst]
    obtain ⟨hone, hapart⟩ := Driver.stopClose_apart h v.now .a
    obtain ⟨htwo, hlast⟩ := Driver.stopClose_apart hapart v.now .b
    exact ⟨htwo.trans hone, hlast⟩
  · exact ⟨rfl, h⟩

/-! ### The acting blocks as the fault begins -/

/-- The fault's begin as the driver's notices reach the sequencer: coordinator, stage and floor stand. -/
theorem Actors.operate_fault (a : Actors) (v : View) :
    a.operate v Driver.faultBegins = a.drive v Driver.faultBegins := by
  have hall : ∀ (ns : List Notice) (b : Actors), (∀ n ∈ ns, n.ofFault = true) →
      ns.foldl (fun a n => a.report v n) b = ns.foldl (fun a n => a.hear v n) b := by
    intro ns
    induction ns with
    | nil => exact fun _ _ => rfl
    | cons n ns ih =>
      intro b h
      have hone : b.report v n = b.hear v n := by
        have hn := h n List.mem_cons_self
        cases n with
        | tripOutcome | closeUnconfirmed | releaseUnconfirmed => rfl
        | closeConfirmed | closeCut | closeWithdrawn | closeFailed | closeRefused | releaseConfirmed | releaseFailed
        | failedFlag => cases hn
      rw [List.foldl_cons, List.foldl_cons, hone]
      exact ih _ fun n hn => h n (List.mem_cons_of_mem _ hn)
  exact hall _ _ a.drv.faultBegins_spec.2.2.2.2

theorem Actors.hearAll_pulse (v : View) (ns : List Notice) (a : Actors) (id : PulseId) :
    (ns.foldl (fun a n => a.hear v n) a).drv.pulse id = a.drv.pulse id
      ∧ (ns.foldl (fun a n => a.hear v n) a).drv.pulseQueue = a.drv.pulseQueue := by
  induction ns generalizing a with
  | nil => exact ⟨rfl, rfl⟩
  | cons n ns ih =>
    have hone : (a.hear v n).drv.pulse id = a.drv.pulse id ∧ (a.hear v n).drv.pulseQueue = a.drv.pulseQueue := by
      cases n with
      | tripOutcome p =>
        show (a.tripOutcome v).drv.pulse id = _ ∧ (a.tripOutcome v).drv.pulseQueue = _
        unfold Actors.tripOutcome
        split
        · refine ⟨a.drv.pulse_assertSafe v id, ?_⟩
          show (a.drv.assertSafe v).pulseQueue = _
          rw [Driver.assertSafe, Driver.pulseQueue_assertHold, Driver.pulseQueue_assertHold]
        · exact ⟨rfl, rfl⟩
      | _ => exact ⟨rfl, rfl⟩
    exact ⟨(ih _).1.trans hone.1, (ih _).2.trans hone.2⟩

theorem Actors.stop_eq (a : Actors) (v : View) : a.stop v = (a.leaveTaken v).setPhase v .awaitPermit :=
  (a.leaveTaken v).enterAwaitPermit_of_no_leave v rfl (a.leaveTaken_key v)

/-- What the coordinator does as the fault begins: the turn before ENERGIZING waits for leave, ENERGIZING stops. -/
theorem Actors.onFault_cases (hfault : v.scanner.fault = true) :
    (a.onFault v = a.setPhase v .awaitPermit ∧ a.coord.phase ∈ [.bidding, .contest, .backoff])
      ∨ (a.onFault v = a.stop v ∧ a.coord.phase = .energizing)
      ∨ (a.onFault v = a ∧ a.coord.phase ∉ [.bidding, .contest, .backoff] ∧ a.coord.phase ≠ .energizing) := by
  have hwaits : a.enterAwaitPermit v = a.setPhase v .awaitPermit :=
    Actors.checkAuthority_of_not fun _ => (authority_fails_iff _ _).2 (.inr (.inl hfault))
  unfold Actors.onFault
  cases a.coord.phase with
  | bidding | contest | backoff => exact .inl ⟨hwaits, by decide⟩
  | energizing => exact .inr (.inl ⟨rfl, rfl⟩)
  | none | quietWait | awaitPermit | rejoin => exact .inr (.inr ⟨rfl, by decide, nofun⟩)

/-- The coordinator's part touches no channel but the closes it takes back, and leaves ENERGIZING. -/
theorem Actors.onFault_spec (hfault : v.scanner.fault = true) :
    a.Abides (a.onFault v) ∧ (a.onFault v).coord.phase ≠ .energizing
      ∧ ∀ id, a.drv.Apart id → (a.onFault v).drv.pulse id = a.drv.pulse id ∧ (a.onFault v).drv.Apart id := by
  rcases Actors.onFault_cases (a := a) hfault with ⟨h, -⟩ | ⟨h, -⟩ | ⟨h, -, hout⟩
  · rw [h, Actors.setPhase_phase]
    exact ⟨a.abides_setPhase v .awaitPermit, nofun, fun id hid => Actors.setPhase_apart hid .awaitPermit⟩
  · rw [h, Actors.stop_eq, Actors.setPhase_phase]
    have haside : a.Abides (a.leaveTaken v) := .of_same (.refl _) rfl
    exact ⟨haside.trans (Actors.abides_setPhase _ v .awaitPermit), nofun,
      fun id hid => Actors.setPhase_apart (a := a.leaveTaken v) hid .awaitPermit⟩
  · rw [h]
    exact ⟨.of_same (.refl _) rfl, hout, fun id hid => ⟨rfl, hid⟩⟩

/-- The channels once the driver has taken the fault's begin and the sequencer its notices. -/
theorem Actors.operate_fault_spec (a : Actors) (v : View) :
    (∀ id, (a.operate v Driver.faultBegins).drv.pulse id = (a.drv.pulse id).faulted)
      ∧ (a.operate v Driver.faultBegins).drv.pulseQueue = a.drv.pulseQueue
      ∧ (∀ id, (a.drv.hold id).faulted.asserted = true ∨ a.seq.safeWait = false →
        (a.operate v Driver.faultBegins).drv.hold id = (a.drv.hold id).faulted)
      ∧ (∀ id, (a.operate v Driver.faultBegins).drv.level id = a.drv.level id)
      ∧ (a.seq.safeWait = false → (a.operate v Driver.faultBegins).seq.safeWait = false) := by
  obtain ⟨hpulse, hhold, hlevel, hqueue, -⟩ := a.drv.faultBegins_spec
  rw [a.operate_fault v]
  unfold Actors.drive
  generalize a.drv.faultBegins = r at *
  obtain ⟨d, ns⟩ := r
  have habides := Actors.abides_hearAll v ns (a.withDrv d)
  refine ⟨fun id => ((Actors.hearAll_pulse v ns (a.withDrv d) id).1).trans (hpulse id),
    ((Actors.hearAll_pulse v ns (a.withDrv d) (.trip .a)).2).trans hqueue, fun id hid => ?_,
    fun id => (habides.level id).trans (hlevel id), habides.wait⟩
  refine (habides.hold id ?_).trans (hhold id)
  rw [Actors.withDrv_drv, hhold id]
  exact hid

/-- The channels once driver and coordinator have taken the fault's begin. -/
theorem Actors.faultBegins_spec (a : Actors) (v : View) (hfault : v.scanner.fault = true) :
    (a.faultBegins v).coord.phase ≠ .energizing
      ∧ (∀ id, (a.drv.pulse id).state = .checking → id ∉ a.drv.pulseQueue →
        (a.faultBegins v).drv.pulse id = (a.drv.pulse id).toSpent true ∧ id ∉ (a.faultBegins v).drv.pulseQueue)
      ∧ (∀ id, (a.drv.hold id).faulted.asserted = true ∨ a.seq.safeWait = false →
        (a.faultBegins v).drv.hold id = (a.drv.hold id).faulted)
      ∧ (∀ id, (a.faultBegins v).drv.level id = a.drv.level id)
      ∧ (a.seq.safeWait = false → (a.faultBegins v).seq.safeWait = false) := by
  obtain ⟨hpulse, hqueue, hhold, hlevel, hwait⟩ := a.operate_fault_spec v
  have hbegins : a.faultBegins v = ((a.operate v Driver.faultBegins).onFault v).urgent v := rfl
  rw [hbegins, Actors.urgent_coord, Actors.urgent_drv, Actors.urgent_seq]
  generalize a.operate v Driver.faultBegins = b at *
  obtain ⟨habides, hphase, hapart⟩ := Actors.onFault_spec (a := b) hfault
  refine ⟨hphase, fun id hchecking hout => ?_, fun id hid => ?_, fun id => (habides.level id).trans (hlevel id),
    fun hw => habides.wait (hwait hw)⟩
  · have hspent : b.drv.pulse id = (a.drv.pulse id).toSpent true := (hpulse id).trans (if_pos hchecking)
    obtain ⟨hlast, haway⟩ := hapart id ⟨by rwa [hqueue], by rw [hspent]; exact nofun, by rw [hspent]; exact nofun⟩
    exact ⟨hlast.trans hspent, haway.out⟩
  · have hone := hhold id hid
    rw [habides.hold id (hid.imp (fun h => by rw [hone]; exact h) hwait), hone]

/-- The turn as the fault begins (R166, R173). -/
theorem Actors.faultBegins_turn (a : Actors) (v : View) (hfault : v.scanner.fault = true) :
    (a.coord.phase ∈ [.bidding, .contest, .backoff] → (a.faultBegins v).coord.phase = .awaitPermit)
      ∧ (a.coord.phase = .energizing → (a.faultBegins v).coord.phase = .awaitPermit ∧ (a.faultBegins v).coord.permit = false
        ∧ (a.faultBegins v).coord.step = .none ∧ (a.faultBegins v).coord.claimOutstanding = false
        ∧ (a.faultBegins v).seq.stage = a.seq.stage) := by
  have hop : Actors.Asks False False a (a.operate v Driver.faultBegins) := by
    rw [a.operate_fault v]
    exact a.asks_drive v _
  have hcoord : (a.faultBegins v).coord = ((a.operate v Driver.faultBegins).onFault v).coord := rfl
  have hseq : (a.faultBegins v).seq = ((a.operate v Driver.faultBegins).onFault v).seq := rfl
  rw [hcoord, hseq, ← hop.coord, show a.seq.stage = (a.operate v Driver.faultBegins).seq.stage by rw [hop.seq]]
  generalize a.operate v Driver.faultBegins = b
  rcases Actors.onFault_cases (a := b) hfault with ⟨h, hin⟩ | ⟨h, hen⟩ | ⟨-, hout, hnot⟩
  · rw [h]
    exact ⟨fun _ => b.setPhase_phase v .awaitPermit, fun hen => absurd hin (by rw [hen]; decide)⟩
  · obtain ⟨hstopped, hkept, -⟩ := Actors.stop_of_energizing (v := v) hen
    rw [h, hstopped, hkept]
    exact ⟨fun _ => rfl, fun _ => ⟨rfl, rfl, rfl, rfl, rfl⟩⟩
  · exact ⟨fun hin => absurd hin hout, fun hen => absurd hen hnot⟩

theorem Actors.faultBegins_due {a : Actors} (v : View) (hline : a.line.Sound) :
    (a.faultBegins v).line.urgentDue = true ∧ (a.faultBegins v).line.Sound := by
  have hreach := (a.reach_operate v _ (Driver.moves_faultBegins _)).trans (Actors.reach_onFault _ v)
  exact ⟨LineUnit.urgentDue_urgent _ _ (hreach.line.sound hline).nonempty, (a.reach_faultBegins v).line.sound hline⟩

end

/-! ### Scans -/

theorem value_of_dropped {old new : Scanner} (h : new.inputs = old.inputs.map .drop) (i : Nat) : new.value i = old.value i := by
  unfold Scanner.value
  rw [h, List.getElem?_map]
  cases old.inputs[i]? <;> rfl

/-- A bad scan changes no value. -/
theorem Scanner.value_bad {sc : Scanner} {frame : BitVec 24} (hbad : frame.extractLsb' 16 8 ≠ 0x2D) (i : Nat) :
    (sc.complete frame).value i = sc.value i := by
  refine value_of_dropped ?_ i
  cases hfault : sc.fault with
  | true => rw [Scanner.complete_break hfault hbad]
  | false =>
    rw [Scanner.complete_bad hfault hbad]
    split <;> rfl

/-- A scan that changes no value and neither begins nor ends a fault is the scanner's alone. -/
theorem State.scanned_quiet {s : State} {frame : BitVec 24} (hfault : (s.scanner.complete frame).fault = s.scanner.fault)
    (hvalues : ∀ i ∈ List.range 16, (s.scanner.complete frame).value i = s.scanner.value i) :
    s.scanned frame = { s with scanner := s.scanner.complete frame } := by
  have hact : s.act.afterScan ({ s with scanner := s.scanner.complete frame } : State).view s.scanner = s.act := by
    unfold Actors.afterScan
    rw [show ({ s with scanner := s.scanner.complete frame } : State).view.scanner = s.scanner.complete frame from rfl,
      changedInputs_of_none hvalues, hfault]
    cases s.scanner.fault <;> rfl
  exact congrArg (fun a => ({ s with scanner := s.scanner.complete frame, act := a } : State)) hact

theorem State.completeScan_of_known {s : State} {frame : BitVec 24}
    (h : (s.scanner.complete frame).known = s.scanner.known) : s.completeScan frame = s.scanned frame := by
  unfold State.completeScan
  dsimp only
  rw [h, Bool.not_and_self]
  rfl

/-- A scan taken by the scanner alone, whole. -/
theorem State.exec_scan_quiet {s : State} {frame : BitVec 24} (hscanning : s.scanner.scanning = true)
    (hfault : (s.scanner.complete frame).fault = s.scanner.fault)
    (hvalues : ∀ i ∈ List.range 16, (s.scanner.complete frame).value i = s.scanner.value i)
    (hknown : (s.scanner.complete frame).known = s.scanner.known) :
    exec (.scanCompletion frame) s = .next { s with scanner := s.scanner.complete frame } := by
  rw [State.exec_scan hscanning, State.completeScan_of_known hknown, State.scanned_quiet hfault hvalues]
  exact congrArg Host.Outcome.next (State.endEvent_of_calm _ s rfl rfl)

/-- The third bad scan: the acting blocks take the fault's begin alone. -/
theorem State.scanned_fault {s : State} {frame : BitVec 24} (hold : s.scanner.fault = false)
    (hnew : (s.scanner.complete frame).fault = true)
    (hvalues : ∀ i ∈ List.range 16, (s.scanner.complete frame).value i = s.scanner.value i) :
    s.scanned frame = { s with
      scanner := s.scanner.complete frame
      act := s.act.faultBegins ({ s with scanner := s.scanner.complete frame } : State).view } := by
  have hact : s.act.afterScan ({ s with scanner := s.scanner.complete frame } : State).view s.scanner
      = s.act.faultBegins ({ s with scanner := s.scanner.complete frame } : State).view := by
    unfold Actors.afterScan
    rw [show ({ s with scanner := s.scanner.complete frame } : State).view.scanner = s.scanner.complete frame from rfl,
      changedInputs_of_none hvalues, hold, hnew]
    rfl
  exact congrArg (fun a => ({ s with scanner := s.scanner.complete frame, act := a } : State)) hact

/-- What a completed scan leaves of the state: scanner, start-up and acting blocks. -/
theorem State.completeScan_frame (s : State) (frame : BitVec 24) :
    s.completeScan frame = { s with
        scanner := s.scanner.complete frame, startup := (s.completeScan frame).startup, act := (s.completeScan frame).act }
      ∧ (s.scanned frame).act.line.Served s.clock (s.completeScan frame).act.line := by
  unfold State.completeScan
  dsimp only
  split
  · unfold State.onKnown
    split
    · exact ⟨rfl, ((s.scanned frame).act.adopt_kept (s.scanned frame).view (adoptedStage (s.scanned frame).view)).2⟩
    · exact ⟨rfl, .refl _⟩
    · exact ⟨rfl, .refl _⟩
  · exact ⟨rfl, .refl _⟩

/-- Settles O42: the scan timer, the bad scans that count, the third, and the bad scans of a fault. -/
theorem badScansRaiseTheFault : Obligations.BadScansRaiseTheFault := by
  refine ⟨fun s hdue => ?_, fun s hearly => ?_, fun s frame hidle => ?_, fun s frame hsound hscanning hbad hfault hcount => ?_,
    fun s frame hline hscanning hbad hfault hcount => ?_, fun s frame hpulse hscanning hbad hfault hcount hstate => ?_,
    fun s frame hsound hscanning hbad hfault => ?_⟩
  · refine ⟨_, congrArg Host.Outcome.next (s.eventWhen_calm (decide_eq_true hdue) _ rfl rfl rfl), rfl, rfl, rfl, rfl, ?_, rfl, ?_, rfl⟩
    · decide
    · decide
  · exact congrArg Host.Outcome.next (State.eventWhen_of_not _ _ (decide_eq_false (Nat.not_le.2 hearly)))
  · exact congrArg Host.Outcome.next (State.eventWhen_of_not _ _ hidle)
  · have hcomplete := (Scanner.complete_bad (frame := frame) hfault hbad).trans (if_pos hcount)
    have hlatch : (s.scanner.known || (s.scanner.inputs.map ContactInput.drop).all fun c => c.value ≠ .unknown)
        = s.scanner.known := by
      refine Bool.or_eq_left_iff_imp.2 fun hall => ?_
      obtain ⟨-, -, -, -, -, -, -, -, hlatched⟩ := hsound
      exact hlatched fun c hc => of_decide_eq_true (List.all_eq_true.1 hall c.drop (List.mem_map_of_mem hc))
    rw [hlatch] at hcomplete
    rw [State.exec_scan_quiet hscanning (by rw [hcomplete]) (fun i _ => Scanner.value_bad hbad i) (by rw [hcomplete]), hcomplete]
    rfl
  · have hcomplete := (Scanner.complete_bad (frame := frame) hfault hbad).trans (if_neg (by omega))
    have hscanned := State.scanned_fault (frame := frame) hfault (by rw [hcomplete]) fun i _ => Scanner.value_bad hbad i
    set v := ({ s with scanner := s.scanner.complete frame } : State).view with hv
    have hvfault : v.scanner.fault = true := by
      show (s.scanner.complete frame).fault = true
      rw [hcomplete]
    obtain ⟨hwaits, hstops⟩ := s.act.faultBegins_turn v hvfault
    obtain ⟨hframe, hserved⟩ := s.completeScan_frame frame
    have hend := (s.completeScan frame).stepOnly_endEvent s
    have hwact : (s.scanned frame).act = s.act.faultBegins v := by rw [hscanned]
    have hwdue := s.act.faultBegins_due v hline
    rw [← hwact] at hwaits hstops hwdue
    have hsame : (s.completeScan frame).endEvent s = { s with
        scanner := s.scanner.complete frame, startup := ((s.completeScan frame).endEvent s).startup
        act := ((s.completeScan frame).endEvent s).act } := by
      rw [State.endEvent_eq, hframe]
    have hscanner : ((s.completeScan frame).endEvent s).scanner = s.scanner.complete frame := by rw [hsame]
    refine ⟨_, State.exec_scan hscanning frame, ?_, ?_, hscanner.trans hcomplete, fun hrunning hphase => ?_,
      fun hrunning hphase => ?_⟩
    · rw [hscanner]
      exact hsame
    · rw [hend.line]
      exact hserved.urgentDue hwdue.2 hwdue.1
    · rw [hend.coord, State.completeScan_of_running (by rw [hrunning]; exact nofun)]
      exact hwaits hphase
    · rw [State.completeScan_of_running (frame := frame) (by rw [hrunning]; exact nofun)] at hend ⊢
      obtain ⟨hnew, hpermit, hstep, hclaim, hstage⟩ := hstops hphase
      rw [hend.step hstep, hend.coord, hend.seq]
      exact ⟨hnew, hpermit, rfl, hclaim, hstage⟩
  · have hcomplete := (Scanner.complete_bad (frame := frame) hfault hbad).trans (if_neg (by omega))
    have hscanned := State.scanned_fault (frame := frame) hfault (by rw [hcomplete]) fun i _ => Scanner.value_bad hbad i
    obtain ⟨hphase, hpulses, hholds, hlevels, hwait⟩ := s.act.faultBegins_spec
      ({ s with scanner := s.scanner.complete frame } : State).view (by
        show (s.scanner.complete frame).fault = true
        rw [hcomplete])
    have hwact : (s.scanned frame).act = s.act.faultBegins ({ s with scanner := s.scanner.complete frame } : State).view := by
      rw [hscanned]
    rw [← hwact] at hphase hpulses hholds hlevels hwait
    have habides := (s.scanned frame).abides_endEvent s hphase
    have hexec := State.exec_scan hscanning frame
    rw [State.completeScan_of_running hstate] at hexec
    refine ⟨_, hexec, fun id hid hchecking => ?_, fun id _ hon => ?_, fun hnone id _ hreleasing => ?_,
      fun id _ => (habides.level id).trans (hlevels id)⟩
    · have hout : id ∉ s.act.drv.pulseQueue := fun hin => by
        obtain ⟨-, hqueued, -⟩ := hpulse
        cases hchecking.symm.trans ((hqueued id hid).1 hin)
      obtain ⟨hspent, hqueue⟩ := hpulses id hchecking hout
      exact ((s.scanned frame).endEvent_pulse_of_not_queued s hphase hqueue).trans hspent
    · have hasserted : (s.act.drv.hold id).faulted.asserted = true := by
        rw [HoldChannel.faulted_of_on hon]
        unfold HoldChannel.asserted
        rcases hon with h | h
        · rw [h]
        · rw [h]
      have hone := hholds id (.inl hasserted)
      rw [habides.hold id (.inl (by rw [hone]; exact hasserted)), hone, HoldChannel.faulted_of_on hon]
    · rw [habides.hold id (.inr (hwait hnone)), hholds id (.inr hnone), HoldChannel.faulted_of_releasing hreleasing]
  · have hcomplete := Scanner.complete_break (frame := frame) hfault hbad
    obtain ⟨-, -, -, -, -, -, -, hknown, -⟩ := hsound
    rw [State.exec_scan_quiet hscanning (by rw [hcomplete]) (fun i _ => Scanner.value_bad hbad i)
      (by rw [hcomplete, hknown hfault]), hcomplete, ← hknown hfault]
    rfl

end Sys2Proof.Machine
end


section
/-! PROOFS. Good scans: what the scanner makes of one, in and out of a fault (R143, R145, R146), and the input it hands over. -/

namespace Sys2Proof.Machine

/-! ### The inputs after a good scan -/

theorem compare_value (c : ContactInput) (level : Bool) : (c.compare level).value = c.value := by
  unfold ContactInput.compare
  split
  · rfl
  · split <;> rfl

/-- The record of an input after a good scan that does not end a fault. -/
theorem ContactInput.compare_eq (c : ContactInput) (level : Bool) :
    c.compare level = if c.value = .ofLevel level then ⟨c.value, none, 0⟩
      else if c.candidate = some level then ⟨c.value, c.candidate, c.agreement + 1⟩ else ⟨c.value, some level, 1⟩ := rfl

theorem Scanner.inputs_lt {sc : Scanner} {i : Nat} {c : ContactInput} (hlen : sc.inputs.length = 16)
    (hc : sc.inputs[i]? = some c) : i < 16 := by
  obtain ⟨hi, -⟩ := List.getElem?_eq_some_iff.1 hc
  omega

/-- The records of a good scan in which a value may change. -/
theorem adopted_getElem? {sc : Scanner} {frame : BitVec 24} {i : Nat} {c : ContactInput} (hlen : sc.inputs.length = 16)
    (hc : sc.inputs[i]? = some c) (hagreement : c.agreement ≤ 2) :
    ((compareAll sc.inputs frame).map ContactInput.adopt)[i]? = some
      (if c.value = .ofLevel (frame.getLsbD i) then ⟨c.value, none, 0⟩
        else if c.candidate = some (frame.getLsbD i) then
          if c.agreement = 2 then ⟨.ofLevel (frame.getLsbD i), none, 0⟩ else ⟨c.value, c.candidate, c.agreement + 1⟩
        else ⟨c.value, some (frame.getLsbD i), 1⟩) := by
  rw [List.getElem?_map, compareAll_getElem? (Scanner.inputs_lt hlen hc) hc, Option.map_some,
    ContactInput.adopt_compare_of_agreement _ hagreement]

theorem adopted_length {sc : Scanner} (frame : BitVec 24) (hlen : sc.inputs.length = 16) :
    ((compareAll sc.inputs frame).map ContactInput.adopt).length = 16 :=
  (List.length_map _).trans (compareAll_length frame hlen)

/-- Where no value may change, none does. -/
theorem value_of_compared {old new : Scanner} {frame : BitVec 24} (hlen : old.inputs.length = 16)
    (h : new.inputs = compareAll old.inputs frame) : ∀ i ∈ List.range 16, new.value i = old.value i := by
  intro i hi
  have hi := List.mem_range.1 hi
  have hc : old.inputs[i]? = some old.inputs[i] := List.getElem?_eq_getElem (by omega)
  rw [Scanner.value_of_some hc, Scanner.value_of_some (sc := new) (by rw [h]; exact compareAll_getElem? hi hc), compare_value]

/-- A value that agrees with the reading stands, also at the fault's end. -/
theorem Scanner.value_adopted_of_eq {old new : Scanner} {frame : BitVec 24} {i : Nat} (hlen : old.inputs.length = 16)
    (hnew : new.inputs = (compareAll old.inputs frame).map .adopt) (hi : i < 16)
    (h : old.value i = .ofLevel (frame.getLsbD i)) : new.value i = old.value i := by
  have hc : old.inputs[i]? = some old.inputs[i] := List.getElem?_eq_getElem (by omega)
  have hsame : old.inputs[i].value = .ofLevel (frame.getLsbD i) := by rw [← Scanner.value_of_some hc, h]
  have hrecord : new.inputs[i]? = some (old.inputs[i].compare (frame.getLsbD i)).adopt := by
    rw [hnew, List.getElem?_map, compareAll_getElem? hi hc]
    rfl
  rw [Scanner.value_of_some hrecord, ContactInput.adopt_compare, if_pos hsame, Scanner.value_of_some hc]

/-! ### What a scan may touch -/

/-- What the state offers the acting blocks of a scan. -/
def State.scanView (s : State) (frame : BitVec 24) : View := ({ s with scanner := s.scanner.complete frame } : State).view

/-- The outcome of a scan, of whatever kind: scanner, start-up and acting blocks alone may differ. -/
theorem State.exec_scan_frame {s : State} (hscanning : s.scanner.scanning = true) (frame : BitVec 24) :
    ∃ t, exec (.scanCompletion frame) s = .next t ∧ t = { s with scanner := t.scanner, startup := t.startup, act := t.act }
      ∧ t.scanner = s.scanner.complete frame := by
  have hsame : (s.completeScan frame).endEvent s = { s with
      scanner := s.scanner.complete frame, startup := ((s.completeScan frame).endEvent s).startup
      act := ((s.completeScan frame).endEvent s).act } := by
    rw [State.endEvent_eq, (s.completeScan_frame frame).1]
  have hscanner : ((s.completeScan frame).endEvent s).scanner = s.scanner.complete frame := by rw [hsame]
  refine ⟨_, State.exec_scan hscanning frame, ?_, hscanner⟩
  rw [hscanner]
  exact hsame

/-! ### A change handed over -/

/-- A good scan outside a fault in which input `i` changes to `level`. -/
structure State.HandsOver (s : State) (frame : BitVec 24) (i : Nat) (level : Bool) : Prop where
  scanning : s.scanner.scanning = true
  good : frame.extractLsb' 16 8 = 0x2D
  fault : s.scanner.fault = false
  length : s.scanner.inputs.length = 16
  within : i < 16
  input : ∃ c, s.scanner.inputs[i]? = some c ∧ c.value ≠ .ofLevel (frame.getLsbD i)
    ∧ c.candidate = some (frame.getLsbD i) ∧ c.agreement = 2
  bit : frame.getLsbD i = level

section
variable {s : State} {frame : BitVec 24} {i : Nat} {level : Bool}

theorem State.HandsOver.of_third {c : ContactInput} (hsound : s.scanner.Sound) (hscanning : s.scanner.scanning = true)
    (hgood : frame.extractLsb' 16 8 = 0x2D) (hfault : s.scanner.fault = false) (hc : s.scanner.inputs[i]? = some c)
    (hvalue : c.value ≠ .ofLevel level) (hcandidate : c.candidate = some level) (hagreement : c.agreement = 2)
    (hbit : frame.getLsbD i = level) : s.HandsOver frame i level where
  scanning := hscanning
  good := hgood
  fault := hfault
  length := hsound.1
  within := Scanner.inputs_lt hsound.1 hc
  input := ⟨c, hc, by rwa [hbit], by rwa [hbit], hagreement⟩
  bit := hbit

theorem State.HandsOver.calm (h : s.HandsOver frame i level) : (s.scanner.complete frame).fault = false := by
  rw [Scanner.complete_good h.fault h.good]
  exact h.fault

theorem State.HandsOver.value (h : s.HandsOver frame i level) : (s.scanner.complete frame).value i = .ofLevel level := by
  obtain ⟨c, hc, hvalue, hcandidate, hagreement⟩ := h.input
  rw [Scanner.value_good_third h.fault h.good h.within hc hvalue hcandidate hagreement, h.bit]

theorem State.HandsOver.active (h : s.HandsOver frame i level) : (s.scanView frame).scanner.active i = level :=
  Scanner.active_of_value h.value

theorem State.HandsOver.changed (h : s.HandsOver frame i level) : i ∈ changedInputs s.scanner (s.scanner.complete frame) := by
  obtain ⟨c, hc, hvalue, -, -⟩ := h.input
  refine List.mem_filter.2 ⟨List.mem_range.2 h.within, decide_eq_true ?_⟩
  rw [h.value, Scanner.value_of_some hc, ← h.bit]
  exact hvalue

/-- The acting blocks take the changed inputs in their order, and nothing else. -/
theorem State.HandsOver.scanned_act (h : s.HandsOver frame i level) : (s.scanned frame).act
    = (changedInputs s.scanner (s.scanner.complete frame)).foldl (fun a i => a.onInput (s.scanView frame) i) s.act :=
  s.act.afterScan_calm h.fault h.calm

/-- Where no other reading differs from its value, that input alone is handed over. -/
theorem State.HandsOver.alone (h : s.HandsOver frame i level) (hstate : s.startup.state ≠ .awaitingInputs)
    (hothers : ∀ j ∈ List.range 16, j ≠ i → s.scanner.value j = .ofLevel (frame.getLsbD j)) :
    exec (.scanCompletion frame) s = .next (({ s with
        scanner := s.scanner.complete frame, act := s.act.onInput (s.scanView frame) i } : State).endEvent s)
      ∧ ∀ j ∈ List.range 16, j ≠ i → (s.scanner.complete frame).value j = s.scanner.value j := by
  obtain ⟨c, hc, hvalue, hcandidate, hagreement⟩ := h.input
  obtain ⟨hscanned, -, hkept, -⟩ := State.scanned_one h.length h.good h.fault h.within hc hvalue hcandidate hagreement hothers
  refine ⟨?_, hkept⟩
  rw [State.exec_scan h.scanning frame, State.completeScan_of_running hstate, hscanned]
  rfl

end

end Sys2Proof.Machine
end


section
/-! PROOFS. One input handed over alone: a release or a close that a step awaits, the restart key (R149, R157, R168, R169), and
the authority check at the fault's end (R146, R157). -/

namespace Sys2Proof.Machine

section
variable {a : Actors} {v : View}

/-! ### What a change makes of its channel -/

theorem Actors.onInput_limit (a : Actors) (v : View) (id : HoldId) :
    a.onInput v (limitContact id) = a.operate v fun d => d.holdInput id (v.scanner.active (limitContact id)) := by
  cases id <;> rfl

theorem Actors.onInput_pdu (a : Actors) (v : View) (p : Pdu) :
    a.onInput v (pduContact p) = a.operate v fun d => d.pduInput v.scanner v.now a.energizing p := by
  cases p <;> rfl

/-- A HOLD channel whose release is confirmed (R125). -/
def HoldChannel.released (c : HoldChannel) : HoldChannel := { c with state := .off, window := none }

theorem Driver.holdInput_released {d : Driver} {id : HoldId} (h : (d.hold id).state = .releasing) :
    d.holdInput id false = (d.setHold id (d.hold id).released, [.releaseConfirmed id]) := by
  unfold Driver.holdInput HoldChannel.released
  dsimp only
  rw [h]

theorem Driver.holdInput_reached {d : Driver} {id : HoldId} (h : (d.hold id).state = .pullIn ∨ (d.hold id).state = .holding) :
    d.holdInput id true = (d.setHold id { d.hold id with window := none }, []) := by
  unfold Driver.holdInput
  dsimp only
  rcases h with h | h
  · rw [h]
  · rw [h]

theorem pduOpen_eq {sc : Scanner} {p : Pdu} {level : Bool} (h : sc.active (pduContact p) = level) : pduOpen sc p = !level := by
  unfold pduOpen
  rw [h]

/-- An awaited close that reads closed in ENERGIZING re-arms the trip of its PDU (R133). -/
theorem Driver.pduInput_closed {d : Driver} {sc : Scanner} (now : Stamp) {p : Pdu}
    (htrip : (d.pulse (.trip p)).state = .spent ∨ (d.pulse (.trip p)).state = .failed)
    (hclose : (d.pulse (.close p)).state = .checking) (hclosed : sc.active (pduContact p) = true) :
    d.pduInput sc now true p = ((d.setPulse (.close p) ((d.pulse (.close p)).toSpent false)).setPulse (.trip p)
      ⟨.ready, none, none, none, false, (d.pulse (.trip p)).failed⟩, [.closeConfirmed p]) := by
  have hsettled : (d.pulse (.trip p)).state ≠ .checking := by
    rintro h
    rw [h] at htrip
    rcases htrip with htrip | htrip <;> cases htrip
  have hkept : (d.setPulse (.close p) ((d.pulse (.close p)).toSpent false)).pulse (.trip p) = d.pulse (.trip p) :=
    d.pulse_setPulse_of_ne _ nofun
  have hrearm := Driver.rearm_of_ended (d := d.setPulse (.close p) ((d.pulse (.close p)).toSpent false)) (p := p) (by rwa [hkept])
  rw [hkept] at hrearm
  have hawaited : awaitedHolds sc (.close p) = true := by
    show (!pduOpen sc p) = true
    rw [pduOpen_eq hclosed]
    rfl
  have hfirst : ((d.pulse (.trip p)).state = .checking && awaitedHolds sc (.trip p)) ≠ true := by simp [hsettled]
  have hsecond : ((d.pulse (.close p)).state = .checking && awaitedHolds sc (.close p)) = true := by simp [hclose, hawaited]
  unfold Driver.pduInput
  dsimp only
  rw [if_neg hfirst]
  show (if ((d.pulse (.close p)).state = .checking && awaitedHolds sc (.close p)) then
      d.confirmPulse sc now true (.close p) else (d, [])) = _
  rw [if_pos hsecond]
  exact congrArg (fun e => ((e, [.closeConfirmed p]) : Driven)) hrearm

/-- The last release step A awaits but one (R168). -/
theorem Actors.onReleased_awaited (hstep : a.coord.step = .a true true) (id : HoldId) :
    a.onReleased v id = a.inStep (.a (id = .coolstop) (id = .valve)) := by
  cases id with
  | valve =>
    unfold Actors.onReleased
    rw [hstep]
    rfl
  | coolstop =>
    unfold Actors.onReleased
    rw [hstep]
    rfl

end

/-! ### The restart key turned (R156, R157) -/

theorem State.key_gives_leave {s : State} {frame : BitVec 24} (h : s.HandsOver frame 7 true)
    (hphase : s.act.coord.phase = .awaitPermit)
    (hleave : s.act.coord.keyWithheld = false ∨ (s.act.coord.permit = true ∧ s.act.line.stuck = false))
    (hmute : s.act.line.mute = none) :
    s.act.onInput (s.scanView frame) 7 = { s.act with
        line := s.act.line.bid s.clock
        seq := { s.act.seq with standDown := none }
        coord := { s.act.coord with phase := .bidding, quietStart := none, stagger := none } } := by
  have hholds : s.act.authorityHolds (s.scanView frame) = true := (Actors.authorityHolds_iff _ _).2
    ⟨hleave.symm.imp_right fun hkey => ⟨h.active, hkey⟩, hmute, h.calm⟩
  show s.act.onKey (s.scanView frame) ((s.scanView frame).scanner.active 7) = _
  rw [h.active]
  exact (Actors.checkAuthority_of_holds hphase hholds).trans
    (s.act.enterBidding_eq (s.scanView frame) (by rw [hphase]; exact nofun) (by rw [hphase]; exact nofun))

theorem State.key_gives_no_leave {s : State} {frame : BitVec 24} (h : s.HandsOver frame 7 true)
    (hfails : s.act.coord.phase ≠ .awaitPermit ∨ s.act.line.mute ≠ none
      ∨ (s.act.coord.keyWithheld = true ∧ (s.act.coord.permit = false ∨ s.act.line.stuck = true))) :
    s.act.onInput (s.scanView frame) 7 = s.act := by
  show s.act.onKey (s.scanView frame) ((s.scanView frame).scanner.active 7) = _
  rw [h.active]
  refine Actors.checkAuthority_of_not fun hphase => (authority_fails_iff _ _).2 ?_
  rcases hfails with hne | hmute | ⟨hkey, hpermit⟩
  · exact absurd hphase hne
  · exact .inl hmute
  · exact .inr (.inr ⟨hpermit, .inr hkey⟩)

/-! ### What a step awaits (R168, R169) -/

section
variable {s : State} {frame : BitVec 24}

/-- A release that step A awaits beside another. -/
theorem State.HandsOver.release_awaited {id : HoldId} (h : s.HandsOver frame (limitContact id) false)
    (hstate : s.startup.state ≠ .awaitingInputs) (hstep : s.act.coord.step = .a true true)
    (hreleasing : (s.act.drv.hold id).state = .releasing)
    (hothers : ∀ j ∈ List.range 16, j ≠ limitContact id → s.scanner.value j = .ofLevel (frame.getLsbD j)) :
    exec (.scanCompletion frame) s = .next { s with
      scanner := s.scanner.complete frame
      act := { s.act with
        drv := s.act.drv.setHold id (s.act.drv.hold id).released
        coord := { s.act.coord with step := .a (id = .coolstop) (id = .valve) } } } := by
  obtain ⟨hexec, -⟩ := h.alone hstate hothers
  have hact : s.act.onInput (s.scanView frame) (limitContact id) = { s.act with
      drv := s.act.drv.setHold id (s.act.drv.hold id).released
      coord := { s.act.coord with step := .a (id = .coolstop) (id = .valve) } } := by
    rw [s.act.onInput_limit, h.active, Actors.operate_of_one (Driver.holdInput_released hreleasing)]
    exact Actors.onReleased_awaited (a := s.act.withDrv (s.act.drv.setHold id (s.act.drv.hold id).released)) hstep id
  rw [hexec, hact]
  exact congrArg Host.Outcome.next (State.endEvent_of_calm _ s (Driver.pulseQueue_setHold ..) (Driver.gap_setHold ..))

/-- A close that step B awaits. -/
theorem State.HandsOver.close_awaited {p : Pdu} {closeA closeB : Bool} (h : s.HandsOver frame (pduContact p) true)
    (hstate : s.startup.state ≠ .awaitingInputs) (hphase : s.act.coord.phase = .energizing)
    (hstep : s.act.coord.step = .b closeA closeB) (hawaited : if p = .a then closeA = true else closeB = true)
    (hclose : (s.act.drv.pulse (.close p)).state = .checking)
    (htrip : (s.act.drv.pulse (.trip p)).state = .spent ∨ (s.act.drv.pulse (.trip p)).state = .failed)
    (hothers : ∀ j ∈ List.range 16, j ≠ pduContact p → s.scanner.value j = .ofLevel (frame.getLsbD j)) :
    exec (.scanCompletion frame) s = .next { s with
      scanner := s.scanner.complete frame
      act := { s.act with
        drv := (s.act.drv.setPulse (.close p) ((s.act.drv.pulse (.close p)).toSpent false)).setPulse (.trip p)
          ⟨.ready, none, none, none, false, (s.act.drv.pulse (.trip p)).failed⟩
        coord := { s.act.coord with
          step := if (if p = .a then closeB else closeA) then .b (p = .b) (p = .a) else .settle (s.clock + 10000) } } } := by
  obtain ⟨hexec, -⟩ := h.alone hstate hothers
  have hen : s.act.energizing = true := decide_eq_true hphase
  have hact : s.act.onInput (s.scanView frame) (pduContact p) = { s.act with
      drv := (s.act.drv.setPulse (.close p) ((s.act.drv.pulse (.close p)).toSpent false)).setPulse (.trip p)
        ⟨.ready, none, none, none, false, (s.act.drv.pulse (.trip p)).failed⟩
      coord := { s.act.coord with
        step := if (if p = .a then closeB else closeA) then .b (p = .b) (p = .a) else .settle (s.clock + 10000) } } := by
    rw [s.act.onInput_pdu, Actors.operate_of_one (by rw [hen]; exact Driver.pduInput_closed _ htrip hclose h.active)]
    exact Actors.onClosed_awaited (a := s.act.withDrv _) hstep hawaited
  rw [hexec, hact]
  refine congrArg Host.Outcome.next (State.endEvent_of_calm _ s ?_ ?_)
  · exact (Driver.pulseQueue_setPulse ..).trans (Driver.pulseQueue_setPulse ..)
  · exact (Driver.gap_setPulse ..).trans (Driver.gap_setPulse ..)

end

/-! ### The authority check at the fault's end -/

/-- A good scan that ends a fault. -/
structure State.EndsFault (s : State) (frame : BitVec 24) : Prop where
  scanning : s.scanner.scanning = true
  sound : s.scanner.Sound
  fault : s.scanner.fault = true
  complete : s.scanner.complete frame = { s.scanner with
    scanning := false, inputs := (compareAll s.scanner.inputs frame).map .adopt, fault := false, badScans := 0, recovery := 0
    known := true }

section
variable {s : State} {frame : BitVec 24}

theorem State.EndsFault.of_third (hsound : s.scanner.Sound) (hscanning : s.scanner.scanning = true)
    (hgood : frame.extractLsb' 16 8 = 0x2D) (hfault : s.scanner.fault = true) (hcount : s.scanner.recovery = 2) :
    s.EndsFault frame where
  scanning := hscanning
  sound := hsound
  fault := hfault
  complete := by
    obtain ⟨-, -, -, -, -, -, -, hknown, -⟩ := hsound
    have hlatched : (s.scanner.complete frame).known = true := Scanner.known_complete (hknown hfault) frame
    rw [← hlatched]
    exact (Scanner.complete_recover hfault hgood).trans (if_neg (by omega))

theorem State.EndsFault.calm (h : s.EndsFault frame) : (s.scanView frame).scanner.fault = false := by
  show (s.scanner.complete frame).fault = false
  rw [h.complete]

/-- In a fault the known condition holds already, so the scan calls for no adoption. -/
theorem State.EndsFault.outcome (h : s.EndsFault frame) :
    exec (.scanCompletion frame) s = .next ((s.scanned frame).endEvent s) := by
  obtain ⟨-, -, -, -, -, -, -, hknown, -⟩ := h.sound
  rw [State.exec_scan h.scanning, State.completeScan_of_known]
  rw [h.complete]
  exact (hknown h.fault).symm

theorem State.EndsFault.scanned_act (h : s.EndsFault frame) : (s.scanned frame).act
    = (changedInputs s.scanner (s.scanner.complete frame)).foldl (fun a i => a.onInput (s.scanView frame) i)
      (s.act.faultEnds (s.scanView frame)) := by
  have hcalm : (s.scanView frame).scanner.fault = false := h.calm
  show s.act.afterScan (s.scanView frame) s.scanner = _
  unfold Actors.afterScan
  rw [hcalm, h.fault]
  rfl

theorem State.EndsFault.scanned_unchanged (h : s.EndsFault frame)
    (hsame : ∀ j ∈ List.range 16, s.scanner.value j = .ofLevel (frame.getLsbD j)) :
    (s.scanned frame).act = s.act.faultEnds (s.scanView frame)
      ∧ ∀ j ∈ List.range 16, (s.scanner.complete frame).value j = s.scanner.value j := by
  have hkept : ∀ j ∈ List.range 16, (s.scanner.complete frame).value j = s.scanner.value j := fun j hj =>
    Scanner.value_adopted_of_eq h.sound.1 (by rw [h.complete]) (List.mem_range.1 hj) (hsame j hj)
  exact ⟨by rw [h.scanned_act, changedInputs_of_none hkept]; rfl, hkept⟩

theorem Coordinator.enter_of_none (c : Coordinator) (hstagger : c.stagger = none) (hquiet : c.quietStart = none)
    (phase : Phase) : c.enter phase = { c with phase := phase } := by
  cases c
  cases hstagger
  cases hquiet
  rfl

/-- The authority check in AWAIT_PERMIT, whole. -/
theorem Actors.checkAuthority_spec {a : Actors} {v : View} (hline : a.line.Sound) (hcoord : a.coord.Sound)
    (hphase : a.coord.phase = .awaitPermit) :
    (a.checkAuthority v).coord = { a.coord with phase := if a.authorityHolds v = true then .bidding else .awaitPermit }
      ∧ ((a.checkAuthority v).coord.phase = .bidding →
        (a.checkAuthority v).line.restartAsked .bid = true ∧ (a.checkAuthority v).line.urgentDue = true) := by
  have hstagger := hcoord.stagger_of_phase (by rw [hphase]; exact nofun)
  have hquiet := hcoord.quietStart_of_phase (by rw [hphase]; exact nofun)
  by_cases h : a.authorityHolds v = true
  · obtain ⟨-, hdue, hasked⟩ := hline.bid v.now
    rw [Actors.checkAuthority_of_holds hphase h,
      Actors.enterBidding_eq _ _ (by rw [hphase]; exact nofun) (by rw [hphase]; exact nofun), if_pos h]
    exact ⟨a.coord.enter_of_none hstagger hquiet .bidding, fun _ => ⟨hasked, hdue⟩⟩
  · rw [Actors.checkAuthority_of_not fun _ => Bool.eq_false_iff.2 h, if_neg h, ← hphase]
    exact ⟨rfl, fun hbidding => by rw [hphase] at hbidding; cases hbidding⟩

theorem State.EndsFault.leave (h : s.EndsFault frame) (hline : s.act.line.Sound) (hcoord : s.act.coord.Sound)
    (hphase : s.act.coord.phase = .awaitPermit)
    (hsame : ∀ j ∈ List.range 16, s.scanner.value j = .ofLevel (frame.getLsbD j)) :
    ∃ t, exec (.scanCompletion frame) s = .next t
      ∧ t.act.coord = { s.act.coord with
        phase := if ((s.act.coord.permit = true ∧ s.act.line.stuck = false)
            ∨ (s.scanner.active 7 = true ∧ s.act.coord.keyWithheld = false)) ∧ s.act.line.mute = none
          then .bidding else .awaitPermit }
      ∧ (t.act.coord.phase = .bidding → t.act.line.restartAsked .bid = true ∧ t.act.line.urgentDue = true) := by
  obtain ⟨hact, hkept⟩ := h.scanned_unchanged hsame
  have hstep : s.act.coord.step = .none := by
    by_contra hne
    cases hphase.symm.trans (hcoord.1 hne)
  have hask := s.act.asks_operate (s.scanView frame)
    (fun d => d.faultEnds (s.scanView frame).scanner (s.scanView frame).now s.act.energizing) hstep
  have hreach := s.act.reach_operate (s.scanView frame)
    (fun d => d.faultEnds (s.scanView frame).scanner (s.scanView frame).now s.act.energizing) (Driver.moves_faultEnds ..)
  obtain ⟨hstuck, hmute⟩ := hreach.line.leave
  have hends : s.act.faultEnds (s.scanView frame) = (s.act.operate (s.scanView frame) fun d =>
    d.faultEnds (s.scanView frame).scanner (s.scanView frame).now s.act.energizing).checkAuthority (s.scanView frame) := rfl
  rw [hends] at hact
  generalize (s.act.operate (s.scanView frame) fun d =>
    d.faultEnds (s.scanView frame).scanner (s.scanView frame).now s.act.energizing) = b at *
  obtain ⟨hnew, hbid⟩ := Actors.checkAuthority_spec (a := b) (v := s.scanView frame) (hreach.line.sound hline)
    (by rw [hask.coord]; exact hcoord) (by rw [hask.coord]; exact hphase)
  have hkey : (s.scanView frame).scanner.active 7 = s.scanner.active 7 := by
    show (s.scanner.complete frame).active 7 = _
    unfold Scanner.active
    rw [hkept 7 (by decide)]
  have hauthority : b.authorityHolds (s.scanView frame) = true
      ↔ ((s.act.coord.permit = true ∧ s.act.line.stuck = false)
        ∨ (s.scanner.active 7 = true ∧ s.act.coord.keyWithheld = false)) ∧ s.act.line.mute = none := by
    rw [Actors.authorityHolds_iff, hstuck, hmute, hkey, hask.coord]
    exact ⟨fun hb => ⟨hb.1, hb.2.1⟩, fun hb => ⟨hb.1, hb.2, h.calm⟩⟩
  rw [← hact] at hnew hbid
  have hend := (s.scanned frame).stepOnly_endEvent s
  have hquiet : (s.scanned frame).act.coord.step = .none := by
    rw [hnew, hask.coord]
    exact hstep
  have hcoordEnd : ((s.scanned frame).endEvent s).act.coord = (s.scanned frame).act.coord := by
    have hrest := hend.step hquiet
    rw [hend.coord, hrest, ← hquiet]
  refine ⟨_, h.outcome, ?_, fun hbidding => ?_⟩
  · rw [hcoordEnd, hnew, hask.coord]
    simp only [hauthority]
  · rw [hend.line]
    exact hbid (by rw [← hcoordEnd]; exact hbidding)

end

end Sys2Proof.Machine
end


section
/-! PROOFS. What the acting blocks can do to the channels as inputs are handed over: a property of the driver kept by the
requests they make is kept by the hand-over, and ENERGIZING is entered by none of it (R147, R149, R167 to R173). -/

namespace Sys2Proof.Machine

/-- A property of the driver that the requests of the acting blocks keep: LEVEL channels, HOLD channels asserted, trips
requested, closes taken back, and, where `en` allows ENERGIZING, closes requested. No HOLD channel is released. -/
structure Driver.Kept (v : View) (en : Bool) (P : Driver → Prop) : Prop where
  level : ∀ (d : Driver) id c, P d → P (d.setLevel id c)
  assert : ∀ (d : Driver) id, P d → P (d.assertHold v.scanner v.now id)
  trip : ∀ (d : Driver) p, P d → P (d.requestTrip v.scanner v.now p).1
  stop : ∀ (d : Driver) p, P d → P (d.stopClose v.now p)
  close : en = true → ∀ (d : Driver) p, P d → P (d.requestClose v.scanner v.now true p).1

/-- The driver has a property, and the phase is ENERGIZING only where `en` allows it. -/
structure Actors.Under (en : Bool) (P : Driver → Prop) (a : Actors) : Prop where
  drv : P a.drv
  phase : a.coord.phase = .energizing → en = true

section
variable {a b : Actors} {v : View} {en : Bool} {P : Driver → Prop}

theorem Actors.Under.of_coord (h : a.Under en P) (hdrv : P b.drv) (hcoord : b.coord = a.coord) : b.Under en P :=
  ⟨hdrv, fun hb => h.phase (by rw [← hcoord]; exact hb)⟩

theorem Actors.Under.of_phase (hdrv : P b.drv) (hphase : b.coord.phase ≠ .energizing) : b.Under en P :=
  ⟨hdrv, fun hb => absurd hb hphase⟩

/-- A change of the Line Unit, the sequencer, or of the coordinator within its phase. -/
theorem Actors.Under.of_same (h : a.Under en P) (hdrv : b.drv = a.drv) (hphase : b.coord.phase = a.coord.phase) :
    b.Under en P :=
  ⟨by rw [hdrv]; exact h.drv, fun hb => h.phase (by rw [← hphase]; exact hb)⟩

theorem Actors.Under.withDrv (h : a.Under en P) {d : Driver} (hd : P d) : (a.withDrv d).Under en P := ⟨hd, h.phase⟩

theorem Actors.Under.inStep (h : a.Under en P) (step : EnergizeStep) : (a.inStep step).Under en P := ⟨h.drv, h.phase⟩

/-! ### Requests -/

theorem Driver.Kept.hear (k : Driver.Kept v en P) (h : P a.drv) (n : Notice) : P (a.hear v n).drv := by
  cases n with
  | tripOutcome p =>
    show P (a.tripOutcome v).drv
    unfold Actors.tripOutcome
    split
    · exact k.assert _ _ (k.assert _ _ h)
    · exact h
  | _ => exact h

theorem Driver.Kept.hearAll (k : Driver.Kept v en P) (ns : List Notice) (h : P a.drv) :
    P (ns.foldl (fun a n => a.hear v n) a).drv := by
  induction ns generalizing a with
  | nil => exact h
  | cons n ns ih => exact ih (k.hear h n)

theorem Driver.Kept.drive (k : Driver.Kept v en P) (f : Driver → Driven) (h : P (f a.drv).1) : P (a.drive v f).drv :=
  k.hearAll (a := a.withDrv (f a.drv).1) _ h

theorem Driver.Kept.tripReady (k : Driver.Kept v en P) (h : P a.drv) : P (a.tripReady v).drv := by
  have hone : ∀ (p : Pdu) (b : Actors), P b.drv →
      P (if (b.drv.pulse (.trip p)).state = .ready then b.drive v (·.requestTrip v.scanner v.now p) else b).drv := by
    intro p b hb
    split
    · exact k.drive _ (k.trip _ p hb)
    · exact hb
  exact hone .b _ (hone .a a h)

theorem Driver.Kept.endGrace (k : Driver.Kept v en P) (h : P a.drv) : P (a.endGrace v).drv := by
  unfold Actors.endGrace
  split
  · exact k.tripReady (a := a.withSeq { a.seq with grace := .ended }) h
  · exact h
  · exact h

theorem Driver.Kept.assertLevel (k : Driver.Kept v en P) {d : Driver} (h : P d) (id : LevelId) : P (d.assertLevel id) :=
  k.level _ id _ h

theorem Driver.Kept.releaseLevel (k : Driver.Kept v en P) {d : Driver} (h : P d) (id : LevelId) : P (d.releaseLevel id).1 := by
  unfold Driver.releaseLevel
  split
  · exact h
  · exact k.level _ id _ h

theorem Driver.Kept.bringIsolate (k : Driver.Kept v en P) (h : P a.drv) : P (a.bringIsolate v).drv := by
  unfold Actors.bringIsolate
  split
  · unfold Actors.cutAtStart
    split
    · exact k.endGrace (a := a.withSeq _) h
    · exact h
  · exact h
  · exact k.tripReady h

theorem Driver.Kept.bringOne (k : Driver.Kept v en P) (h : P a.drv) (stage : Stage) : P (a.bringOne v stage).drv := by
  cases stage with
  | watch => exact h
  | alert => exact k.assertLevel (k.assertLevel h .advise) .lift
  | quiesce => exact k.assertLevel (k.assertLevel h .freeze) .haltreq
  | isolate => exact k.bringIsolate h
  | safe =>
    show P (a.bringSafe v).drv
    unfold Actors.bringSafe
    split
    · exact h
    · split
      · exact k.assert _ _ (k.assert _ _ h)
      · exact h

theorem Driver.Kept.bringUp (k : Driver.Kept v en P) (h : P a.drv) (stage : Stage) : P (a.bringUp v stage).drv := by
  unfold Actors.bringUp
  induction stagesTo stage generalizing a with
  | nil => exact h
  | cons st l ih => exact ih (k.bringOne h st)

/-! ### Phases -/

theorem Actors.Under.bringUp (k : Driver.Kept v en P) (h : a.Under en P) (stage : Stage) : (a.bringUp v stage).Under en P :=
  h.of_coord (k.bringUp h.drv stage) (a.asks_bringUp v stage).coord

theorem Actors.Under.endGrace (k : Driver.Kept v en P) (h : a.Under en P) : (a.endGrace v).Under en P :=
  h.of_coord (k.endGrace h.drv) (a.asks_endGrace v).coord

theorem Actors.Under.setPhase (k : Driver.Kept v en P) (h : a.Under en P) {phase : Phase} (hphase : phase ≠ .energizing) :
    (a.setPhase v phase).Under en P := by
  refine .of_phase ?_ (by rw [a.setPhase_phase]; exact hphase)
  rw [Actors.setPhase_drv_eq]
  split
  · rw [Driver.leaveEnergizing_fst]
    exact k.stop _ _ (k.stop _ _ h.drv)
  · exact h.drv

theorem Actors.Under.enterQuietWait (k : Driver.Kept v en P) (h : a.Under en P) : (a.enterQuietWait v).Under en P :=
  (h.setPhase k (phase := .quietWait) nofun).of_same rfl rfl

theorem Actors.Under.abort (k : Driver.Kept v en P) (h : a.Under en P) : (a.abort v).Under en P := (h.enterQuietWait k).bringUp k _

theorem Actors.Under.onRise (k : Driver.Kept v en P) (h : a.Under en P) (new : Stage) : (a.onRise v new).Under en P := by
  unfold Actors.onRise
  split
  · split
    · exact h.enterQuietWait k
    · exact h
  any_goals exact h.enterQuietWait k
  · exact h.abort k
  · exact h

theorem Actors.Under.onTrip (k : Driver.Kept v en P) (h : a.Under en P) : (a.onTrip v).Under en P := by
  rcases a.onTrip_cases v with ⟨he, -⟩ | ⟨he, -⟩ | ⟨he, -⟩
  · rw [he]
    exact h.enterQuietWait k
  · rw [he]
    exact h.abort k
  · rw [he]
    exact h

theorem Actors.Under.raise (k : Driver.Kept v en P) (h : a.Under en P) (new : Stage) : (a.raise v new).Under en P := by
  have hlifted : (a.lifted v new).Under en P :=
    ((h.of_same (b := a.setStage v new) rfl rfl).bringUp k new).of_same rfl rfl
  exact hlifted.onRise k new

theorem Actors.Under.compare (k : Driver.Kept v en P) (h : a.Under en P) : (a.compare v).Under en P := by
  unfold Actors.compare
  split
  · exact h
  · split
    · exact h.raise k _
    · exact h

theorem Actors.Under.localTrip (k : Driver.Kept v en P) (h : a.Under en P) : (a.localTrip v).Under en P := by
  have hfloored : (a.floored .isolate).Under en P := h.of_same rfl rfl
  exact (hfloored.compare k).onTrip k

theorem Actors.Under.enterBidding (k : Driver.Kept v en P) (h : a.Under en P) : (a.enterBidding v).Under en P :=
  (h.setPhase k (phase := .bidding) nofun).of_same rfl rfl

theorem Actors.Under.checkAuthority (k : Driver.Kept v en P) (h : a.Under en P) : (a.checkAuthority v).Under en P := by
  unfold Actors.checkAuthority
  split
  · exact h.enterBidding k
  · exact h

theorem Actors.Under.enterAwaitPermit (k : Driver.Kept v en P) (h : a.Under en P) : (a.enterAwaitPermit v).Under en P :=
  (h.setPhase k (phase := .awaitPermit) nofun).checkAuthority k

theorem Actors.Under.compareBackoff (k : Driver.Kept v en P) (h : a.Under en P) : (a.compareBackoff v).Under en P := by
  unfold Actors.compareBackoff
  split
  · exact h
  · split
    · exact h.of_same rfl rfl
    · split
      · exact h
      · split
        · unfold Actors.endStagger
          split
          · exact h.enterBidding k
          · exact h.enterAwaitPermit k
        · exact h.of_same rfl rfl

theorem Actors.Under.onKey (k : Driver.Kept v en P) (h : a.Under en P) (active : Bool) : (a.onKey v active).Under en P := by
  unfold Actors.onKey
  split
  · exact h.checkAuthority k
  · exact h.of_same rfl rfl

/-! ### Energizing steps -/

theorem Actors.Under.stop (k : Driver.Kept v en P) (h : a.Under en P) : (a.stop v).Under en P := by
  have htaken : (a.leaveTaken v).Under en P := h.of_same rfl rfl
  exact htaken.enterAwaitPermit k

theorem Actors.Under.lower (k : Driver.Kept v en P) (h : a.Under en P) : (a.lower v).Under en P := by
  unfold Actors.lower
  refine Actors.Under.compare k ?_
  exact h.of_same rfl rfl

/-- No request enters ENERGIZING. -/
theorem Actors.energizing_of_lower (h : (a.lower v).coord.phase = .energizing) : a.coord.phase = .energizing := by
  have hall : Driver.Kept v a.energizing fun _ => True :=
    ⟨fun _ _ _ => id, fun _ _ => id, fun _ _ => id, fun _ _ => id, fun _ _ _ => id⟩
  have hunder : a.Under a.energizing fun _ => True := ⟨trivial, fun ha => decide_eq_true ha⟩
  exact of_decide_eq_true ((hunder.lower hall).phase h)

/-- A stage lowered in ENERGIZING and not raised again is not SAFE. -/
theorem Actors.lower_not_safe (h : (a.lower v).coord.phase = .energizing) : (a.lower v).seq.stage ≠ .safe := by
  rcases a.lower_cases v (Actors.energizing_of_lower h) with ⟨haborted, -⟩ | ⟨-, hstage⟩
  · cases h.symm.trans haborted
  · rw [hstage]
    cases a.seq.stage with
    | watch | alert | quiesce | isolate | safe => exact nofun

theorem Actors.Under.settleIfClosed (h : a.Under en P) : (a.settleIfClosed v).Under en P := by
  unfold Actors.settleIfClosed
  split
  · exact h.of_same rfl rfl
  · exact h

theorem Actors.Under.released (k : Driver.Kept v en P) (h : a.Under en P) (x y : LevelId) : (a.released x y).Under en P :=
  h.of_coord (k.releaseLevel (k.releaseLevel h.drv x) y) rfl

theorem Actors.Under.beginB (k : Driver.Kept v en P) (h : a.Under en P) (hphase : a.coord.phase = .energizing) :
    (a.beginB v).1.Under en P := by
  have hone : ∀ (need : Bool) (p : Pdu) (d : Driver), P d →
      P (if need then d.requestClose v.scanner v.now true p else ((d, []) : Driven)).1 := by
    intro need p d hd
    split
    · exact k.close (h.phase hphase) d p hd
    · exact hd
  unfold Actors.beginB
  dsimp only
  split
  · exact h
  · refine Actors.Under.settleIfClosed (.inStep (.withDrv h ?_) _)
    exact hone _ .b _ (hone _ .a _ h.drv)

theorem Actors.Under.endTurn (k : Driver.Kept v en P) (h : a.Under en P) : (a.endTurn v).Under en P := by
  unfold Actors.endTurn
  dsimp only
  refine Actors.Under.setPhase k ?_ nofun
  exact h.of_same rfl rfl

theorem Actors.Under.runD (k : Driver.Kept v en P) (h : a.Under en P) : (a.runD v).Under en P := by
  have hreleased := h.released k .advise .lift
  rw [Actors.runD_eq]
  split
  · have hlowered := (hreleased.inStep .none).lower k
    split
    · exact hlowered.endTurn k
    · exact hlowered
  · exact hreleased.stop k

theorem Actors.Under.beginStep (k : Driver.Kept v en P) (h : a.Under en P) (hphase : a.coord.phase = .energizing)
    (hstage : a.seq.stage ≠ .safe) : (a.beginStep v).1.Under en P := by
  unfold Actors.beginStep
  split
  · next hsafe => exact absurd hsafe hstage
  · exact h.beginB k hphase
  · show (a.beginC v).Under en P
    rw [Actors.beginC_eq]
    split
    · exact (h.released k .freeze .haltreq).of_same rfl rfl
    · exact (h.released k .freeze .haltreq).stop k
  · show (a.beginD v).Under en P
    unfold Actors.beginD
    split
    · exact h.runD k
    · exact h.of_same rfl rfl
  · exact h.of_same rfl rfl

theorem Actors.Under.completeStep (k : Driver.Kept v en P) (h : a.Under en P) {next : Actors → Actors}
    (hnext : ∀ b : Actors, b.Under en P → b.coord.phase = .energizing → b.seq.stage ≠ .safe → (next b).Under en P) :
    (a.completeStep v next).Under en P := by
  have hlowered := (h.inStep .none).lower k
  unfold Actors.completeStep
  dsimp only
  split
  · next hphase =>
    split
    · exact hlowered.enterAwaitPermit k
    · exact hnext _ hlowered hphase (Actors.lower_not_safe hphase)
  · exact hlowered

theorem Actors.Under.runSteps (k : Driver.Kept v en P) (n : Nat) (h : a.Under en P) (hphase : a.coord.phase = .energizing)
    (hstage : a.seq.stage ≠ .safe) : (Actors.runSteps v n a).Under en P := by
  induction n generalizing a with
  | zero => exact h
  | succ n ih =>
    have hbegun := h.beginStep k hphase hstage
    unfold Actors.runSteps
    dsimp only
    split
    · exact hbegun.completeStep k fun b hb => ih hb
    · exact hbegun

theorem Actors.Under.progress (k : Driver.Kept v en P) (h : a.Under en P) : (a.progress v).Under en P := by
  unfold Actors.progress
  split
  · exact h.completeStep k fun b hb => hb.runSteps k 4
  · exact h.settleIfClosed
  · exact h

/-! ### Notices and inputs -/

theorem Actors.Under.report (k : Driver.Kept v en P) (h : a.Under en P) (n : Notice) : (a.report v n).Under en P := by
  cases n with
  | releaseConfirmed id =>
    show (a.onReleased v id).Under en P
    unfold Actors.onReleased
    split
    · exact (h.inStep _).progress k
    · exact (h.inStep _).progress k
    · exact h
  | closeConfirmed p =>
    show (a.onClosed v p).Under en P
    unfold Actors.onClosed
    split
    · exact (h.inStep _).progress k
    · exact (h.inStep _).progress k
    · exact h
  | releaseFailed id =>
    show (a.onReleaseFailed v id).Under en P
    unfold Actors.onReleaseFailed
    split
    · exact h.stop k
    · exact h.stop k
    · exact h
  | closeFailed p =>
    show (a.onCloseFailed v p).Under en P
    unfold Actors.onCloseFailed
    split
    · exact h.stop k
    · exact h.stop k
    · exact h
  | tripOutcome p => exact h.of_coord (k.hear h.drv (.tripOutcome p)) (a.asks_hear v (.tripOutcome p)).coord
  | failedFlag => exact h.of_same rfl rfl
  | closeUnconfirmed | closeRefused | closeCut | closeWithdrawn | releaseUnconfirmed => exact h

theorem Actors.Under.operate (k : Driver.Kept v en P) {Q : Driver → Prop} (h : a.Under en Q) (f : Driver → Driven)
    (hf : P (f a.drv).1) : (a.operate v f).Under en P := by
  have hall : ∀ (ns : List Notice) (b : Actors), b.Under en P → (ns.foldl (fun a n => a.report v n) b).Under en P := by
    intro ns
    induction ns with
    | nil => exact fun _ hb => hb
    | cons n ns ih => exact fun b hb => ih _ (hb.report k n)
  exact hall _ _ ⟨hf, h.phase⟩

/-- A property of the driver that the change of one input keeps as well. -/
structure Driver.KeptBy (v : View) (en : Bool) (P : Driver → Prop) (i : Nat) : Prop where
  pdu : ∀ (d : Driver) (e : Bool) p, i = pduContact p → (e = true → en = true) → P d →
    P (d.pduInput v.scanner v.now e p).1
  limit : ∀ (d : Driver) id, i = limitContact id → P d → P (d.holdInput id (v.scanner.active (limitContact id))).1

theorem Actors.Under.energizing (h : a.Under en P) (he : a.energizing = true) : en = true := h.phase (of_decide_eq_true he)

theorem Actors.Under.onInput (k : Driver.Kept v en P) (h : a.Under en P) {i : Nat} (hi : Driver.KeptBy v en P i) :
    (a.onInput v i).Under en P := by
  unfold Actors.onInput
  split
  · exact h.operate k _ (hi.pdu _ _ .a rfl h.energizing h.drv)
  · exact h.operate k _ (hi.pdu _ _ .b rfl h.energizing h.drv)
  · exact h.operate k _ (hi.limit _ .valve rfl h.drv)
  · exact h.operate k _ (hi.limit _ .coolstop rfl h.drv)
  · split
    · exact h.endGrace k
    · exact h
  · split
    · exact h.localTrip k
    · exact h
  · exact h.onKey k _
  · exact h.compareBackoff k
  · exact h

theorem Actors.Under.inputs (k : Driver.Kept v en P) (is : List Nat) (h : a.Under en P)
    (hi : ∀ i ∈ is, Driver.KeptBy v en P i) : (is.foldl (fun a i => a.onInput v i) a).Under en P := by
  induction is generalizing a with
  | nil => exact h
  | cons i is ih => exact ih (h.onInput k (hi i List.mem_cons_self)) fun j hj => hi j (List.mem_cons_of_mem i hj)

/-! ### The arbiter -/

/-- A property of the driver that the arbiter keeps as it judges a head taken out of the queue. -/
def Driver.KeptServing (v : View) (en : Bool) (P : Driver → Prop) : Prop :=
  ∀ (d : Driver) (e : Bool) id rest, (e = true → en = true) → d.pulseQueue = id :: rest → P d →
    P (({ d with pulseQueue := rest } : Driver).judgeHead v.scanner v.now e id).1

theorem Driver.KeptServing.serve (k : Driver.KeptServing v en P) {e : Bool} (he : e = true → en = true) (n : Nat) (d : Driver)
    (h : P d) : P (Driver.serve v.scanner v.now e n d).1 := by
  induction n generalizing d with
  | zero => exact h
  | succ n ih =>
    unfold Driver.serve
    split
    · exact h
    · split
      · exact h
      · next id rest hqueue => exact ih _ (k d e id rest he hqueue h)

end

theorem State.under_endEvent {s : State} {en : Bool} {P : Driver → Prop} (old : State) (k : Driver.Kept s.view en P)
    (ks : Driver.KeptServing s.view en P) (h : s.act.Under en P) : (s.endEvent old).act.Under en P := by
  unfold State.endEvent
  split
  · exact h.operate k _ (ks.serve h.energizing _ _ h.drv)
  · exact h

end Sys2Proof.Machine
end


section
/-! PROOFS. Whose channels a PULSE operation works on: those of its own PDU, and no failed flag (R128 to R135). -/

namespace Sys2Proof.Machine

/-- The PDU of a PULSE channel. -/
def pduOf : PulseId → Pdu
  | .trip p | .close p => p

/-- An operation for one PDU: the other PDU's records stand, none of its channels joins the queue, and no failed flag
changes. -/
structure Driver.OnPdu (p : Pdu) (d e : Driver) : Prop where
  failed : ∀ id, (e.pulse id).failed = (d.pulse id).failed
  other : ∀ id, pduOf id ≠ p → e.pulse id = d.pulse id
  queue : ∀ id, pduOf id ≠ p → id ∈ e.pulseQueue → id ∈ d.pulseQueue

section
variable {d e f : Driver} {p : Pdu}

theorem Driver.OnPdu.refl (p : Pdu) (d : Driver) : Driver.OnPdu p d d := ⟨fun _ => rfl, fun _ _ => rfl, fun _ _ => id⟩

theorem Driver.OnPdu.trans (h : Driver.OnPdu p d e) (k : Driver.OnPdu p e f) : Driver.OnPdu p d f where
  failed id := (k.failed id).trans (h.failed id)
  other id hid := (k.other id hid).trans (h.other id hid)
  queue id hid := h.queue id hid ∘ k.queue id hid

theorem Driver.OnPdu.withGap (h : Driver.OnPdu p d e) (g : Option Stamp) : Driver.OnPdu p d { e with gap := g } where
  failed id := by rw [Driver.pulse_withGap]; exact h.failed id
  other id hid := by rw [Driver.pulse_withGap]; exact h.other id hid
  queue := h.queue

theorem Driver.OnPdu.withQueue (h : Driver.OnPdu p d e) {q : List PulseId}
    (hq : ∀ id, pduOf id ≠ p → id ∈ q → id ∈ e.pulseQueue) : Driver.OnPdu p d { e with pulseQueue := q } where
  failed id := by rw [Driver.pulse_withQueue]; exact h.failed id
  other id hid := by rw [Driver.pulse_withQueue]; exact h.other id hid
  queue id hid hin := h.queue id hid (hq id hid hin)

theorem Driver.onPdu_setPulse (d : Driver) {id : PulseId} {c : PulseChannel} (hid : pduOf id = p)
    (hc : c.failed = (d.pulse id).failed) : Driver.OnPdu p d (d.setPulse id c) where
  failed other := by
    rw [Driver.pulse_setPulse]
    split
    · next h => rw [h]; exact hc
    · rfl
  other other hother := d.pulse_setPulse_of_ne c fun heq => hother (by rw [heq]; exact hid)
  queue other _ := by rw [Driver.pulseQueue_setPulse]; exact fun hin => hin

theorem Driver.onPdu_enqueue (d : Driver) {id : PulseId} (hid : pduOf id = p) (attempt : Attempt) :
    Driver.OnPdu p d (d.enqueue id attempt) := by
  refine Driver.OnPdu.withQueue (d.onPdu_setPulse (c := (d.pulse id).toQueued attempt) hid rfl) fun other hother hin => ?_
  rw [Driver.pulseQueue_setPulse]
  refine (List.mem_append.1 hin).resolve_right fun hlast => hother ?_
  rw [List.mem_singleton.1 hlast]
  exact hid

theorem Driver.onPdu_stopClose (d : Driver) (now : Stamp) (p : Pdu) : Driver.OnPdu p d (d.stopClose now p) := by
  have hset : Driver.OnPdu p d (d.setPulse (.close p) (d.pulse (.close p)).toReady) := d.onPdu_setPulse rfl rfl
  unfold Driver.stopClose
  split
  · exact hset.withQueue fun id _ hin => by rw [Driver.pulseQueue_setPulse]; exact List.mem_of_mem_filter hin
  · exact hset.withGap _
  all_goals exact .refl p d

theorem Driver.onPdu_cutClose (d : Driver) (now : Stamp) (p : Pdu) : Driver.OnPdu p d (d.cutClose now p).1 := by
  unfold Driver.cutClose
  split
  · exact d.onPdu_stopClose now p
  · exact d.onPdu_stopClose now p
  · exact d.onPdu_setPulse rfl rfl
  all_goals exact .refl p d

theorem Driver.onPdu_requestTrip (d : Driver) (sc : Scanner) (now : Stamp) (p : Pdu) :
    Driver.OnPdu p d (d.requestTrip sc now p).1 := by
  refine (d.onPdu_cutClose now p).trans ?_
  rw [Driver.requestTrip, Driven.next_fst]
  generalize (d.cutClose now p).1 = e
  split
  · split
    · exact e.onPdu_setPulse rfl rfl
    · exact e.onPdu_enqueue (id := .trip p) rfl .first
  all_goals exact .refl p e

theorem Driver.onPdu_rearm (d : Driver) (p : Pdu) : Driver.OnPdu p d (d.rearm p) := by
  unfold Driver.rearm
  split
  · exact d.onPdu_setPulse rfl rfl
  · exact d.onPdu_setPulse rfl rfl
  all_goals exact .refl p d

theorem Driver.onPdu_rearmAfterClose (d : Driver) (sc : Scanner) (now : Stamp) (energizing : Bool) (p : Pdu) :
    Driver.OnPdu p d (d.rearmAfterClose sc now energizing p).1 := by
  unfold Driver.rearmAfterClose
  split
  · exact d.onPdu_rearm p
  · exact (d.onPdu_rearm p).trans ((d.rearm p).onPdu_requestTrip sc now p)

theorem Driver.onPdu_finishClose (d : Driver) (sc : Scanner) (now : Stamp) (energizing : Bool) (p : Pdu) :
    Driver.OnPdu p d (d.finishClose sc now energizing p).1 := by
  have hset : Driver.OnPdu p d (d.setPulse (.close p) ((d.pulse (.close p)).toSpent sc.fault)) := d.onPdu_setPulse rfl rfl
  unfold Driver.finishClose
  split
  · exact hset
  · exact hset.trans (Driver.onPdu_rearmAfterClose ..)

theorem Driver.onPdu_requestClose (d : Driver) (sc : Scanner) (now : Stamp) (energizing : Bool) (p : Pdu) :
    Driver.OnPdu p d (d.requestClose sc now energizing p).1 := by
  have hbegin : Driver.OnPdu p d (if pduOpen sc p then (d.enqueue (.close p) .first, []) else d.finishClose sc now energizing p).1 := by
    split
    · exact d.onPdu_enqueue (id := .close p) rfl .first
    · exact d.onPdu_finishClose sc now energizing p
  unfold Driver.requestClose
  cases (d.pulse (.trip p)).state with
  | queued | firing => exact .refl p d
  | ready | checking | spent | failed =>
    cases (d.pulse (.close p)).state with
    | queued | firing | checking => exact .refl p d
    | ready | spent | failed => exact hbegin

theorem Driver.onPdu_confirmPulse (d : Driver) (sc : Scanner) (now : Stamp) (energizing : Bool) (id : PulseId) :
    Driver.OnPdu (pduOf id) d (d.confirmPulse sc now energizing id).1 := by
  have hset : Driver.OnPdu (pduOf id) d (d.setPulse id ((d.pulse id).toSpent false)) := d.onPdu_setPulse rfl rfl
  cases id with
  | trip p => exact hset
  | close p => exact hset.trans (Driver.onPdu_rearmAfterClose ..)

/-- The change of a PDU's input, for one of its channels (R133). -/
def Driver.settleInput (d : Driver) (sc : Scanner) (now : Stamp) (energizing : Bool) (id : PulseId) : Driven :=
  if (d.pulse id).state = .checking && awaitedHolds sc id then d.confirmPulse sc now energizing id else (d, [])

theorem Driver.pduInput_eq (d : Driver) (sc : Scanner) (now : Stamp) (energizing : Bool) (p : Pdu) :
    d.pduInput sc now energizing p
      = (d.settleInput sc now energizing (.trip p)).next (·.settleInput sc now energizing (.close p)) := rfl

theorem Driver.onPdu_pduInput (d : Driver) (sc : Scanner) (now : Stamp) (energizing : Bool) (p : Pdu) :
    Driver.OnPdu p d (d.pduInput sc now energizing p).1 := by
  have hone : ∀ (id : PulseId) (e : Driver), Driver.OnPdu (pduOf id) e (e.settleInput sc now energizing id).1 := by
    intro id e
    unfold Driver.settleInput
    split
    · exact e.onPdu_confirmPulse sc now energizing id
    · exact .refl _ e
  exact (hone (.trip p) d).trans (hone (.close p) _)

theorem Driver.onPdu_judgeHead (d : Driver) (sc : Scanner) (now : Stamp) (energizing : Bool) (id : PulseId) :
    Driver.OnPdu (pduOf id) d (d.judgeHead sc now energizing id).1 := by
  cases id with
  | trip p =>
    unfold Driver.judgeHead
    dsimp only
    split
    · exact d.onPdu_setPulse rfl rfl
    · exact d.onPdu_setPulse rfl rfl
  | close p =>
    unfold Driver.judgeHead
    dsimp only
    split
    · exact d.onPdu_setPulse rfl rfl
    · split
      · exact d.onPdu_setPulse rfl rfl
      · exact d.onPdu_finishClose sc now energizing p

/-- The head taken out of the queue and judged. -/
theorem Driver.onPdu_head (sc : Scanner) (now : Stamp) (energizing : Bool) {id : PulseId} {rest : List PulseId}
    (hqueue : d.pulseQueue = id :: rest) :
    Driver.OnPdu (pduOf id) d (({ d with pulseQueue := rest } : Driver).judgeHead sc now energizing id).1 :=
  ((Driver.OnPdu.refl (pduOf id) d).withQueue fun other _ hin => by rw [hqueue]; exact List.mem_cons_of_mem id hin).trans
    (Driver.onPdu_judgeHead _ sc now energizing id)

theorem Driver.sameBut_confirmPulse (d : Driver) (sc : Scanner) (now : Stamp) (energizing : Bool) (id : PulseId) :
    d.SameBut (d.confirmPulse sc now energizing id).1 := by
  cases id with
  | trip p => exact d.sameBut_setPulse ..
  | close p => exact (d.sameBut_setPulse ..).trans (Driver.sameBut_rearmAfterClose ..)

theorem Driver.sameBut_pduInput (d : Driver) (sc : Scanner) (now : Stamp) (energizing : Bool) (p : Pdu) :
    d.SameBut (d.pduInput sc now energizing p).1 := by
  have hone : ∀ (id : PulseId) (e : Driver), e.SameBut (e.settleInput sc now energizing id).1 := by
    intro id e
    unfold Driver.settleInput
    split
    · exact e.sameBut_confirmPulse sc now energizing id
    · exact .refl e
  exact (hone (.trip p) d).trans (hone (.close p) _)

theorem Driver.sameBut_head (d : Driver) (sc : Scanner) (now : Stamp) (energizing : Bool) (id : PulseId) (rest : List PulseId) :
    d.SameBut (({ d with pulseQueue := rest } : Driver).judgeHead sc now energizing id).1 :=
  Driver.SameBut.trans (e := { d with pulseQueue := rest }) ⟨fun ch => by cases ch <;> rfl, fun ch => by cases ch <;> rfl⟩
    (Driver.sameBut_judgeHead ..)

end

end Sys2Proof.Machine
end


section
/-! PROOFS. Properties of channels that the hand-over of inputs keeps: a HOLD channel that stands asserted, failed flags, a trip
that is no longer READY, a close that has ended (R124, R129, R132, R137). -/

namespace Sys2Proof.Machine

section
variable {v : View} {en : Bool} {P : Driver → Prop} {i : Nat}

/-! ### Properties of HOLD channels -/

theorem Driver.kept_of_holds (hsame : ∀ d e : Driver, (∀ id, e.hold id = d.hold id) → P d → P e)
    (hassert : ∀ (d : Driver) id, P d → P (d.assertHold v.scanner v.now id)) : Driver.Kept v en P where
  level d id c := hsame _ _ fun ch => d.hold_setLevel id c ch
  assert := hassert
  trip d p := hsame _ _ (d.sameBut_requestTrip v.scanner v.now p).2
  stop d p := hsame _ _ (d.sameBut_stopClose v.now p).2
  close _ d p := hsame _ _ (d.sameBut_requestClose v.scanner v.now true p).2

theorem Driver.keptBy_of_holds (hsame : ∀ d e : Driver, (∀ id, e.hold id = d.hold id) → P d → P e)
    (hlimit : ∀ (d : Driver) id, i = limitContact id → P d → P (d.holdInput id (v.scanner.active (limitContact id))).1) :
    Driver.KeptBy v en P i where
  pdu d e p _ _ := hsame _ _ (d.sameBut_pduInput v.scanner v.now e p).2
  limit := hlimit

theorem Driver.keptServing_of_holds (hsame : ∀ d e : Driver, (∀ id, e.hold id = d.hold id) → P d → P e) :
    Driver.KeptServing v en P := fun d e id rest _ _ => hsame _ _ (d.sameBut_head v.scanner v.now e id rest).2

/-! ### Properties of PULSE channels -/

theorem Driver.onPdu_of_same (p : Pdu) {d e : Driver} (hpulse : ∀ id, e.pulse id = d.pulse id)
    (hqueue : e.pulseQueue = d.pulseQueue) : Driver.OnPdu p d e :=
  ⟨fun id => by rw [hpulse], fun id _ => hpulse id, fun _ _ => by rw [hqueue]; exact fun hin => hin⟩

theorem Driver.onPdu_holdInput (p : Pdu) (d : Driver) (id : HoldId) (active : Bool) : Driver.OnPdu p d (d.holdInput id active).1 := by
  have hset : ∀ c, Driver.OnPdu p d (d.setHold id c) := fun c =>
    Driver.onPdu_of_same p (fun ch => d.pulse_setHold id c ch) (d.pulseQueue_setHold id c)
  unfold Driver.holdInput
  dsimp only
  split
  · exact hset _
  · exact hset _
  · exact hset _
  · exact .refl p d

/-- A PDU other than the given one. -/
theorem Pdu.exists_ne (p : Pdu) : ∃ q, q ≠ p := by
  cases p with
  | a => exact ⟨.b, nofun⟩
  | b => exact ⟨.a, nofun⟩

/-- What operations for the other PDU leave alone, and the requests for this one keep. -/
theorem Driver.kept_of_pdu (p : Pdu) (hother : ∀ (d e : Driver) q, q ≠ p → Driver.OnPdu q d e → P d → P e)
    (htrip : ∀ d : Driver, P d → P (d.requestTrip v.scanner v.now p).1)
    (hstop : ∀ d : Driver, P d → P (d.stopClose v.now p))
    (hclose : en = true → ∀ d : Driver, P d → P (d.requestClose v.scanner v.now true p).1) : Driver.Kept v en P where
  level d id c := by
    obtain ⟨q, hq⟩ := Pdu.exists_ne p
    exact hother _ _ q hq (Driver.onPdu_of_same q (fun ch => d.pulse_setLevel id c ch) (d.pulseQueue_setLevel id c))
  assert d id := by
    obtain ⟨q, hq⟩ := Pdu.exists_ne p
    exact hother _ _ q hq (Driver.onPdu_of_same q (fun ch => d.pulse_assertHold v.scanner v.now id ch)
      (d.pulseQueue_assertHold v.scanner v.now id))
  trip d q h := by
    by_cases hq : q = p
    · rw [hq]
      exact htrip d h
    · exact hother _ _ q hq (d.onPdu_requestTrip v.scanner v.now q) h
  stop d q h := by
    by_cases hq : q = p
    · rw [hq]
      exact hstop d h
    · exact hother _ _ q hq (d.onPdu_stopClose v.now q) h
  close hen d q h := by
    by_cases hq : q = p
    · rw [hq]
      exact hclose hen d h
    · exact hother _ _ q hq (d.onPdu_requestClose v.scanner v.now true q) h

theorem Driver.keptBy_of_pdu (p : Pdu) (hother : ∀ (d e : Driver) q, q ≠ p → Driver.OnPdu q d e → P d → P e)
    (hown : i = pduContact p → ∀ (d : Driver) (e : Bool), (e = true → en = true) → P d →
      P (d.pduInput v.scanner v.now e p).1) : Driver.KeptBy v en P i where
  pdu d e q hi he h := by
    by_cases hq : q = p
    · rw [hq]
      exact hown (by rw [hi, hq]) d e he h
    · exact hother _ _ q hq (d.onPdu_pduInput v.scanner v.now e q) h
  limit d id _ h := by
    obtain ⟨q, hq⟩ := Pdu.exists_ne p
    exact hother _ _ q hq (d.onPdu_holdInput q id _) h

theorem Driver.keptServing_of_pdu (p : Pdu) (hother : ∀ (d e : Driver) q, q ≠ p → Driver.OnPdu q d e → P d → P e)
    (hown : ∀ (d : Driver) (e : Bool) id rest, (e = true → en = true) → d.pulseQueue = id :: rest → pduOf id = p → P d →
      P (({ d with pulseQueue := rest } : Driver).judgeHead v.scanner v.now e id).1) : Driver.KeptServing v en P := by
  intro d e id rest he hqueue h
  by_cases hid : pduOf id = p
  · exact hown d e id rest he hqueue hid h
  · exact hother _ _ _ hid (Driver.onPdu_head v.scanner v.now e hqueue) h

/-! ### A HOLD channel that stands asserted -/

theorem Driver.assertHold_of_asserted {d : Driver} {id other : HoldId} (h : (d.hold id).asserted = true) (sc : Scanner)
    (now : Stamp) : (d.assertHold sc now other).hold id = d.hold id := by
  unfold Driver.assertHold
  dsimp only
  split
  · rfl
  · next hx => exact d.hold_setHold_of_ne _ fun heq => hx (by rw [← heq]; exact h)

theorem Driver.hold_holdInput_of_ne (d : Driver) {id other : HoldId} (h : id ≠ other) (active : Bool) :
    (d.holdInput other active).1.hold id = d.hold id := by
  unfold Driver.holdInput
  dsimp only
  split
  · exact d.hold_setHold_of_ne _ h
  · exact d.hold_setHold_of_ne _ h
  · exact d.hold_setHold_of_ne _ h
  · rfl

theorem Driver.kept_asserted (v : View) (en : Bool) (id : HoldId) {c : HoldChannel} (hc : c.asserted = true) :
    Driver.Kept v en fun d => d.hold id = c :=
  Driver.kept_of_holds (fun _ _ hsame h => (hsame id).trans h) fun _ _ h =>
    (Driver.assertHold_of_asserted (by rw [h]; exact hc) v.scanner v.now).trans h

theorem Driver.keptBy_asserted (v : View) (en : Bool) {id : HoldId} (c : HoldChannel) (hi : i ≠ limitContact id) :
    Driver.KeptBy v en (fun d => d.hold id = c) i :=
  Driver.keptBy_of_holds (fun _ _ hsame h => (hsame id).trans h) fun d other hother h =>
    (d.hold_holdInput_of_ne (fun heq => hi (by rw [hother, heq])) _).trans h

theorem Driver.keptServing_asserted (v : View) (en : Bool) (id : HoldId) (c : HoldChannel) :
    Driver.KeptServing v en fun d => d.hold id = c :=
  Driver.keptServing_of_holds fun _ _ hsame h => (hsame id).trans h

/-! ### Failed flags -/

/-- A HOLD channel judged, out of a fault. -/
def HoldChannel.Judged (failed : Bool) (c : HoldChannel) : Prop := c.unconfirmed = false ∧ c.failed = failed

theorem Driver.kept_judged {v : View} (en : Bool) (hcalm : v.scanner.fault = false) (id : HoldId) (failed : Bool) :
    Driver.Kept v en fun d => (d.hold id).Judged failed := by
  refine Driver.kept_of_holds (fun _ _ hsame h => by rw [hsame]; exact h) fun d other h => ?_
  by_cases hid : id = other
  · rw [← hid]
    unfold Driver.assertHold
    dsimp only
    split
    · exact h
    · rw [Driver.hold_setHold_self]
      exact ⟨hcalm, h.2⟩
  · rw [Driver.hold_assertHold_of_ne _ _ _ hid]
    exact h

theorem Driver.keptBy_judged (v : View) (en : Bool) (id : HoldId) (failed : Bool) (i : Nat) :
    Driver.KeptBy v en (fun d => (d.hold id).Judged failed) i := by
  refine Driver.keptBy_of_holds (fun _ _ hsame h => by rw [hsame]; exact h) fun d other _ h => ?_
  by_cases hid : id = other
  · rw [← hid]
    unfold Driver.holdInput
    dsimp only
    split
    · rw [Driver.hold_setHold_self]
      exact h
    · rw [Driver.hold_setHold_self]
      exact h
    · rw [Driver.hold_setHold_self]
      exact h
    · exact h
  · rw [d.hold_holdInput_of_ne hid]
    exact h

theorem Driver.keptServing_judged (v : View) (en : Bool) (id : HoldId) (failed : Bool) :
    Driver.KeptServing v en fun d => (d.hold id).Judged failed :=
  Driver.keptServing_of_holds fun _ _ hsame h => by rw [hsame]; exact h

theorem Driver.kept_flag (v : View) (en : Bool) (id : PulseId) (failed : Bool) :
    Driver.Kept v en fun d => (d.pulse id).failed = failed :=
  Driver.kept_of_pdu .a (fun _ _ _ _ k h => (k.failed id).trans h)
    (fun d h => ((d.onPdu_requestTrip v.scanner v.now .a).failed id).trans h)
    (fun d h => ((d.onPdu_stopClose v.now .a).failed id).trans h)
    fun _ d h => ((d.onPdu_requestClose v.scanner v.now true .a).failed id).trans h

theorem Driver.keptBy_flag (v : View) (en : Bool) (id : PulseId) (failed : Bool) (i : Nat) :
    Driver.KeptBy v en (fun d => (d.pulse id).failed = failed) i :=
  Driver.keptBy_of_pdu .a (fun _ _ _ _ k h => (k.failed id).trans h)
    fun _ d e _ h => ((d.onPdu_pduInput v.scanner v.now e .a).failed id).trans h

theorem Driver.keptServing_flag (v : View) (en : Bool) (id : PulseId) (failed : Bool) :
    Driver.KeptServing v en fun d => (d.pulse id).failed = failed :=
  fun _ e _ _ _ hqueue h => ((Driver.onPdu_head v.scanner v.now e hqueue).failed id).trans h

end

end Sys2Proof.Machine
end


section
/-! PROOFS. A trip that is no longer READY and a close that has ended, kept by the hand-over of inputs (R129, R131 to R135). -/

namespace Sys2Proof.Machine

section
variable {v : View} {en : Bool} {p : Pdu} {c : PulseChannel}

theorem Driver.OnPdu.trip {d e : Driver} {q : Pdu} (h : Driver.OnPdu q d e) (hq : q ≠ p) :
    e.pulse (.trip p) = d.pulse (.trip p) := h.other (.trip p) fun heq => hq heq.symm

theorem Driver.OnPdu.close {d e : Driver} {q : Pdu} (h : Driver.OnPdu q d e) (hq : q ≠ p) :
    e.pulse (.close p) = d.pulse (.close p) := h.other (.close p) fun heq => hq heq.symm

theorem Driver.OnPdu.out {d e : Driver} {q : Pdu} (h : Driver.OnPdu q d e) {id : PulseId} (hid : q ≠ pduOf id)
    (hout : id ∉ d.pulseQueue) : id ∉ e.pulseQueue := fun hin => hout (h.queue id hid.symm hin)

theorem Driver.requestTrip_of_asked {d : Driver} (sc : Scanner) (now : Stamp) (h : (d.pulse (.trip p)).state ≠ .ready) :
    (d.requestTrip sc now p).1 = (d.cutClose now p).1 := by
  have htrip := d.trip_cutClose now p p
  rw [Driver.requestTrip, Driven.next_fst]
  generalize (d.cutClose now p).1 = e at htrip
  split
  · next hready => exact absurd (by rw [← htrip]; exact hready) h
  all_goals rfl

/-! ### A trip under check or ended, its PDU open -/

theorem Driver.kept_trip (en : Bool) (hopen : pduOpen v.scanner p = true) (hc : c.state ≠ .ready) :
    Driver.Kept v en fun d => d.pulse (.trip p) = c := by
  refine Driver.kept_of_pdu p (fun d e q hq k h => (k.trip hq).trans h) (fun d h => ?_)
    (fun d h => (d.trip_stopClose v.now p p).trans h) fun _ d h => ?_
  · rw [Driver.requestTrip_of_asked v.scanner v.now (by rw [h]; exact hc), d.trip_cutClose]
    exact h
  · have hbegin : ((if pduOpen v.scanner p then (d.enqueue (.close p) .first, [])
        else d.finishClose v.scanner v.now true p : Driven).1).pulse (.trip p) = c := by
      rw [if_pos hopen]
      exact (d.pulse_enqueue_of_ne (show PulseId.trip p ≠ .close p from nofun) .first).trans h
    unfold Driver.requestClose
    cases (d.pulse (.trip p)).state with
    | queued | firing => exact h
    | ready | checking | spent | failed =>
      cases (d.pulse (.close p)).state with
      | queued | firing | checking => exact h
      | ready | spent | failed => exact hbegin

theorem Driver.keptBy_trip (v : View) (en : Bool) {i : Nat} (c : PulseChannel) (hi : i ≠ pduContact p) :
    Driver.KeptBy v en (fun d => d.pulse (.trip p) = c) i :=
  Driver.keptBy_of_pdu p (fun _ _ _ hq k h => (k.trip hq).trans h) fun heq => absurd heq hi

/-- A trip ended with its PDU known to be open is judged no differently by the arbiter. -/
theorem Driver.keptServing_trip (en : Bool) (hopen : pduOpen v.scanner p = true) (hsure : pduUnsure v.scanner p = false)
    (hc : c.toSpent false = c) : Driver.KeptServing v en fun d => d.pulse (.trip p) = c := by
  refine Driver.keptServing_of_pdu p (fun d e q hq k h => (k.trip hq).trans h) fun d e id rest _ _ hid h => ?_
  generalize hd : ({ d with pulseQueue := rest } : Driver) = d'
  have hpop : d'.pulse (.trip p) = c := by
    rw [← hd]
    exact (Driver.pulse_withQueue ..).trans h
  cases id with
  | trip q =>
    obtain rfl : q = p := hid
    unfold Driver.judgeHead
    dsimp only
    rw [hopen, if_pos rfl, hsure, hpop, hc]
    exact Driver.pulse_setPulse_self ..
  | close q =>
    obtain rfl : q = p := hid
    unfold Driver.judgeHead Driver.fire
    dsimp only
    rw [hopen]
    split
    · exact (d'.pulse_setPulse_of_ne _ (show PulseId.trip q ≠ .close q from nofun)).trans hpop
    · rw [if_pos rfl]
      exact (d'.pulse_setPulse_of_ne _ (show PulseId.trip q ≠ .close q from nofun)).trans hpop

/-! ### A close that has ended, and the trip asked for after it -/

/-- A close stands SPENT, out of the queue; where it re-armed its trip, that one waits or fires. -/
structure Driver.Closed (p : Pdu) (c : PulseChannel) (asked : Prop) (d : Driver) : Prop where
  record : d.pulse (.close p) = c
  out : .close p ∉ d.pulseQueue
  asked : asked → (d.pulse (.trip p)).state = .queued ∨ (d.pulse (.trip p)).state = .firing

section
variable {asked : Prop} {d e : Driver}

theorem Driver.Closed.other {q : Pdu} (hq : q ≠ p) (k : Driver.OnPdu q d e) (h : Driver.Closed p c asked d) :
    Driver.Closed p c asked e :=
  ⟨(k.close hq).trans h.record, k.out (id := .close p) hq h.out, by rw [k.trip hq]; exact h.asked⟩

/-- A change of the trip's record alone. -/
theorem Driver.Closed.setTrip (h : Driver.Closed p c asked d) (x : PulseChannel)
    (hx : asked → x.state = .queued ∨ x.state = .firing) : Driver.Closed p c asked (d.setPulse (.trip p) x) where
  record := (d.pulse_setPulse_of_ne x (show PulseId.close p ≠ .trip p from nofun)).trans h.record
  out := by rw [Driver.pulseQueue_setPulse]; exact h.out
  asked ha := by rw [Driver.pulse_setPulse_self]; exact hx ha

theorem Driver.Closed.withQueue (h : Driver.Closed p c asked d) {q : List PulseId} (hq : .close p ∉ q) :
    Driver.Closed p c asked { d with pulseQueue := q } :=
  ⟨(Driver.pulse_withQueue ..).trans h.record, hq, by rw [Driver.pulse_withQueue]; exact h.asked⟩

theorem Driver.Closed.enqueueTrip (h : Driver.Closed p c asked d) (attempt : Attempt) :
    Driver.Closed p c asked (d.enqueue (.trip p) attempt) := by
  refine (h.setTrip ((d.pulse (.trip p)).toQueued attempt) fun _ => .inl rfl).withQueue ?_
  rw [List.mem_append, List.mem_singleton]
  rintro (hin | heq)
  · exact h.out hin
  · cases heq

theorem Driver.Closed.cutClose (h : Driver.Closed p c asked d) (hc : c.state = .spent) (now : Stamp) :
    d.cutClose now p = (d, []) := Driver.cutClose_of_idle now (.inr (.inl (by rw [h.record]; exact hc)))

theorem Driver.Closed.not_ready (h : Driver.Closed p c asked d) (ha : asked) : (d.pulse (.trip p)).state ≠ .ready := by
  rcases h.asked ha with h | h <;> rw [h] <;> exact nofun

theorem Driver.Closed.requestTrip (h : Driver.Closed p c asked d) (hc : c.state = .spent) (sc : Scanner) (now : Stamp) :
    Driver.Closed p c asked (d.requestTrip sc now p).1 := by
  unfold Driver.requestTrip
  rw [h.cutClose hc, Driven.next_fst]
  dsimp only
  split
  · next hready =>
    split
    · exact h.setTrip _ fun ha => absurd hready (h.not_ready ha)
    · exact h.enqueueTrip .first
  all_goals exact h

theorem Driver.Closed.settleInput (h : Driver.Closed p c asked d) (hc : c.state = .spent) (sc : Scanner) (now : Stamp)
    (energizing : Bool) : Driver.Closed p c asked (d.pduInput sc now energizing p).1 := by
  have htrip : Driver.Closed p c asked (d.settleInput sc now energizing (.trip p)).1 := by
    unfold Driver.settleInput
    split
    · next hcheck =>
      have hchecking := of_decide_eq_true (Bool.and_eq_true_iff.1 hcheck).1
      refine h.setTrip _ fun ha => ?_
      rcases h.asked ha with h | h <;> cases hchecking.symm.trans h
    · exact h
  rw [Driver.pduInput_eq, Driven.next_fst]
  generalize (d.settleInput sc now energizing (.trip p)).1 = e at htrip
  unfold Driver.settleInput
  split
  · next hcheck =>
    have hchecking := of_decide_eq_true (Bool.and_eq_true_iff.1 hcheck).1
    rw [htrip.record, hc] at hchecking
    cases hchecking
  · exact htrip

end

section
variable {asked : Prop}

theorem Driver.kept_closed (hc : c.state = .spent) : Driver.Kept v false (Driver.Closed p c asked) := by
  refine Driver.kept_of_pdu p (fun d e q hq k h => h.other hq k) (fun d h => h.requestTrip hc v.scanner v.now) (fun d h => ?_)
    nofun
  rw [Driver.stopClose_of_idle v.now (by rw [h.record, hc]; exact nofun) (by rw [h.record, hc]; exact nofun)]
  exact h

theorem Driver.keptBy_closed (v : View) (i : Nat) (hc : c.state = .spent) : Driver.KeptBy v false (Driver.Closed p c asked) i :=
  Driver.keptBy_of_pdu p (fun _ _ _ hq k h => h.other hq k) fun _ _ e _ h => h.settleInput hc v.scanner v.now e

theorem Driver.keptServing_closed (hclosed : asked → pduOpen v.scanner p = false) :
    Driver.KeptServing v false (Driver.Closed p c asked) := by
  refine Driver.keptServing_of_pdu p (fun d e q hq k h => h.other hq k) fun d e id rest _ hqueue hid h => ?_
  have hpop : Driver.Closed p c asked { d with pulseQueue := rest } :=
    h.withQueue fun hin => h.out (by rw [hqueue]; exact List.mem_cons_of_mem id hin)
  cases id with
  | trip q =>
    obtain rfl : q = p := hid
    unfold Driver.judgeHead Driver.fire
    dsimp only
    split
    · next hopen => exact hpop.setTrip _ fun ha => absurd (hclosed ha) (by rw [hopen]; exact nofun)
    · exact hpop.setTrip _ fun _ => .inr rfl
  | close q =>
    obtain rfl : q = p := hid
    exact absurd (by rw [hqueue]; exact List.mem_cons_self) h.out

end

/-! ### A trip that has ended, its close READY -/

/-- A trip stands SPENT and its close READY, both out of the queue. -/
structure Driver.Tripped (p : Pdu) (c : PulseChannel) (d : Driver) : Prop where
  record : d.pulse (.trip p) = c
  close : (d.pulse (.close p)).state = .ready
  tripOut : .trip p ∉ d.pulseQueue
  closeOut : .close p ∉ d.pulseQueue

theorem Driver.Tripped.other {d e : Driver} {q : Pdu} (hq : q ≠ p) (k : Driver.OnPdu q d e) (h : Driver.Tripped p c d) :
    Driver.Tripped p c e :=
  ⟨(k.trip hq).trans h.record, by rw [k.close hq]; exact h.close, k.out (id := .trip p) hq h.tripOut,
    k.out (id := .close p) hq h.closeOut⟩

theorem Driver.kept_tripped (hc : c.state = .spent) : Driver.Kept v false (Driver.Tripped p c) := by
  refine Driver.kept_of_pdu p (fun d e q hq k h => h.other hq k) (fun d h => ?_) (fun d h => ?_) nofun
  · rw [Driver.requestTrip_of_asked v.scanner v.now (by rw [h.record, hc]; exact nofun),
      Driver.cutClose_of_idle v.now (.inl h.close)]
    exact h
  · rw [Driver.stopClose_of_idle v.now (by rw [h.close]; exact nofun) (by rw [h.close]; exact nofun)]
    exact h

theorem Driver.keptBy_tripped (v : View) (i : Nat) (hc : c.state = .spent) : Driver.KeptBy v false (Driver.Tripped p c) i := by
  refine Driver.keptBy_of_pdu p (fun d e q hq k h => h.other hq k) fun _ d e _ h => ?_
  have htrip : d.settleInput v.scanner v.now e (.trip p) = (d, []) := by
    refine if_neg fun hcheck => ?_
    have hchecking := of_decide_eq_true (Bool.and_eq_true_iff.1 hcheck).1
    rw [h.record, hc] at hchecking
    cases hchecking
  have hclose : d.settleInput v.scanner v.now e (.close p) = (d, []) := by
    refine if_neg fun hcheck => ?_
    have hchecking := of_decide_eq_true (Bool.and_eq_true_iff.1 hcheck).1
    rw [h.close] at hchecking
    cases hchecking
  rw [Driver.pduInput_eq, htrip, Driven.next_fst]
  dsimp only
  rw [hclose]
  exact h

theorem Driver.keptServing_tripped : Driver.KeptServing v false (Driver.Tripped p c) := by
  refine Driver.keptServing_of_pdu p (fun d e q hq k h => h.other hq k) fun d e id rest _ hqueue hid h => ?_
  have hin : id ∈ d.pulseQueue := by
    rw [hqueue]
    exact List.mem_cons_self
  cases id with
  | trip q =>
    obtain rfl : q = p := hid
    exact absurd hin h.tripOut
  | close q =>
    obtain rfl : q = p := hid
    exact absurd hin h.closeOut

end

end Sys2Proof.Machine
end


section
/-! PROOFS. A scan that hands changes over, whole: the changes in their order, the adoption it may end in, and the arbiter
(R131, R147, R149, R180, R183). -/

namespace Sys2Proof.Machine

/-! ### The changes in their order -/

/-- A changed input among the changed inputs: those of lower number before it, those of higher number after. -/
theorem changedInputs_split {old new : Scanner} {i : Nat} (h : i ∈ changedInputs old new) :
    ∃ l r, changedInputs old new = l ++ i :: r ∧ (∀ j ∈ l, j < i) ∧ ∀ j ∈ r, i < j := by
  obtain ⟨l, r, hsplit⟩ := List.append_of_mem h
  have hsorted : (changedInputs old new).Pairwise (· < ·) := List.Pairwise.filter _ List.pairwise_lt_range
  rw [hsplit, List.pairwise_append, List.pairwise_cons] at hsorted
  obtain ⟨-, ⟨hafter, -⟩, hbefore⟩ := hsorted
  exact ⟨l, r, hsplit, fun j hj => hbefore j hj i List.mem_cons_self, hafter⟩

/-- The inputs handed over one after another. -/
def Actors.onInputs (a : Actors) (v : View) (is : List Nat) : Actors := is.foldl (fun a i => a.onInput v i) a

section
variable {s : State} {frame : BitVec 24} {i : Nat} {level : Bool}

/-- What a change finds, makes and is followed by. -/
theorem State.HandsOver.scanned_split (h : s.HandsOver frame i level) :
    ∃ l r, (∀ j ∈ l, j < i) ∧ (∀ j ∈ r, i < j)
      ∧ (s.scanned frame).act
        = (((s.act.onInputs (s.scanView frame) l).onInput (s.scanView frame) i).onInputs (s.scanView frame) r) := by
  obtain ⟨l, r, hsplit, hl, hr⟩ := changedInputs_split h.changed
  refine ⟨l, r, hl, hr, ?_⟩
  rw [h.scanned_act, hsplit, List.foldl_append]
  rfl

end

/-! ### Adoption and the arbiter after the scan -/

/-- A property of the driver that adoption keeps (R139). -/
def Driver.KeptAdopting (v : View) (P : Driver → Prop) : Prop :=
  ∀ (d : Driver) stage, P d → P (d.adoptStage v.scanner v.now stage).1

section
variable {a : Actors} {v : View} {en : Bool} {P : Driver → Prop}

theorem Actors.Under.adopt (k : Driver.Kept v en P) (ka : Driver.KeptAdopting v P) (h : a.Under en P) (stage : Stage) :
    (a.adopt v stage).Under en P := by
  have hall : ∀ (l : List Stage) (b : Actors), b.Under en P →
      (l.foldl (fun a st => a.drive v fun d => d.adoptStage v.scanner v.now st) b).Under en P := by
    intro l
    induction l with
    | nil => exact fun _ hb => hb
    | cons st l ih => exact fun b hb => ih _ (hb.of_coord (k.drive _ (ka _ st hb.drv)) (b.asks_drive v _).coord)
  have hchannels : (a.adoptChannels v stage).Under en P := by
    unfold Actors.adoptChannels
    split
    · exact hall _ _ h
    · exact h
  have hphase : ((a.adoptChannels v stage).adoptPhase v stage).Under en P := by
    unfold Actors.adoptPhase
    split
    · exact hchannels.enterQuietWait k
    · exact hchannels.setPhase k nofun
  rw [Actors.adopt_eq, Actors.adoptStage_eq]
  generalize (a.adoptChannels v stage).adoptPhase v stage = b at hphase
  have htold : ((b.takeStage v stage).tellStage v stage).Under en P := by
    unfold Actors.tellStage
    split
    · exact hphase.of_same rfl rfl
    · exact hphase.of_same rfl rfl
  unfold Actors.cutByFloor
  split
  · exact (htold.compare k).endGrace k
  · exact htold.compare k

/-- Adoption works on the channels of both PDUs in turn. -/
theorem Driver.keptAdopting_of_pdu (p : Pdu) (hother : ∀ (d e : Driver) q, q ≠ p → Driver.OnPdu q d e → P d → P e)
    (hown : ∀ d : Driver, P d → P (d.adoptTrip v.scanner p).1) : Driver.KeptAdopting v P := by
  obtain ⟨q, hq⟩ := Pdu.exists_ne p
  have hlevel : ∀ (d : Driver) id, P d → P (d.assertLevel id) := fun d id =>
    hother _ _ q hq (Driver.onPdu_of_same q (fun ch => d.pulse_setLevel id _ ch) (d.pulseQueue_setLevel id _))
  have hhold : ∀ (d : Driver) id, P d → P (d.adoptHold v.scanner v.now id) := by
    intro d id h
    unfold Driver.adoptHold
    split
    · exact hother _ _ q hq (Driver.onPdu_of_same q (fun ch => d.pulse_setHold id _ ch) (d.pulseQueue_setHold id _)) h
    · exact hother _ _ q hq (Driver.onPdu_of_same q (fun ch => d.pulse_assertHold v.scanner v.now id ch)
        (d.pulseQueue_assertHold v.scanner v.now id)) h
  have htrip : ∀ (d : Driver) r, P d → P (d.adoptTrip v.scanner r).1 := by
    intro d r h
    by_cases hr : r = p
    · rw [hr]
      exact hown d h
    · refine hother _ _ r hr ?_ h
      unfold Driver.adoptTrip
      split
      · exact d.onPdu_setPulse rfl rfl
      · exact .refl r d
  intro d stage h
  cases stage with
  | watch => exact h
  | alert => exact hlevel _ .lift (hlevel _ .advise h)
  | quiesce => exact hlevel _ .haltreq (hlevel _ .freeze h)
  | isolate => exact htrip _ .b (htrip _ .a h)
  | safe => exact hhold _ .coolstop (hhold _ .valve h)

end

section
variable {s : State} {frame : BitVec 24} {en : Bool} {P : Driver → Prop}

/-- A scan keeps to its end what its hand-over leaves, adoption keeps and the arbiter keeps. -/
theorem State.under_completeScan (k : Driver.Kept (s.scanView frame) en P) (ks : Driver.KeptServing (s.scanView frame) en P)
    (ka : s.startup.state = .awaitingInputs → Driver.KeptAdopting (s.scanView frame) P)
    (h : (s.scanned frame).act.Under en P) : ((s.completeScan frame).endEvent s).act.Under en P := by
  have hcomplete : (s.completeScan frame).act.Under en P ∧ (s.completeScan frame).view = s.scanView frame := by
    have hscan : s.completeScan frame = if !s.scanner.known && (s.scanner.complete frame).known then (s.scanned frame).onKnown
        else s.scanned frame := rfl
    rw [hscan]
    split
    · unfold State.onKnown
      split
      · next hawaiting => exact ⟨h.adopt k (ka hawaiting) _, rfl⟩
      · exact ⟨h, rfl⟩
      · exact ⟨h, rfl⟩
    · exact ⟨h, rfl⟩
  obtain ⟨hunder, hview⟩ := hcomplete
  rw [← hview] at k ks
  exact State.under_endEvent s k ks hunder

end

/-! ### An asserted HOLD channel reaches its limit (R124) -/

section
variable {s : State} {frame : BitVec 24}

theorem State.HandsOver.limit_reached {id : HoldId} (h : s.HandsOver frame (limitContact id) true)
    (hstate : s.startup.state ≠ .awaitingInputs)
    (hon : (s.act.drv.hold id).state = .pullIn ∨ (s.act.drv.hold id).state = .holding) :
    ((s.completeScan frame).endEvent s).act.drv.hold id = { s.act.drv.hold id with window := none } := by
  obtain ⟨l, r, hl, hr, hact⟩ := h.scanned_split
  have hasserted : (s.act.drv.hold id).asserted = true := by
    unfold HoldChannel.asserted
    rcases hon with hs | hs
    · rw [hs]
    · rw [hs]
  have hbefore : (s.act.onInputs (s.scanView frame) l).Under true fun d => d.hold id = s.act.drv.hold id :=
    Actors.Under.inputs (Driver.kept_asserted _ _ id hasserted) l ⟨rfl, fun _ => rfl⟩
      fun j hj => Driver.keptBy_asserted _ _ _ (Nat.ne_of_lt (hl j hj))
  have hchange := Driver.holdInput_reached (d := (s.act.onInputs (s.scanView frame) l).drv) (id := id)
    (by rw [hbefore.drv]; exact hon)
  rw [hbefore.drv] at hchange
  generalize hwant : ({ s.act.drv.hold id with window := none } : HoldChannel) = c at hchange ⊢
  have hkeeps : c.asserted = true := by
    rw [← hwant]
    exact hasserted
  have hkept := Driver.kept_asserted (s.scanView frame) true id hkeeps
  have hhanded : ((s.act.onInputs (s.scanView frame) l).onInput (s.scanView frame) (limitContact id)).Under true
      fun d => d.hold id = c := by
    rw [Actors.onInput_limit, h.active]
    refine hbefore.operate hkept _ ?_
    rw [hchange]
    exact Driver.hold_setHold_self ..
  refine (State.under_completeScan hkept (Driver.keptServing_asserted _ _ id c) (fun hawaiting => absurd hawaiting hstate) ?_).drv
  rw [hact]
  exact hhanded.inputs hkept r fun j hj => Driver.keptBy_asserted _ _ _ (Nat.ne_of_gt (hr j hj))

/-! ### A trip under check finds its PDU open (R133) -/

theorem Driver.settleInput_trip {d : Driver} {sc : Scanner} (now : Stamp) (energizing : Bool) {p : Pdu}
    (hchecking : (d.pulse (.trip p)).state = .checking) (hopen : pduOpen sc p = true) :
    (d.pduInput sc now energizing p).1 = d.setPulse (.trip p) ((d.pulse (.trip p)).toSpent false) := by
  have htrip : d.settleInput sc now energizing (.trip p)
      = (d.setPulse (.trip p) ((d.pulse (.trip p)).toSpent false), [.tripOutcome p]) := by
    refine if_pos ?_
    rw [hchecking]
    exact hopen
  have hclose : ∀ e : Driver, e.settleInput sc now energizing (.close p) = (e, []) := fun e => by
    refine if_neg ?_
    show ¬ ((e.pulse (.close p)).state = .checking && !pduOpen sc p) = true
    rw [hopen]
    simp
  rw [Driver.pduInput_eq, htrip, Driven.next_fst]
  dsimp only
  rw [hclose]

theorem State.HandsOver.trip_opened {p : Pdu} (h : s.HandsOver frame (pduContact p) false)
    (hchecking : (s.act.drv.pulse (.trip p)).state = .checking) :
    ((s.completeScan frame).endEvent s).act.drv.pulse (.trip p) = (s.act.drv.pulse (.trip p)).toSpent false := by
  obtain ⟨l, r, hl, hr, hact⟩ := h.scanned_split
  have hopen : pduOpen (s.scanView frame).scanner p = true := pduOpen_eq h.active
  have hcalm : (s.scanView frame).scanner.fault = false := h.calm
  have hsure : pduUnsure (s.scanView frame).scanner p = false := by
    unfold pduUnsure
    rw [hcalm, show (s.scanView frame).scanner.value (pduContact p) = .ofLevel false from h.value]
    rfl
  have hbefore : (s.act.onInputs (s.scanView frame) l).Under true fun d => d.pulse (.trip p) = s.act.drv.pulse (.trip p) :=
    Actors.Under.inputs (Driver.kept_trip true hopen (by rw [hchecking]; exact nofun)) l ⟨rfl, fun _ => rfl⟩
      fun j hj => Driver.keptBy_trip _ _ _ (Nat.ne_of_lt (hl j hj))
  have hkept : Driver.Kept (s.scanView frame) true fun d => d.pulse (.trip p) = (s.act.drv.pulse (.trip p)).toSpent false :=
    Driver.kept_trip true hopen nofun
  have hhanded : ((s.act.onInputs (s.scanView frame) l).onInput (s.scanView frame) (pduContact p)).Under true
      fun d => d.pulse (.trip p) = (s.act.drv.pulse (.trip p)).toSpent false := by
    rw [Actors.onInput_pdu]
    refine hbefore.operate hkept _ ?_
    rw [Driver.settleInput_trip _ _ (by rw [hbefore.drv]; exact hchecking) hopen, hbefore.drv]
    exact Driver.pulse_setPulse_self ..
  have hadopting : Driver.KeptAdopting (s.scanView frame)
      fun d => d.pulse (.trip p) = (s.act.drv.pulse (.trip p)).toSpent false := by
    refine Driver.keptAdopting_of_pdu p (fun _ _ _ hq k hd => (k.trip hq).trans hd) fun d hd => ?_
    unfold Driver.adoptTrip
    rw [if_pos hopen, hd, hcalm]
    exact Driver.pulse_setPulse_self ..
  refine (State.under_completeScan hkept (Driver.keptServing_trip true hopen hsure rfl) (fun _ => hadopting) ?_).drv
  rw [hact]
  exact hhanded.inputs hkept r fun j hj => Driver.keptBy_trip _ _ _ (Nat.ne_of_gt (hr j hj))

end

end Sys2Proof.Machine
end


section
/-! PROOFS. A close under check finds its PDU closed outside ENERGIZING, and its trip is asked for again (R133, R135). -/

namespace Sys2Proof.Machine

section
variable {a : Actors} {v : View} {p : Pdu} {c : PulseChannel} {asked : Prop}

/-- With no step under way sequencer and Line Unit alone hear an operation's notices. -/
theorem Actors.operate_of_no_step (a : Actors) (v : View) (f : Driver → Driven) (h : a.coord.step = .none) :
    a.operate v f = a.drive v f := by
  have hall : ∀ (ns : List Notice) (b : Actors), b.coord.step = .none →
      ns.foldl (fun a n => a.report v n) b = ns.foldl (fun a n => a.hear v n) b := by
    intro ns
    induction ns with
    | nil => exact fun _ _ => rfl
    | cons n ns ih =>
      intro b hb
      rw [List.foldl_cons, List.foldl_cons, b.report_of_no_step v n hb]
      exact ih _ (by rw [(b.asks_hear v n).coord]; exact hb)
  exact hall _ (a.withDrv (f a.drv).1) h

/-- With no step under way the notices of an operation leave coordinator and PULSE channels. -/
theorem Actors.operate_quiet (a : Actors) (v : View) (f : Driver → Driven) (h : a.coord.step = .none) :
    (a.operate v f).coord = a.coord ∧ (∀ id, (a.operate v f).drv.pulse id = (f a.drv).1.pulse id)
      ∧ (a.operate v f).drv.pulseQueue = (f a.drv).1.pulseQueue := by
  rw [a.operate_of_no_step v f h]
  exact ⟨(a.asks_drive v f).coord, fun id => (Actors.hearAll_pulse v _ _ id).1, (Actors.hearAll_pulse v _ _ (.trip .a)).2⟩

/-- A PDU's input taken with no step under way. -/
theorem Actors.onInput_quiet (q : Pdu) (h : a.coord.step = .none) :
    (a.onInput v (pduContact q)).coord = a.coord ∧ Driver.OnPdu q a.drv (a.onInput v (pduContact q)).drv := by
  rw [a.onInput_pdu]
  obtain ⟨hcoord, hpulse, hqueue⟩ := a.operate_quiet v (fun d => d.pduInput v.scanner v.now a.energizing q) h
  exact ⟨hcoord, (a.drv.onPdu_pduInput v.scanner v.now a.energizing q).trans (Driver.onPdu_of_same q hpulse hqueue)⟩

/-- The inputs handed over before a PDU's own are about the other PDU alone. -/
theorem Actors.onInputs_before {l : List Nat} (hl : ∀ j ∈ l, j < pduContact p) (h : a.coord.step = .none) :
    (a.onInputs v l).coord = a.coord ∧ ∃ q, q ≠ p ∧ Driver.OnPdu q a.drv (a.onInputs v l).drv := by
  cases p with
  | a =>
    cases l with
    | nil => exact ⟨rfl, .b, nofun, .refl _ _⟩
    | cons j l => exact absurd (hl j List.mem_cons_self) (Nat.not_lt_zero j)
  | b =>
    suffices hall : (a.onInputs v l).coord = a.coord ∧ Driver.OnPdu .a a.drv (a.onInputs v l).drv from
      ⟨hall.1, .a, nofun, hall.2⟩
    induction l generalizing a with
    | nil => exact ⟨rfl, .refl _ _⟩
    | cons j l ih =>
      obtain rfl : j = pduContact .a := Nat.lt_one_iff.1 (hl j List.mem_cons_self)
      obtain ⟨hcoord, hon⟩ := a.onInput_quiet (v := v) .a h
      obtain ⟨hrest, hlast⟩ := ih (a := a.onInput v (pduContact .a)) (by rw [hcoord]; exact h)
        fun j hj => hl j (List.mem_cons_of_mem _ hj)
      exact ⟨hrest.trans hcoord, hon.trans hlast⟩

/-! ### The trip re-armed and asked for again -/

/-- A trip that a completed close finds READY, SPENT or FAILED is asked for again. -/
def PulseChannel.Rearmable (c : PulseChannel) : Prop := c.state = .ready ∨ c.state = .spent ∨ c.state = .failed

theorem Driver.Closed.rearmed {d : Driver} (h : Driver.Closed p c False d) (hc : c.state = .spent) {sc : Scanner}
    (hclosed : pduOpen sc p = false) (hasked : asked → (d.pulse (.trip p)).Rearmable) (now : Stamp) :
    Driver.Closed p c asked (d.rearmAfterClose sc now false p).1 := by
  have hrequest : ∀ e : Driver, Driver.Closed p c False e → (e.pulse (.trip p)).state = .ready →
      Driver.Closed p c asked (e.requestTrip sc now p).1 := by
    intro e he hready
    have hqueued : (e.requestTrip sc now p).1 = e.enqueue (.trip p) .first := by
      unfold Driver.requestTrip
      rw [he.cutClose hc, Driven.next_fst]
      dsimp only
      rw [hready, hclosed]
      rfl
    have hkept := he.enqueueTrip .first
    rw [hqueued]
    refine ⟨hkept.record, hkept.out, fun _ => .inl ?_⟩
    exact congrArg PulseChannel.state ((Driver.pulse_withQueue ..).trans (Driver.pulse_setPulse_self ..))
  show Driver.Closed p c asked ((d.rearm p).requestTrip sc now p).1
  have hready : ∀ r : PulseState, (d.pulse (.trip p)).state = r → (r = .spent ∨ r = .failed) →
      Driver.Closed p c False (d.rearm p) ∧ ((d.rearm p).pulse (.trip p)).state = .ready := by
    intro r hr hended
    rw [Driver.rearm_of_ended (hended.imp (fun h => hr.trans h) fun h => hr.trans h)]
    exact ⟨h.setTrip _ nofun, by rw [Driver.pulse_setPulse_self]⟩
  have hstands : (d.pulse (.trip p)).state ≠ .spent → (d.pulse (.trip p)).state ≠ .failed → d.rearm p = d := by
    intro hspent hfailed
    unfold Driver.rearm
    split
    · next hs => exact absurd hs hspent
    · next hf => exact absurd hf hfailed
    all_goals rfl
  cases hs : (d.pulse (.trip p)).state with
  | spent =>
    obtain ⟨hkept, hnow⟩ := hready .spent hs (.inl rfl)
    exact hrequest _ hkept hnow
  | failed =>
    obtain ⟨hkept, hnow⟩ := hready .failed hs (.inr rfl)
    exact hrequest _ hkept hnow
  | ready =>
    rw [hstands (by rw [hs]; exact nofun) (by rw [hs]; exact nofun)]
    exact hrequest _ h hs
  | queued | firing | checking =>
    rw [hstands (by rw [hs]; exact nofun) (by rw [hs]; exact nofun)]
    have hkept := h.requestTrip hc sc now
    refine ⟨hkept.record, hkept.out, fun ha => ?_⟩
    rcases hasked ha with hr | hr | hr <;> cases hs.symm.trans hr

theorem Driver.settleInput_close {d : Driver} {sc : Scanner} (now : Stamp) (hchecking : (d.pulse (.close p)).state = .checking)
    (hclosed : pduOpen sc p = false) :
    (d.pduInput sc now false p).1
      = ((d.setPulse (.close p) ((d.pulse (.close p)).toSpent false)).rearmAfterClose sc now false p).1 := by
  have htrip : d.settleInput sc now false (.trip p) = (d, []) := by
    refine if_neg ?_
    show ¬ ((d.pulse (.trip p)).state = .checking && pduOpen sc p) = true
    rw [hclosed]
    simp
  have hclose : d.settleInput sc now false (.close p) = d.confirmPulse sc now false (.close p) := by
    refine if_pos ?_
    rw [hchecking]
    show (true && !pduOpen sc p) = true
    rw [hclosed]
    rfl
  rw [Driver.pduInput_eq, htrip, Driven.next_fst]
  dsimp only
  rw [hclose]
  rfl

theorem Driver.keptAdopting_closed (hclosed : asked → pduOpen v.scanner p = false) :
    Driver.KeptAdopting v (Driver.Closed p c asked) := by
  refine Driver.keptAdopting_of_pdu p (fun _ _ _ hq k h => h.other hq k) fun d h => ?_
  unfold Driver.adoptTrip
  split
  · next hopen => exact h.setTrip _ fun ha => absurd (hclosed ha) (by rw [hopen]; exact nofun)
  · exact h

end

theorem State.HandsOver.close_closed {s : State} {frame : BitVec 24} {p : Pdu} (h : s.HandsOver frame (pduContact p) true)
    (hpulse : s.act.drv.PulseSound) (hcoord : s.act.coord.Sound) (hphase : s.act.coord.phase ≠ .energizing)
    (hchecking : (s.act.drv.pulse (.close p)).state = .checking) :
    Driver.Closed p ((s.act.drv.pulse (.close p)).toSpent false) (s.act.drv.pulse (.trip p)).Rearmable
      ((s.completeScan frame).endEvent s).act.drv := by
  obtain ⟨l, r, hl, -, hact⟩ := h.scanned_split
  have hclosed : pduOpen (s.scanView frame).scanner p = false := pduOpen_eq h.active
  have hstep : s.act.coord.step = .none := Decidable.not_not.1 (mt hcoord.1 hphase)
  have hout : PulseId.close p ∉ s.act.drv.pulseQueue := fun hin => by
    cases hchecking.symm.trans ((hpulse.close_mem_queue_iff p).1 hin)
  obtain ⟨hkept, q, hq, hon⟩ := Actors.onInputs_before (a := s.act) (v := s.scanView frame) hl hstep
  generalize s.act.onInputs (s.scanView frame) l = b at hact hkept hon
  have hclose := hon.close hq
  have htrip := hon.trip hq
  have hb : b.coord.phase ≠ .energizing := by rw [hkept]; exact hphase
  have hen : b.energizing = false := decide_eq_false hb
  generalize hwant : (s.act.drv.pulse (.close p)).toSpent false = c at hact ⊢
  have hc : c.state = .spent := by
    rw [← hwant]
    rfl
  have hspent : Driver.Closed p c False (b.drv.setPulse (.close p) ((b.drv.pulse (.close p)).toSpent false)) := by
    refine ⟨?_, ?_, nofun⟩
    · rw [Driver.pulse_setPulse_self, hclose, hwant]
    · rw [Driver.pulseQueue_setPulse]
      exact hon.out (id := .close p) hq hout
  have hhanded : (b.onInput (s.scanView frame) (pduContact p)).Under false
      (Driver.Closed p c (s.act.drv.pulse (.trip p)).Rearmable) := by
    rw [Actors.onInput_pdu, hen]
    refine Actors.Under.operate (Driver.kept_closed hc) (Q := fun _ => True) ⟨trivial, fun he => absurd he hb⟩ _ ?_
    show Driver.Closed p c _ (b.drv.pduInput _ _ false p).1
    rw [Driver.settleInput_close _ (by rw [hclose]; exact hchecking) hclosed]
    refine hspent.rearmed hc hclosed (fun ha => ?_) _
    rw [b.drv.pulse_setPulse_of_ne _ (show PulseId.trip p ≠ .close p from nofun), htrip]
    exact ha
  refine (State.under_completeScan (Driver.kept_closed hc) (Driver.keptServing_closed fun _ => hclosed)
    (fun _ => Driver.keptAdopting_closed fun _ => hclosed) ?_).drv
  rw [hact]
  exact hhanded.inputs (Driver.kept_closed hc) r fun j _ => Driver.keptBy_closed _ j hc

end Sys2Proof.Machine
end


section
/-! PROOFS. The driver's judgement at the fault's end (R137): failed flags and marks, and the trips asked for again. -/

namespace Sys2Proof.Machine

/-! ### One channel judged -/

/-- A PULSE channel judged, its awaited condition met or not. -/
def PulseChannel.judged (c : PulseChannel) (met : Bool) : PulseChannel :=
  { c with unconfirmed := false, failed := c.failed || (decide (c.state = .spent) && c.unconfirmed && !met) }

/-- The failed flag of a HOLD channel judged, its input active or not. -/
def HoldChannel.judgedFlag (c : HoldChannel) (active : Bool) : Bool :=
  c.failed || (c.unconfirmed && ((decide (c.state = .off) && active)
    || ((decide (c.state = .pullIn) || decide (c.state = .holding)) && !active)))

section
variable {d e : Driver} {p : Pdu}

theorem PulseChannel.judged_of_confirmed {c : PulseChannel} (h : c.unconfirmed = false) (met : Bool) : c.judged met = c := by
  cases c
  cases h
  simp [PulseChannel.judged]

theorem Driver.setPulse_same (d : Driver) (id : PulseId) : d.setPulse id (d.pulse id) = d := by
  rcases id with (_ | _) | (_ | _) <;> rfl

variable (d) (sc : Scanner) (now : Stamp) (energizing : Bool)

theorem Driver.judgePulse_trip (p : Pdu) : (d.judgePulse sc now energizing (.trip p)).1
    = d.setPulse (.trip p) ((d.pulse (.trip p)).judged (pduOpen sc p)) := by
  unfold Driver.judgePulse
  dsimp only
  cases hmark : (d.pulse (.trip p)).unconfirmed with
  | false =>
    rw [PulseChannel.judged_of_confirmed hmark, Driver.setPulse_same]
    rfl
  | true =>
    by_cases hspent : (d.pulse (.trip p)).state = .spent
    · by_cases hopen : pduOpen sc p = true
      · simp [PulseChannel.judged, hspent, awaitedHolds, hopen]
      · simp [PulseChannel.judged, hspent, awaitedHolds, hopen, hmark]
    · simp [PulseChannel.judged, hspent]

/-- A close marked unconfirmed that stands SPENT with its PDU closed was indeed completed. -/
def Driver.closeProved (d : Driver) (sc : Scanner) (p : Pdu) : Bool :=
  decide ((d.pulse (.close p)).state = .spent) && (d.pulse (.close p)).unconfirmed && !pduOpen sc p

theorem Driver.judgePulse_close (p : Pdu) : (d.judgePulse sc now energizing (.close p)).1
    = if d.closeProved sc p then
        ((d.setPulse (.close p) ((d.pulse (.close p)).judged true)).rearmAfterClose sc now energizing p).1
      else d.setPulse (.close p) ((d.pulse (.close p)).judged (!pduOpen sc p)) := by
  unfold Driver.judgePulse Driver.closeProved
  dsimp only
  cases hmark : (d.pulse (.close p)).unconfirmed with
  | false =>
    rw [PulseChannel.judged_of_confirmed hmark, PulseChannel.judged_of_confirmed hmark, Driver.setPulse_same]
    simp
  | true =>
    by_cases hspent : (d.pulse (.close p)).state = .spent
    · by_cases hopen : pduOpen sc p = true
      · simp [PulseChannel.judged, hspent, awaitedHolds, hopen, hmark]
      · simp [PulseChannel.judged, hspent, awaitedHolds, hopen]
    · simp [PulseChannel.judged, hspent]

theorem Driver.sameBut_judgePulse (id : PulseId) : d.SameBut (d.judgePulse sc now energizing id).1 := by
  cases id with
  | trip p =>
    rw [Driver.judgePulse_trip]
    exact d.sameBut_setPulse ..
  | close p =>
    rw [Driver.judgePulse_close]
    split
    · exact (d.sameBut_setPulse ..).trans (Driver.sameBut_rearmAfterClose ..)
    · exact d.sameBut_setPulse ..

theorem Driver.judgeHold_pulses (id : HoldId) : (∀ ch, (d.judgeHold sc id).1.pulse ch = d.pulse ch)
    ∧ (d.judgeHold sc id).1.pulseQueue = d.pulseQueue := by
  unfold Driver.judgeHold
  dsimp only
  split
  · exact ⟨fun _ => rfl, rfl⟩
  · exact ⟨fun ch => d.pulse_setHold .., d.pulseQueue_setHold ..⟩

theorem Driver.judgeHold_of_ne {id other : HoldId} (h : other ≠ id) : (d.judgeHold sc id).1.hold other = d.hold other := by
  unfold Driver.judgeHold
  dsimp only
  split
  · rfl
  · exact d.hold_setHold_of_ne _ h

theorem Driver.judgeHold_self (id : HoldId) :
    ((d.judgeHold sc id).1.hold id).Judged ((d.hold id).judgedFlag (sc.active (limitContact id))) := by
  unfold Driver.judgeHold
  dsimp only
  cases hmark : (d.hold id).unconfirmed with
  | false => simp [HoldChannel.Judged, HoldChannel.judgedFlag, hmark]
  | true =>
    rw [Bool.not_true, if_neg Bool.false_ne_true, Driver.hold_setHold_self]
    refine ⟨rfl, ?_⟩
    unfold HoldChannel.judgedFlag
    rw [hmark]
    cases (d.hold id).state <;> simp

end

/-! ### The channels of one PDU through the judgement -/

/-- The channels of a PDU stand as they did, and neither has joined the queue. -/
structure Driver.SameAt (p : Pdu) (d e : Driver) : Prop where
  pulse : ∀ id, pduOf id = p → e.pulse id = d.pulse id
  queue : ∀ id, pduOf id = p → id ∈ e.pulseQueue → id ∈ d.pulseQueue

section
variable {d e f : Driver} {p q : Pdu} {c : PulseChannel} {asked : Prop}

theorem Driver.SameAt.refl (p : Pdu) (d : Driver) : Driver.SameAt p d d := ⟨fun _ _ => rfl, fun _ _ => id⟩

theorem Driver.SameAt.trans (h : Driver.SameAt p d e) (k : Driver.SameAt p e f) : Driver.SameAt p d f :=
  ⟨fun id hid => (k.pulse id hid).trans (h.pulse id hid), fun id hid => h.queue id hid ∘ k.queue id hid⟩

theorem Driver.OnPdu.sameAt (h : Driver.OnPdu q d e) (hq : q ≠ p) : Driver.SameAt p d e :=
  ⟨fun id hid => h.other id (by rw [hid]; exact hq.symm), fun id hid => h.queue id (by rw [hid]; exact hq.symm)⟩

theorem Driver.sameAt_setPulse (d : Driver) {id : PulseId} (hid : pduOf id ≠ p) (x : PulseChannel) :
    Driver.SameAt p d (d.setPulse id x) where
  pulse other hother := d.pulse_setPulse_of_ne x fun heq => hid (by rw [← heq]; exact hother)
  queue other _ := by rw [Driver.pulseQueue_setPulse]; exact fun hin => hin

theorem Driver.Closed.sameAt (h : Driver.Closed p c asked d) (k : Driver.SameAt p d e) : Driver.Closed p c asked e :=
  ⟨(k.pulse (.close p) rfl).trans h.record, fun hin => h.out (k.queue (.close p) rfl hin), by
    rw [k.pulse (.trip p) rfl]
    exact h.asked⟩

theorem Driver.Tripped.sameAt (h : Driver.Tripped p c d) (k : Driver.SameAt p d e) : Driver.Tripped p c e :=
  ⟨(k.pulse (.trip p) rfl).trans h.record, by rw [k.pulse (.close p) rfl]; exact h.close,
    fun hin => h.tripOut (k.queue (.trip p) rfl hin), fun hin => h.closeOut (k.queue (.close p) rfl hin)⟩

variable (sc : Scanner) (now : Stamp) (energizing : Bool)

theorem Driver.judgePulse_sameAt (d : Driver) {id : PulseId} (hid : pduOf id ≠ p) :
    Driver.SameAt p d (d.judgePulse sc now energizing id).1 := by
  cases id with
  | trip q =>
    rw [Driver.judgePulse_trip]
    exact d.sameAt_setPulse hid _
  | close q =>
    have hset := d.sameAt_setPulse (id := .close q) hid ((d.pulse (.close q)).judged true)
    rw [Driver.judgePulse_close]
    split
    · exact hset.trans ((Driver.onPdu_rearmAfterClose _ sc now energizing q).sameAt hid)
    · exact d.sameAt_setPulse hid _

/-- The driver once trips and HOLD channels are judged. -/
def Driver.judgedFirst (d : Driver) (sc : Scanner) (now : Stamp) (energizing : Bool) : Driver :=
  ((((d.judgePulse sc now energizing (.trip .a)).1.judgePulse sc now energizing (.trip .b)).1.judgeHold sc .valve).1.judgeHold
    sc .coolstop).1

theorem Driver.judgedFirst_pulses (d : Driver) :
    (∀ id, (d.judgedFirst sc now energizing).pulse id
      = ((d.setPulse (.trip .a) ((d.pulse (.trip .a)).judged (pduOpen sc .a))).setPulse (.trip .b)
        ((d.pulse (.trip .b)).judged (pduOpen sc .b))).pulse id)
      ∧ (d.judgedFirst sc now energizing).pulseQueue = d.pulseQueue := by
  unfold Driver.judgedFirst
  rw [Driver.judgePulse_trip, Driver.judgePulse_trip, d.pulse_setPulse_of_ne _ (show PulseId.trip .b ≠ .trip .a by decide)]
  have hvalve := Driver.judgeHold_pulses ((d.setPulse (.trip .a) ((d.pulse (.trip .a)).judged (pduOpen sc .a))).setPulse (.trip .b)
    ((d.pulse (.trip .b)).judged (pduOpen sc .b))) sc .valve
  have hqueue : ((d.setPulse (.trip .a) ((d.pulse (.trip .a)).judged (pduOpen sc .a))).setPulse (.trip .b)
    ((d.pulse (.trip .b)).judged (pduOpen sc .b))).pulseQueue = d.pulseQueue :=
    (Driver.pulseQueue_setPulse ..).trans (Driver.pulseQueue_setPulse ..)
  generalize (d.setPulse (.trip .a) ((d.pulse (.trip .a)).judged (pduOpen sc .a))).setPulse (.trip .b)
    ((d.pulse (.trip .b)).judged (pduOpen sc .b)) = x at *
  have hcoolstop := Driver.judgeHold_pulses (x.judgeHold sc .valve).1 sc .coolstop
  exact ⟨fun id => (hcoolstop.1 id).trans (hvalve.1 id), hcoolstop.2.trans (hvalve.2.trans hqueue)⟩

/-- Trips judged, closes not yet. -/
theorem Driver.judgedFirst_spec (d : Driver) (p : Pdu) :
    (d.judgedFirst sc now energizing).pulse (.trip p) = (d.pulse (.trip p)).judged (pduOpen sc p)
      ∧ (d.judgedFirst sc now energizing).pulse (.close p) = d.pulse (.close p) := by
  obtain ⟨hpulse, -⟩ := d.judgedFirst_pulses sc now energizing
  rw [hpulse, hpulse]
  cases p with
  | a =>
    refine ⟨?_, ?_⟩
    · rw [Driver.pulse_setPulse_of_ne _ _ (by decide), Driver.pulse_setPulse_self]
    · rw [Driver.pulse_setPulse_of_ne _ _ (by decide), Driver.pulse_setPulse_of_ne _ _ (by decide)]
  | b =>
    refine ⟨Driver.pulse_setPulse_self .., ?_⟩
    rw [Driver.pulse_setPulse_of_ne _ _ (by decide), Driver.pulse_setPulse_of_ne _ _ (by decide)]

theorem Driver.judgedFirst_hold (d : Driver) (id : HoldId) :
    ((d.judgedFirst sc now energizing).hold id).Judged ((d.hold id).judgedFlag (sc.active (limitContact id))) := by
  have hsame := (d.sameBut_judgePulse sc now energizing (.trip .a)).trans
    (Driver.sameBut_judgePulse _ sc now energizing (.trip .b))
  unfold Driver.judgedFirst
  generalize ((d.judgePulse sc now energizing (.trip .a)).1.judgePulse sc now energizing (.trip .b)).1 = x at hsame
  rw [← hsame.2 id]
  cases id with
  | valve =>
    rw [Driver.judgeHold_of_ne _ _ (by decide)]
    exact x.judgeHold_self sc .valve
  | coolstop =>
    rw [← x.judgeHold_of_ne sc (show HoldId.coolstop ≠ .valve by decide)]
    exact Driver.judgeHold_self _ sc .coolstop

theorem Driver.faultEnds_eq (d : Driver) : (d.faultEnds sc now energizing).1
    = (((d.judgedFirst sc now energizing).judgePulse sc now energizing (.close .a)).1.judgePulse sc now energizing
      (.close .b)).1 := rfl

/-- For one PDU the judgement is that of its trip, then that of its close. -/
theorem Driver.faultEnds_at (d : Driver) (p : Pdu) : ∃ x, Driver.SameAt p (d.judgedFirst sc now energizing) x
    ∧ Driver.SameAt p (x.judgePulse sc now energizing (.close p)).1 (d.faultEnds sc now energizing).1 := by
  rw [Driver.faultEnds_eq]
  cases p with
  | a => exact ⟨_, .refl _ _, Driver.judgePulse_sameAt sc now energizing _ (show pduOf (.close .b) ≠ .a by decide)⟩
  | b => exact ⟨_, Driver.judgePulse_sameAt sc now energizing _ (show pduOf (.close .a) ≠ .b by decide), .refl _ _⟩

theorem Driver.judgePulse_close_failed (d : Driver) (p : Pdu) :
    ((d.judgePulse sc now energizing (.close p)).1.pulse (.trip p)).failed = (d.pulse (.trip p)).failed
      ∧ ((d.judgePulse sc now energizing (.close p)).1.pulse (.close p)).failed
        = ((d.pulse (.close p)).judged (!pduOpen sc p)).failed := by
  have hne : PulseId.trip p ≠ .close p := nofun
  rw [Driver.judgePulse_close]
  split
  · next hproved =>
    have hon := Driver.onPdu_rearmAfterClose (d.setPulse (.close p) ((d.pulse (.close p)).judged true)) sc now energizing p
    have hclosed : pduOpen sc p = false := by
      unfold Driver.closeProved at hproved
      simpa using (Bool.and_eq_true_iff.1 hproved).2
    rw [hon.failed, hon.failed, Driver.pulse_setPulse_of_ne _ _ hne, Driver.pulse_setPulse_self, hclosed]
    exact ⟨rfl, rfl⟩
  · rw [Driver.pulse_setPulse_of_ne _ _ hne, Driver.pulse_setPulse_self]
    exact ⟨rfl, rfl⟩

/-- Failed flags at the fault's end. -/
theorem Driver.faultEnds_failed (d : Driver) (id : PulseId) : ((d.faultEnds sc now energizing).1.pulse id).failed
    = ((d.pulse id).judged (awaitedHolds sc id)).failed := by
  have hboth : ∀ p, ((d.faultEnds sc now energizing).1.pulse (.trip p)).failed
        = ((d.pulse (.trip p)).judged (awaitedHolds sc (.trip p))).failed
      ∧ ((d.faultEnds sc now energizing).1.pulse (.close p)).failed
        = ((d.pulse (.close p)).judged (awaitedHolds sc (.close p))).failed := by
    intro p
    obtain ⟨x, hbefore, hafter⟩ := d.faultEnds_at sc now energizing p
    obtain ⟨htrip, hclose⟩ := d.judgedFirst_spec sc now energizing p
    obtain ⟨htripFlag, hcloseFlag⟩ := x.judgePulse_close_failed sc now energizing p
    rw [hafter.pulse (.trip p) rfl, htripFlag, hbefore.pulse (.trip p) rfl, htrip, hafter.pulse (.close p) rfl, hcloseFlag,
      hbefore.pulse (.close p) rfl, hclose]
    exact ⟨rfl, rfl⟩
  cases id with
  | trip p => exact (hboth p).1
  | close p => exact (hboth p).2

theorem Driver.faultEnds_hold (d : Driver) (id : HoldId) :
    ((d.faultEnds sc now energizing).1.hold id).Judged ((d.hold id).judgedFlag (sc.active (limitContact id))) := by
  rw [Driver.faultEnds_eq, (Driver.sameBut_judgePulse _ sc now energizing (.close .b)).2,
    (Driver.sameBut_judgePulse _ sc now energizing (.close .a)).2]
  exact d.judgedFirst_hold sc now energizing id

/-- An unconfirmed close that stands SPENT (R137). -/
theorem Driver.faultEnds_closed (d : Driver) (p : Pdu) (hspent : (d.pulse (.close p)).state = .spent)
    (hmark : (d.pulse (.close p)).unconfirmed = true) (hout : .close p ∉ d.pulseQueue) :
    Driver.Closed p ((d.pulse (.close p)).judged (!pduOpen sc p))
      (pduOpen sc p = false ∧ (d.pulse (.trip p)).Rearmable) (d.faultEnds sc now false).1 := by
  obtain ⟨x, hbefore, hafter⟩ := d.faultEnds_at sc now false p
  obtain ⟨htrip, hclose⟩ := d.judgedFirst_spec sc now false p
  obtain ⟨-, hqueue⟩ := d.judgedFirst_pulses sc now false
  refine Driver.Closed.sameAt ?_ hafter
  have hx : x.pulse (.close p) = d.pulse (.close p) := (hbefore.pulse (.close p) rfl).trans hclose
  have hxt : (x.pulse (.trip p)).state = (d.pulse (.trip p)).state := by
    rw [hbefore.pulse (.trip p) rfl, htrip]
    rfl
  have hxout : PulseId.close p ∉ x.pulseQueue := fun hin => hout (by rw [← hqueue]; exact hbefore.queue (.close p) rfl hin)
  have hset : ∀ met, Driver.Closed p ((d.pulse (.close p)).judged met) False
      (x.setPulse (.close p) ((d.pulse (.close p)).judged met)) := fun met =>
    ⟨Driver.pulse_setPulse_self .., by rw [Driver.pulseQueue_setPulse]; exact hxout, nofun⟩
  rw [Driver.judgePulse_close, hx]
  by_cases hopen : pduOpen sc p = true
  · have hproved : x.closeProved sc p = false := by
      unfold Driver.closeProved
      rw [hopen]
      exact Bool.and_false _
    have hkept := hset (!pduOpen sc p)
    rw [hproved, if_neg Bool.false_ne_true]
    exact ⟨hkept.record, hkept.out, fun ha => absurd ha.1 (by rw [hopen]; exact nofun)⟩
  · have hclosed : pduOpen sc p = false := Bool.eq_false_iff.2 hopen
    have hproved : x.closeProved sc p = true := by
      unfold Driver.closeProved
      rw [hx, hspent, hmark, hclosed]
      rfl
    rw [hproved, if_pos rfl, hclosed]
    refine (hset true).rearmed hspent hclosed (fun ha => ?_) now
    rw [Driver.pulse_setPulse_of_ne _ _ (show PulseId.trip p ≠ .close p from nofun)]
    unfold PulseChannel.Rearmable
    rw [hxt]
    exact ha.2

/-- An unconfirmed trip that stands SPENT, its close READY (R137). -/
theorem Driver.faultEnds_tripped (d : Driver) (p : Pdu) (hclose : (d.pulse (.close p)).state = .ready)
    (htripOut : .trip p ∉ d.pulseQueue) (hcloseOut : .close p ∉ d.pulseQueue) :
    Driver.Tripped p ((d.pulse (.trip p)).judged (pduOpen sc p)) (d.faultEnds sc now energizing).1 := by
  obtain ⟨x, hbefore, hafter⟩ := d.faultEnds_at sc now energizing p
  obtain ⟨htrip, hfirst⟩ := d.judgedFirst_spec sc now energizing p
  obtain ⟨-, hqueue⟩ := d.judgedFirst_pulses sc now energizing
  refine Driver.Tripped.sameAt ?_ hafter
  have hx : x.pulse (.close p) = d.pulse (.close p) := (hbefore.pulse (.close p) rfl).trans hfirst
  have hproved : x.closeProved sc p = false := by
    unfold Driver.closeProved
    rw [hx, hclose]
    rfl
  rw [Driver.judgePulse_close, hproved, if_neg Bool.false_ne_true, hx]
  refine ⟨?_, ?_, ?_, ?_⟩
  · rw [Driver.pulse_setPulse_of_ne _ _ (show PulseId.trip p ≠ .close p from nofun), hbefore.pulse (.trip p) rfl, htrip]
  · rw [Driver.pulse_setPulse_self]
    exact hclose
  · rw [Driver.pulseQueue_setPulse]
    exact fun hin => htripOut (by rw [← hqueue]; exact hbefore.queue (.trip p) rfl hin)
  · rw [Driver.pulseQueue_setPulse]
    exact fun hin => hcloseOut (by rw [← hqueue]; exact hbefore.queue (.close p) rfl hin)

end

/-! ### The scan that ends the fault -/

section
variable {s : State} {frame : BitVec 24} {P : Driver → Prop}

theorem State.EndsFault.under (h : s.EndsFault frame) (hphase : s.act.coord.phase ≠ .energizing)
    (k : Driver.Kept (s.scanView frame) false P) (ks : Driver.KeptServing (s.scanView frame) false P)
    (ki : ∀ i, Driver.KeptBy (s.scanView frame) false P i)
    (hjudged : P (s.act.drv.faultEnds (s.scanView frame).scanner (s.scanView frame).now false).1) :
    P ((s.scanned frame).endEvent s).act.drv := by
  have hen : s.act.energizing = false := decide_eq_false hphase
  have hends : (s.act.faultEnds (s.scanView frame)).Under false P := by
    unfold Actors.faultEnds
    rw [hen]
    exact (Actors.Under.operate k (Q := fun _ => True) ⟨trivial, fun he => absurd he hphase⟩ _ hjudged).checkAuthority k
  have hscanned : (s.scanned frame).act.Under false P := by
    rw [h.scanned_act]
    exact hends.inputs k _ fun i _ => ki i
  exact (State.under_endEvent (s := s.scanned frame) s k ks hscanned).drv

end

end Sys2Proof.Machine
end


section
/-! PROOFS. The trip button, the key released, and input 5 while a grace runs (R105, R109, R156). -/

namespace Sys2Proof.Machine

/-! ### The trip floor -/

section
variable {a : Actors} {v : View}

/-- The trip floor is raised by the trip button alone, and lowered by no input. -/
theorem Actors.onInput_floor (a : Actors) (v : View) (i : Nat) : (a.onInput v i).seq.floor
    = if i = 6 ∧ v.scanner.active 6 = true then a.seq.floor.higher .isolate else a.seq.floor := by
  have hother : ∀ b : Actors, i ≠ 6 → b.seq.floor = a.seq.floor → b.seq.floor
      = if i = 6 ∧ v.scanner.active 6 = true then a.seq.floor.higher .isolate else a.seq.floor := fun b hi hb => by
    rw [if_neg fun h => hi h.1, hb]
  unfold Actors.onInput
  split
  · exact hother _ nofun (a.reach_operate v _ (Driver.moves_pduInput ..)).floor
  · exact hother _ nofun (a.reach_operate v _ (Driver.moves_pduInput ..)).floor
  · exact hother _ nofun (a.reach_operate v _ (Driver.moves_holdInput ..)).floor
  · exact hother _ nofun (a.reach_operate v _ (Driver.moves_holdInput ..)).floor
  · split
    · exact hother _ nofun (a.reach_endGrace v).floor
    · exact hother _ nofun rfl
  · split
    · next hactive =>
      rw [if_pos ⟨rfl, hactive⟩]
      exact (a.grows_tripTo v .isolate).floor
    · next hactive => rw [if_neg fun h => hactive h.2]
  · exact hother _ nofun (a.reach_onKey v _).floor
  · exact hother _ nofun (a.reach_compareBackoff v).floor
  · next hsix _ _ => exact hother _ hsix rfl

theorem Actors.onInputs_floor (is : List Nat) (a : Actors) :
    a.seq.floor.code ≤ (a.onInputs v is).seq.floor.code := by
  induction is generalizing a with
  | nil => exact le_rfl
  | cons i is ih =>
    refine le_trans ?_ (ih (a.onInput v i))
    rw [a.onInput_floor v i]
    split
    · rw [Stage.code_higher]
      exact le_max_left _ _
    · exact le_rfl

theorem Actors.asks_adoptChannels (a : Actors) (v : View) (stage : Stage) :
    Actors.Asks False False a (a.adoptChannels v stage) := by
  have hall : ∀ (l : List Stage) (b : Actors),
      Actors.Asks False False b (l.foldl (fun a st => a.drive v fun d => d.adoptStage v.scanner v.now st) b) := by
    intro l
    induction l with
    | nil => exact .refl
    | cons st l ih => exact fun b => (b.asks_drive v _).andThen (ih _)
  unfold Actors.adoptChannels
  split
  · exact hall _ a
  · exact .refl a

/-- Adoption leaves the trip floor. -/
theorem Actors.adopt_floor (a : Actors) (v : View) (stage : Stage) : (a.adopt v stage).seq.floor = a.seq.floor := by
  have hchannels : (a.adoptChannels v stage).seq.floor = a.seq.floor := by rw [(a.asks_adoptChannels v stage).seq]
  exact (Actors.touch_adoptStage _ v stage).floor.trans ((Actors.touch_adoptPhase _ v stage).floor.trans hchannels)

end

section
variable {s : State} {frame : BitVec 24}

/-- What a scan leaves at its end of what no adoption and no notice of the arbiter touches. -/
theorem State.completeScan_keeps {α : Type} (f : Actors → α) (s : State) (frame : BitVec 24)
    (hadopt : ∀ stage, f ((s.scanned frame).act.adopt (s.scanView frame) stage) = f (s.scanned frame).act)
    (hend : ∀ a b : Actors, a.StepOnly b → f b = f a) :
    f ((s.completeScan frame).endEvent s).act = f (s.scanned frame).act := by
  rw [hend _ _ ((s.completeScan frame).stepOnly_endEvent s)]
  have hscan : s.completeScan frame = if !s.scanner.known && (s.scanner.complete frame).known then (s.scanned frame).onKnown
      else s.scanned frame := rfl
  rw [hscan]
  split
  · unfold State.onKnown
    split
    · exact hadopt _
    · rfl
    · rfl
  · rfl

theorem State.HandsOver.button_pressed (h : s.HandsOver frame 6 true) :
    3 ≤ ((s.completeScan frame).endEvent s).act.seq.floor.code := by
  obtain ⟨l, r, -, -, hact⟩ := h.scanned_split
  rw [State.completeScan_keeps (fun a => a.seq.floor) s frame (fun stage => Actors.adopt_floor _ _ stage)
    fun a b hab => by rw [hab.seq], hact]
  refine le_trans ?_ (Actors.onInputs_floor r _)
  rw [Actors.onInput_floor, if_pos ⟨rfl, h.active⟩, Stage.code_higher]
  exact le_max_right _ _

end

/-! ### The key released (R156) -/

section
variable {a : Actors} {v : View}

/-- The backoff comparison leaves the key withheld mark and the grace. -/
theorem Actors.compareBackoff_keeps (a : Actors) (v : View) :
    (a.compareBackoff v).coord.keyWithheld = a.coord.keyWithheld ∧ (a.compareBackoff v).seq.grace = a.seq.grace := by
  have hset : ∀ (b : Actors) phase, (b.setPhase v phase).coord.keyWithheld = b.coord.keyWithheld
      ∧ (b.setPhase v phase).seq.grace = b.seq.grace := fun b phase => ⟨(b.setPhase_leave v phase).2, by rw [b.setPhase_seq v phase]⟩
  have hbid : ∀ b : Actors, (b.enterBidding v).coord.keyWithheld = b.coord.keyWithheld
      ∧ (b.enterBidding v).seq.grace = b.seq.grace := fun b => hset b .bidding
  unfold Actors.compareBackoff
  split
  · exact ⟨rfl, rfl⟩
  · split
    · exact ⟨rfl, rfl⟩
    · split
      · exact ⟨rfl, rfl⟩
      · split
        · unfold Actors.endStagger
          split
          · exact hbid a
          · unfold Actors.enterAwaitPermit Actors.checkAuthority
            obtain ⟨hkey, hgrace⟩ := hset a .awaitPermit
            split
            · obtain ⟨hkey', hgrace'⟩ := hbid (a.setPhase v .awaitPermit)
              exact ⟨hkey'.trans hkey, hgrace'.trans hgrace⟩
            · exact ⟨hkey, hgrace⟩
        · exact ⟨rfl, rfl⟩

/-- The inputs after the key's leave the key withheld mark. -/
theorem Actors.onInputs_withheld {r : List Nat} (hr : ∀ j ∈ r, 7 < j) (a : Actors) :
    (a.onInputs v r).coord.keyWithheld = a.coord.keyWithheld := by
  induction r generalizing a with
  | nil => rfl
  | cons j r ih =>
    refine (ih (fun k hk => hr k (List.mem_cons_of_mem j hk)) (a.onInput v j)).trans ?_
    have hj := hr j List.mem_cons_self
    unfold Actors.onInput
    split
    any_goals omega
    · exact (a.compareBackoff_keeps v).1
    · rfl

/-- Adoption leaves the key withheld mark. -/
theorem Actors.adopt_withheld (a : Actors) (v : View) (stage : Stage) :
    (a.adopt v stage).coord.keyWithheld = a.coord.keyWithheld := by
  have hchannels := (a.asks_adoptChannels v stage).coord
  have hphase := ((a.adoptChannels v stage).adoptPhase_leave v stage).2
  rw [Actors.adopt_eq, Actors.adoptStage_eq]
  generalize (a.adoptChannels v stage).adoptPhase v stage = b at hphase
  have htold : ((b.takeStage v stage).tellStage v stage).coord = b.coord := by
    unfold Actors.tellStage
    split <;> rfl
  have hcut : ∀ c : Actors, (c.cutByFloor v).coord = c.coord := fun c => by
    unfold Actors.cutByFloor
    split
    · exact (c.asks_endGrace v).coord
    · rfl
  rw [hcut, (Actors.aside_compare _ v).withheld, htold, hphase, hchannels]

end

theorem State.HandsOver.key_released {s : State} {frame : BitVec 24} (h : s.HandsOver frame 7 false) :
    ((s.completeScan frame).endEvent s).act.coord.keyWithheld = false := by
  obtain ⟨l, r, -, hr, hact⟩ := h.scanned_split
  rw [State.completeScan_keeps (fun a => a.coord.keyWithheld) s frame (fun stage => Actors.adopt_withheld _ _ stage)
    fun a b hab => by rw [hab.coord], hact, Actors.onInputs_withheld hr]
  show (((s.act.onInputs (s.scanView frame) l).onKey (s.scanView frame) ((s.scanView frame).scanner.active 7))).coord.keyWithheld
    = false
  rw [h.active]
  rfl

end Sys2Proof.Machine
end


section
/-! PROOFS. Input 5 while a grace runs (R105), and a HOLD channel released outside ENERGIZING (R125). -/

namespace Sys2Proof.Machine

section
variable {a b c : Actors} {v : View}

/-! ### The inputs of the driver, with no step under way -/

/-- What the inputs of lower number than the trip button leave of sequencer and coordinator. -/
theorem Actors.onInput_asks (a : Actors) (v : View) {j : Nat} (hj : j < 6) (h : a.coord.step = .none) :
    Actors.Asks False False a (a.onInput v j) := by
  unfold Actors.onInput
  split
  · exact a.asks_operate v _ h
  · exact a.asks_operate v _ h
  · exact a.asks_operate v _ h
  · exact a.asks_operate v _ h
  · split
    · exact a.asks_endGrace v
    · exact .refl a
  any_goals omega
  · exact .refl a

theorem Actors.drive_grace (a : Actors) (v : View) (f : Driver → Driven) : (a.drive v f).seq.grace = a.seq.grace :=
  (Actors.unasked_hearAll v (f a.drv).2 (a.withDrv (f a.drv).1)).grace

theorem Actors.onInput_grace (a : Actors) (v : View) {j : Nat} (hj : j < 5) (h : a.coord.step = .none) :
    (a.onInput v j).seq.grace = a.seq.grace := by
  have hoperate : ∀ f, (a.operate v f).seq.grace = a.seq.grace := fun f => by
    rw [a.operate_of_no_step v f h]
    exact a.drive_grace v f
  unfold Actors.onInput
  split
  · exact hoperate _
  · exact hoperate _
  · exact hoperate _
  · exact hoperate _
  any_goals omega
  · rfl

theorem Actors.onInputs_grace {l : List Nat} (hl : ∀ j ∈ l, j < 5) (h : a.coord.step = .none) :
    (a.onInputs v l).seq.grace = a.seq.grace ∧ (a.onInputs v l).coord = a.coord := by
  induction l generalizing a with
  | nil => exact ⟨rfl, rfl⟩
  | cons j l ih =>
    have hj := hl j List.mem_cons_self
    have hask := a.onInput_asks v (Nat.lt_succ_of_lt hj) h
    obtain ⟨hgrace, hcoord⟩ := ih (a := a.onInput v j) (fun k hk => hl k (List.mem_cons_of_mem j hk))
      (by rw [hask.coord]; exact h)
    exact ⟨hgrace.trans (a.onInput_grace v hj h), hcoord.trans hask.coord⟩

/-! ### Trips that have been asked for -/

/-- Neither trip stands READY. -/
def Driver.Asked (d : Driver) : Prop := ∀ p, (d.pulse (.trip p)).state ≠ .ready

theorem Driver.Asked.of_same {d e : Driver} (h : d.Asked) (hsame : ∀ p, e.pulse (.trip p) = d.pulse (.trip p)) : e.Asked :=
  fun p => by rw [hsame]; exact h p

theorem Driver.kept_asked (v : View) : Driver.Kept v false Driver.Asked where
  level d id x h := h.of_same fun p => d.pulse_setLevel id x _
  assert d id h := h.of_same fun p => d.pulse_assertHold v.scanner v.now id _
  trip d p h q := by
    obtain ⟨hp, hother⟩ := d.requestTrip_trips v.scanner v.now p
    by_cases hq : q = p
    · rw [hq]
      exact hp
    · rw [hother q hq]
      exact h q
  stop d p h := h.of_same fun q => d.trip_stopClose v.now p q
  close := nofun

theorem Driver.keptServing_asked (v : View) : Driver.KeptServing v false Driver.Asked := by
  intro d e id rest he _ h q
  have he : e = false := Bool.eq_false_iff.2 fun htrue => nomatch he htrue
  obtain ⟨hhead, hother, -⟩ := Driver.judgeHead_idle { d with pulseQueue := rest } v.scanner v.now id
  rw [he]
  by_cases hq : PulseId.trip q = id
  · have hone := hhead q hq.symm
    rw [← hq] at hone ⊢
    exact hone
  · rw [hother q hq, Driver.pulse_withQueue]
    exact h q

/-- The inputs of higher number than 3 are none of the driver's. -/
theorem Driver.keptBy_high (v : View) (en : Bool) (P : Driver → Prop) {i : Nat} (hi : 3 < i) : Driver.KeptBy v en P i where
  pdu _ _ p hp := absurd (hp ▸ hi) (by cases p <;> decide)
  limit _ id hid := absurd (hid ▸ hi) (by cases id <;> decide)

/-- An ended grace whose trips have been asked for outlives the inputs after input 5. -/
theorem Actors.onInput_ended {j : Nat} (hj : 5 < j) (h : a.Under false Driver.Asked) (hgrace : a.seq.grace = .ended) :
    (a.onInput v j).seq.grace = .ended := by
  have hne : a.coord.phase ≠ .energizing := fun he => nomatch h.phase he
  unfold Actors.onInput
  split
  any_goals omega
  · split
    · obtain ⟨-, hkept⟩ := Actors.compare_again (a := a.floored .isolate) (v := v) hne (by
        show a.seq.grace ≠ .none
        rw [hgrace]
        exact nofun) fun _ => h.drv
      have hcompared : ((a.floored .isolate).compare v).seq.grace = .ended := hkept.grace.trans hgrace
      have hphase : ((a.floored .isolate).compare v).coord.phase ≠ .energizing := fun he => by
        have hfloored : (a.floored .isolate).Under false Driver.Asked := h.of_same rfl rfl
        exact nomatch (hfloored.compare (Driver.kept_asked v)).phase he
      show (((a.floored .isolate).compare v).onTrip v).seq.grace = .ended
      rcases Actors.onTrip_cases ((a.floored .isolate).compare v) v with ⟨he, -⟩ | ⟨-, hen⟩ | ⟨he, -⟩
      · rw [he]
        exact (Actors.enterQuietWait_seq _ v).1.trans hcompared
      · exact absurd hen hphase
      · rw [he]
        exact hcompared
    · exact hgrace
  · unfold Actors.onKey
    split
    · unfold Actors.checkAuthority
      split
      · show (a.setPhase v .bidding).seq.grace = .ended
        rw [a.setPhase_seq v .bidding]
        exact hgrace
      · exact hgrace
    · exact hgrace
  · exact (a.compareBackoff_keeps v).2.trans hgrace

theorem Actors.onInputs_ended {r : List Nat} (hr : ∀ j ∈ r, 5 < j) (h : a.Under false Driver.Asked)
    (hgrace : a.seq.grace = .ended) : (a.onInputs v r).seq.grace = .ended ∧ (a.onInputs v r).Under false Driver.Asked := by
  induction r generalizing a with
  | nil => exact ⟨hgrace, h⟩
  | cons j r ih =>
    have hj := hr j List.mem_cons_self
    exact ih (fun k hk => hr k (List.mem_cons_of_mem j hk))
      (h.onInput (Driver.kept_asked v) (Driver.keptBy_high v false _ (Nat.lt_of_succ_lt (Nat.lt_of_succ_lt hj))))
      (Actors.onInput_ended hj h hgrace)

end

theorem State.HandsOver.grace_cut {s : State} {frame : BitVec 24} {expiry : Stamp} (h : s.HandsOver frame 5 true)
    (hcoord : s.act.coord.Sound) (hstate : s.startup.state ≠ .awaitingInputs) (hphase : s.act.coord.phase ≠ .energizing)
    (hgrace : s.act.seq.grace = .running expiry) :
    ((s.completeScan frame).endEvent s).act.seq.grace = .ended ∧ ((s.completeScan frame).endEvent s).act.drv.Asked := by
  obtain ⟨l, r, hl, hr, hact⟩ := h.scanned_split
  have hstep : s.act.coord.step = .none := Decidable.not_not.1 (mt hcoord.1 hphase)
  obtain ⟨hrunning, hkept⟩ := Actors.onInputs_grace (a := s.act) (v := s.scanView frame) hl hstep
  generalize s.act.onInputs (s.scanView frame) l = b at hact hrunning hkept
  have hcut : b.onInput (s.scanView frame) 5 = b.endGrace (s.scanView frame) := if_pos h.active
  obtain ⟨hended, hasked⟩ := Actors.endGrace_of_running (v := s.scanView frame) (hrunning.trans hgrace)
  have hunder : (b.endGrace (s.scanView frame)).Under false Driver.Asked :=
    .of_phase hasked (by rw [(b.asks_endGrace _).coord, hkept]; exact hphase)
  obtain ⟨hlast, hlastUnder⟩ := Actors.onInputs_ended (v := s.scanView frame) hr hunder hended
  rw [hcut] at hact
  rw [← hact] at hlast hlastUnder
  rw [State.completeScan_of_running hstate]
  refine ⟨?_, (State.under_endEvent (s := s.scanned frame) s (Driver.kept_asked _) (Driver.keptServing_asked _) hlastUnder).drv⟩
  rw [((s.scanned frame).stepOnly_endEvent s).seq]
  exact hlast

end Sys2Proof.Machine
end


section
/-! PROOFS. A HOLD channel released outside ENERGIZING (R125), and the last release of step A (R168). -/

namespace Sys2Proof.Machine

section
variable {a b c : Actors} {v : View} {id : HoldId}

/-! ### Acts that leave a HOLD channel while no SAFE wait stands -/

/-- With no SAFE wait standing none begins, and the HOLD channel stands as it did. -/
def Actors.Spares (id : HoldId) (a b : Actors) : Prop :=
  a.seq.safeWait = false → b.seq.safeWait = false ∧ b.drv.hold id = a.drv.hold id

theorem Actors.Spares.refl (id : HoldId) (a : Actors) : Actors.Spares id a a := fun h => ⟨h, rfl⟩

theorem Actors.Spares.trans (h : Actors.Spares id a b) (k : Actors.Spares id b c) : Actors.Spares id a c := fun hw => by
  obtain ⟨hb, hone⟩ := h hw
  obtain ⟨hc, htwo⟩ := k hb
  exact ⟨hc, htwo.trans hone⟩

theorem Actors.Abides.spares (h : a.Abides b) : Actors.Spares id a b := fun hw => ⟨h.wait hw, h.hold id (.inr hw)⟩

theorem Actors.Spares.of_same (hhold : b.drv.hold id = a.drv.hold id) (hwait : b.seq.safeWait = a.seq.safeWait) :
    Actors.Spares id a b := fun hw => ⟨hwait.trans hw, hhold⟩

theorem Actors.spares_drive (f : Driver → Driven) (h : (f a.drv).1.hold id = a.drv.hold id) : Actors.Spares id a (a.drive v f) :=
  Actors.Spares.trans (b := a.withDrv (f a.drv).1) (.of_same h rfl) (Actors.abides_hearAll v _ _).spares

theorem Actors.spares_tripReady (a : Actors) (v : View) : Actors.Spares id a (a.tripReady v) := by
  have hone : ∀ (p : Pdu) (b : Actors), Actors.Spares id b
      (if (b.drv.pulse (.trip p)).state = .ready then b.drive v (·.requestTrip v.scanner v.now p) else b) := by
    intro p b
    split
    · exact Actors.spares_drive _ ((b.drv.sameBut_requestTrip v.scanner v.now p).2 id)
    · exact .refl id b
  exact (hone .a a).trans (hone .b _)

theorem Actors.spares_withGrace (a : Actors) (g : Grace) : Actors.Spares id a (a.withSeq { a.seq with grace := g }) :=
  .of_same rfl rfl

theorem Actors.spares_endGrace (a : Actors) (v : View) : Actors.Spares id a (a.endGrace v) := by
  unfold Actors.endGrace
  split
  · exact (a.spares_withGrace .ended).trans (Actors.spares_tripReady _ v)
  · exact .refl id a
  · exact .refl id a

theorem Actors.spares_bringIsolate (a : Actors) (v : View) : Actors.Spares id a (a.bringIsolate v) := by
  unfold Actors.bringIsolate
  split
  · unfold Actors.cutAtStart
    split
    · exact (a.spares_withGrace _).trans (Actors.spares_endGrace _ v)
    · exact a.spares_withGrace _
  · exact .refl id a
  · exact a.spares_tripReady v

theorem Actors.spares_bringUp_isolate (a : Actors) (v : View) : Actors.Spares id a (a.bringUp v .isolate) := by
  have hlevel : ∀ (b : Actors) (x y : LevelId), Actors.Spares id b (b.withDrv ((b.drv.assertLevel x).assertLevel y)) :=
    fun b x y => .of_same ((Driver.hold_setLevel ..).trans (Driver.hold_setLevel ..)) rfl
  exact ((hlevel a .advise .lift).trans (hlevel _ .freeze .haltreq)).trans (Actors.spares_bringIsolate _ v)

theorem Actors.spares_enterQuietWait (a : Actors) (v : View) : Actors.Spares id a (a.enterQuietWait v) :=
  (a.abides_setPhase v .quietWait).spares.trans (.of_same rfl rfl)

/-- A raise to ISOLATE outside ENERGIZING. -/
theorem Actors.spares_raise_isolate (hne : a.coord.phase ≠ .energizing) : Actors.Spares id a (a.raise v .isolate) := by
  have hlifted : Actors.Spares id a (a.lifted v .isolate) :=
    (Actors.Spares.trans (b := a.setStage v .isolate) (.of_same rfl rfl) (Actors.spares_bringUp_isolate _ v)).trans
      (.of_same rfl rfl)
  rw [Actors.raise_eq]
  rcases Actors.onRise_cases (a := a.lifted v .isolate) (new := .isolate) (v := v) (by rwa [Actors.lifted_coord]) with h | ⟨h, -⟩
  · rw [h]
    exact hlifted.trans (Actors.spares_enterQuietWait _ v)
  · rw [h]
    exact hlifted

/-! ### The inputs outside ENERGIZING -/

/-- The coordinator at rest from energizing, and the stage at or above the demand outside the rejoin hold (R100). -/
structure Actors.Settled (a : Actors) : Prop where
  quiescent : a.Quiescent
  met : a.seq.rejoinHold = false → a.Met

theorem Actors.Settled.of_asks (h : a.Settled) (k : Actors.Asks False False a b) : b.Settled where
  quiescent := by
    unfold Actors.Quiescent
    rw [k.coord]
    exact h.quiescent
  met hhold := by
    have hsame : b.seq.rejoinHold = a.seq.rejoinHold ∧ b.seq.demand = a.seq.demand ∧ b.seq.stage = a.seq.stage := by
      rw [k.seq]
      exact ⟨rfl, rfl, rfl⟩
    obtain ⟨hsameHold, hdemand, hstage⟩ := hsame
    unfold Actors.Met
    rw [hdemand, hstage]
    exact h.met (hsameHold.symm.trans hhold)

/-- The trip button outside ENERGIZING raises to ISOLATE at most. -/
theorem Actors.Settled.localTrip (h : a.Settled) : (a.localTrip v).Settled ∧ Actors.Spares id a (a.localTrip v) := by
  have hgrows := a.grows_tripTo v .isolate
  have hquiet : (a.floored .isolate).Quiescent := h.quiescent
  have hspares : Actors.Spares id a ((a.floored .isolate).compare v) := by
    refine Actors.Spares.trans (b := a.floored .isolate) (.of_same rfl rfl) ?_
    cases hhold : a.seq.rejoinHold with
    | true =>
      rw [Actors.compare_of_hold _ v (show (a.floored .isolate).seq.rejoinHold = true from hhold)]
      exact .refl id _
    | false =>
      rcases (a.floored .isolate).compare_cases v hhold with ⟨hlt, he⟩ | ⟨-, he⟩
      · have hmet : a.seq.demand.code ≤ a.seq.stage.code := h.met hhold
        have hisolate : (a.floored .isolate).seq.demand = .isolate := by
          refine Stage.code_injective ?_
          have hdemand : (a.floored .isolate).seq.demand.code = max a.seq.target.code (max a.seq.floor.code 3) := by
            show (a.seq.target.higher (a.seq.floor.higher .isolate)).code = _
            rw [Stage.code_higher, Stage.code_higher]
            rfl
          have hlt : a.seq.stage.code < (a.floored .isolate).seq.demand.code := hlt
          unfold Sequencer.demand at hmet
          rw [Stage.code_higher] at hmet
          rw [hdemand] at hlt ⊢
          show _ = 3
          omega
        rw [he, hisolate]
        exact Actors.spares_raise_isolate hquiet.1
      · rw [he]
        exact .refl id _
  have hcompared := ((a.floored .isolate).reach_compare v).grows hquiet
  refine ⟨⟨(hgrows.grows hquiet).1, fun hhold => ?_⟩, ?_⟩
  · have hhold : a.seq.rejoinHold = false := hgrows.rejoinHold.symm.trans hhold
    have hstage : (a.localTrip v).seq.stage = ((a.floored .isolate).compare v).seq.stage :=
      (((a.floored .isolate).compare v).aside_onTrip v).2.1
    have hdemand : (a.localTrip v).seq.demand = (a.floored .isolate).seq.demand := by
      show (a.localTrip v).seq.target.higher (a.localTrip v).seq.floor = _
      rw [show (a.localTrip v).seq.target = _ from hgrows.target, show (a.localTrip v).seq.floor = _ from hgrows.floor]
      rfl
    unfold Actors.Met
    rw [hstage, hdemand, Actors.compare_stage (a.floored .isolate) v hhold, Stage.code_higher]
    exact le_max_right _ _
  · show Actors.Spares id a (((a.floored .isolate).compare v).onTrip v)
    rcases Actors.onTrip_cases ((a.floored .isolate).compare v) v with ⟨he, -⟩ | ⟨-, hen⟩ | ⟨he, -⟩
    · rw [he]
      exact hspares.trans (Actors.spares_enterQuietWait _ v)
    · exact absurd hen hcompared.1.1
    · rw [he]
      exact hspares

/-- The other inputs leave the phase out of ENERGIZING and the demand met. -/
theorem Actors.Settled.of_reach (h : a.Settled) (k : a.Reach v b) (hstage : b.seq.stage = a.seq.stage) : b.Settled where
  quiescent := (k.grows h.quiescent).1
  met hhold := by
    have hdemand : b.seq.demand = a.seq.demand := by
      unfold Sequencer.demand
      rw [k.target, k.floor]
    unfold Actors.Met
    rw [hdemand, hstage]
    exact h.met (k.rejoinHold.symm.trans hhold)

theorem Actors.checkAuthority_abides (a : Actors) (v : View) :
    (a.checkAuthority v).seq.stage = a.seq.stage ∧ a.Abides (a.checkAuthority v) := by
  unfold Actors.checkAuthority
  split
  · exact ⟨a.setPhase_stage v .bidding, (a.abides_setPhase v .bidding).trans (.of_same (.refl _) rfl)⟩
  · exact ⟨rfl, .of_same (.refl _) rfl⟩

theorem Actors.compareBackoff_abides (a : Actors) (v : View) :
    (a.compareBackoff v).seq.stage = a.seq.stage ∧ a.Abides (a.compareBackoff v) := by
  have hbid : ∀ b : Actors, (b.enterBidding v).seq.stage = b.seq.stage ∧ b.Abides (b.enterBidding v) := fun b =>
    ⟨b.setPhase_stage v .bidding, (b.abides_setPhase v .bidding).trans (.of_same (.refl _) rfl)⟩
  unfold Actors.compareBackoff
  split
  · exact ⟨rfl, .of_same (.refl _) rfl⟩
  · split
    · exact ⟨rfl, .of_same (.refl _) rfl⟩
    · split
      · exact ⟨rfl, .of_same (.refl _) rfl⟩
      · split
        · unfold Actors.endStagger
          split
          · exact hbid a
          · have hwaits := a.abides_setPhase v .awaitPermit
            obtain ⟨hstage, habides⟩ := (a.setPhase v .awaitPermit).checkAuthority_abides v
            exact ⟨hstage.trans (a.setPhase_stage v .awaitPermit), hwaits.trans habides⟩
        · exact ⟨rfl, .of_same (.refl _) rfl⟩

/-- An input that is not the channel's own leaves a HOLD channel while no SAFE wait stands. -/
theorem Actors.Settled.onInput (h : a.Settled) {j : Nat} (hj : j ≠ limitContact id) :
    (a.onInput v j).Settled ∧ Actors.Spares id a (a.onInput v j) := by
  obtain ⟨-, hstep⟩ := h.quiescent
  have hoperate : ∀ f : Driver → Driven, (f a.drv).1.hold id = a.drv.hold id →
      (a.operate v f).Settled ∧ Actors.Spares id a (a.operate v f) := by
    intro f hf
    rw [a.operate_of_no_step v f hstep]
    exact ⟨h.of_asks (a.asks_drive v f), Actors.spares_drive f hf⟩
  unfold Actors.onInput
  split
  · exact hoperate _ ((a.drv.sameBut_pduInput ..).2 id)
  · exact hoperate _ ((a.drv.sameBut_pduInput ..).2 id)
  · exact hoperate _ (a.drv.hold_holdInput_of_ne (fun heq => hj (by rw [heq]; rfl)) _)
  · exact hoperate _ (a.drv.hold_holdInput_of_ne (fun heq => hj (by rw [heq]; rfl)) _)
  · split
    · exact ⟨h.of_asks (a.asks_endGrace v), a.spares_endGrace v⟩
    · exact ⟨h, .refl id a⟩
  · split
    · exact h.localTrip
    · exact ⟨h, .refl id a⟩
  · unfold Actors.onKey
    split
    · obtain ⟨hstage, habides⟩ := a.checkAuthority_abides v
      exact ⟨h.of_reach (a.reach_checkAuthority v) hstage, habides.spares⟩
    · exact ⟨⟨h.quiescent, h.met⟩, .of_same rfl rfl⟩
  · obtain ⟨hstage, habides⟩ := a.compareBackoff_abides v
    exact ⟨h.of_reach (a.reach_compareBackoff v) hstage, habides.spares⟩
  · exact ⟨h, .refl id a⟩

theorem Actors.Settled.onInputs {is : List Nat} (h : a.Settled) (hi : ∀ j ∈ is, j ≠ limitContact id) :
    (a.onInputs v is).Settled ∧ Actors.Spares id a (a.onInputs v is) := by
  induction is generalizing a with
  | nil => exact ⟨h, .refl id a⟩
  | cons j is ih =>
    obtain ⟨hone, hspares⟩ := h.onInput (v := v) (hi j List.mem_cons_self)
    obtain ⟨hrest, hlast⟩ := ih hone fun k hk => hi k (List.mem_cons_of_mem j hk)
    exact ⟨hrest, hspares.trans hlast⟩

end

/-- A HOLD channel in RELEASING finds its input inactive outside ENERGIZING. -/
theorem State.HandsOver.released {s : State} {frame : BitVec 24} {id : HoldId} (h : s.HandsOver frame (limitContact id) false)
    (hstages : s.act.StageSound) (hcoord : s.act.coord.Sound) (hstate : s.startup.state ≠ .awaitingInputs)
    (hphase : s.act.coord.phase ≠ .energizing) (hwait : s.act.seq.safeWait = false)
    (hreleasing : (s.act.drv.hold id).state = .releasing) :
    ((s.completeScan frame).endEvent s).act.drv.hold id = (s.act.drv.hold id).released := by
  obtain ⟨l, r, hl, hr, hact⟩ := h.scanned_split
  have hsettled : s.act.Settled := ⟨hcoord.quiescent hphase, hstages.2.2.1⟩
  obtain ⟨hbefore, hspares⟩ := hsettled.onInputs (id := id) (v := s.scanView frame) fun j hj => Nat.ne_of_lt (hl j hj)
  obtain ⟨hbwait, hbhold⟩ := hspares hwait
  generalize s.act.onInputs (s.scanView frame) l = b at hact hbefore hbwait hbhold
  have hanswer := Driver.holdInput_released (d := b.drv) (id := id) (by rw [hbhold]; exact hreleasing)
  have hhanded : b.onInput (s.scanView frame) (limitContact id)
      = b.drive (s.scanView frame) fun d => d.holdInput id (((s.scanView frame).scanner.active (limitContact id))) := by
    rw [b.onInput_limit, b.operate_of_no_step _ _ hbefore.quiescent.2]
  have hc : (b.onInput (s.scanView frame) (limitContact id)).Settled ∧ (b.onInput (s.scanView frame) (limitContact id)).seq.safeWait = false
      ∧ (b.onInput (s.scanView frame) (limitContact id)).drv.hold id = (s.act.drv.hold id).released := by
    rw [hhanded, h.active]
    refine ⟨hbefore.of_asks (b.asks_drive _ _), ?_⟩
    have hdrive : b.drive (s.scanView frame) (fun d => d.holdInput id false) = b.withDrv (b.drv.setHold id (b.drv.hold id).released) := by
      unfold Actors.drive
      dsimp only
      rw [hanswer]
      rfl
    rw [hdrive]
    exact ⟨hbwait, (Driver.hold_setHold_self ..).trans (by rw [hbhold])⟩
  obtain ⟨hcSettled, hcwait, hchold⟩ := hc
  generalize b.onInput (s.scanView frame) (limitContact id) = c at hact hcSettled hcwait hchold
  obtain ⟨hafter, hlast⟩ := hcSettled.onInputs (id := id) (v := s.scanView frame) fun j hj => Nat.ne_of_gt (hr j hj)
  obtain ⟨hewait, hehold⟩ := hlast hcwait
  rw [← hact] at hafter hewait hehold
  rw [State.completeScan_of_running hstate, ((s.scanned frame).abides_endEvent s hafter.quiescent.1).hold id (.inr hewait), hehold,
    hchold]

end Sys2Proof.Machine
end


section
/-! PROOFS. Step A done: SAFE lowered to ISOLATE, and step B begun with both closes (R112, R167 to R169). -/

namespace Sys2Proof.Machine

section
variable {a : Actors} {v : View}

/-- The one release step A still awaits (R168). -/
theorem Actors.onReleased_last {id : HoldId} (hstep : a.coord.step = .a (id = .valve) (id = .coolstop)) :
    a.onReleased v id = a.stepDone v := by
  cases id with
  | valve =>
    unfold Actors.onReleased
    rw [hstep]
    rfl
  | coolstop =>
    unfold Actors.onReleased
    rw [hstep]
    rfl

/-- The acting blocks once SAFE is lowered to ISOLATE. -/
def Actors.toIsolate (a : Actors) (v : View) : Actors := { a with
  line := (a.line.setCadence v.now true).urgent v.now
  seq := { a.seq with stage := .isolate, safeWait := false }
  coord := { a.coord with step := .none } }

theorem Actors.lower_safe (hphase : a.coord.phase = .energizing) (hstage : a.seq.stage = .safe)
    (hstand : a.seq.standDown = none) (hmet : a.seq.demand.code ≤ 3) : (a.inStep .none).lower v = a.toIsolate v := by
  have hseq : ∀ q : Sequencer, q.stage = .safe → q.standDown = none → ({ q with
      stage := q.stage.lowered, safeWait := q.safeWait && q.stage.lowered = .safe
      grace := if q.stage.lowered.code < 3 then .none else q.grace, standDown := none } : Sequencer)
      = { q with stage := .isolate, safeWait := false } := by
    intro q hs hd
    cases q
    cases hs
    cases hd
    simp [Stage.lowered, Stage.code]
  rw [Actors.lower_eq (a := a.inStep .none) v hphase (by
    show a.seq.demand.code ≤ a.seq.stage.lowered.code
    rw [hstage]
    exact hmet)]
  exact congrArg (fun q => ({ a with
    line := (a.line.setCadence v.now true).urgent v.now, seq := q, coord := { a.coord with step := .none } } : Actors))
    (hseq a.seq hstage hstand)

/-- Step B begun from SAFE with both trips SPENT, both closes READY and both PDUs open. -/
theorem Actors.stepDone_safe (hphase : a.coord.phase = .energizing) (hstage : a.seq.stage = .safe)
    (hstand : a.seq.standDown = none) (hmet : a.seq.demand.code ≤ 3) (hpending : a.coord.holdPending = false)
    (htrips : ∀ p, (a.drv.pulse (.trip p)).state = .spent) (hcloses : ∀ p, (a.drv.pulse (.close p)).state = .ready)
    (h0 : v.scanner.active 0 = false) (h1 : v.scanner.active 1 = false) :
    a.stepDone v = { a.toIsolate v with
      drv := (a.drv.enqueue (.close .a) .first).enqueue (.close .b) .first
      coord := { a.coord with step := .b true true } } := by
  have hbegin : (a.toIsolate v).beginStep v = _ := Actors.beginB_of_open (a := a.toIsolate v) (htrips .a) (htrips .b)
    (hcloses .a) (hcloses .b) h0 h1
  unfold Actors.stepDone Actors.completeStep
  rw [Actors.lower_safe hphase hstage hstand hmet]
  dsimp only
  rw [if_pos (show (a.toIsolate v).coord.phase = .energizing from hphase), if_neg (by
    show ¬ a.coord.holdPending = true
    rw [hpending]
    exact nofun), Actors.runSteps_of_waiting hbegin]
  rfl

/-- A driver whose coils are off serves its first close in ENERGIZING, or waits for its gap. -/
theorem Actors.serve_close (hphase : a.coord.phase = .energizing) (hfree : a.drv.anyFiring = false) {p : Pdu}
    {rest : List PulseId} (hqueue : a.drv.pulseQueue = .close p :: rest) (hopen : pduOpen v.scanner p = true) :
    a.serve v = a ∨ a.serve v = a.withDrv (({ a.drv with pulseQueue := rest } : Driver).fire v.now (.close p)) := by
  cases hgap : a.drv.gapServed v.now with
  | true =>
    refine .inr (Actors.serve_fires hfree hgap hqueue ?_ fun _ _ => hphase)
    show (!pduOpen v.scanner p) = false
    rw [hopen]
    rfl
  | false =>
    exact .inl (Actors.serve_of_held (by rw [hgap]; simp))

end

/-! ### The two closes that step B asks for -/

def Driver.closesAsked (d : Driver) : Driver := (d.enqueue (.close .a) .first).enqueue (.close .b) .first

section
variable (d : Driver)

theorem Driver.closesAsked_trip (p : Pdu) : d.closesAsked.pulse (.trip p) = d.pulse (.trip p) := by
  unfold Driver.closesAsked
  rw [Driver.pulse_enqueue_of_ne _ (show PulseId.trip p ≠ .close .b from nofun),
    Driver.pulse_enqueue_of_ne _ (show PulseId.trip p ≠ .close .a from nofun)]

theorem Driver.closesAsked_close (p : Pdu) : (d.closesAsked.pulse (.close p)).state = .queued := by
  cases p <;> rfl

theorem Driver.closesAsked_hold (id : HoldId) : d.closesAsked.hold id = d.hold id := by
  cases id <;> rfl

theorem Driver.closesAsked_queue (h : d.pulseQueue = []) : d.closesAsked.pulseQueue = [.close .a, .close .b] := by
  show d.pulseQueue ++ [.close .a] ++ [.close .b] = _
  rw [h]
  rfl

theorem Driver.closesAsked_free (h : ∀ p, (d.pulse (.trip p)).state = .spent) : d.closesAsked.anyFiring = false :=
  Driver.anyFiring_of_none fun ch _ => by
    cases ch with
    | trip p =>
      rw [d.closesAsked_trip, h]
      exact nofun
    | close p =>
      rw [d.closesAsked_close]
      exact nofun

end

/-- With the trips SPENT and the closes READY, nothing is queued. -/
theorem Driver.PulseSound.empty {d : Driver} (h : d.PulseSound) (htrips : ∀ p, (d.pulse (.trip p)).state = .spent)
    (hcloses : ∀ p, (d.pulse (.close p)).state = .ready) : d.pulseQueue = [] := by
  obtain ⟨-, hqueue, -⟩ := h
  refine List.eq_nil_iff_forall_not_mem.2 fun ch hch => ?_
  have hqueued := (hqueue ch (mem_pulseIds ch)).1 hch
  cases ch with
  | trip p => cases (htrips p).symm.trans hqueued
  | close p => cases (hcloses p).symm.trans hqueued

/-- What the last awaited release of step A makes of the acting blocks, before the arbiter has run. -/
theorem State.HandsOver.step_a_last {s : State} {frame : BitVec 24} {id : HoldId}
    (h : s.HandsOver frame (limitContact id) false) (hphase : s.act.coord.phase = .energizing)
    (hstage : s.act.seq.stage = .safe) (hstand : s.act.seq.standDown = none)
    (hstep : s.act.coord.step = .a (id = .valve) (id = .coolstop)) (hpending : s.act.coord.holdPending = false)
    (hreleasing : (s.act.drv.hold id).state = .releasing) (hdemand : s.act.seq.demand.code ≤ 3)
    (htrips : ∀ p, (s.act.drv.pulse (.trip p)).state = .spent) (hcloses : ∀ p, (s.act.drv.pulse (.close p)).state = .ready)
    (hopen : ∀ p, (s.scanView frame).scanner.active (pduContact p) = false) :
    s.act.onInput (s.scanView frame) (limitContact id) = { s.act.toIsolate (s.scanView frame) with
      drv := (s.act.drv.setHold id (s.act.drv.hold id).released).closesAsked
      coord := { s.act.coord with step := .b true true } } := by
  generalize hd : s.act.drv.setHold id (s.act.drv.hold id).released = d
  have hpulses : ∀ ch, d.pulse ch = s.act.drv.pulse ch := fun ch => by rw [← hd]; exact Driver.pulse_setHold ..
  have hanswer := Driver.holdInput_released (d := s.act.drv) hreleasing
  rw [hd] at hanswer
  rw [s.act.onInput_limit, h.active, Actors.operate_of_one hanswer]
  refine (Actors.onReleased_last (a := s.act.withDrv d) hstep).trans ?_
  exact Actors.stepDone_safe (a := s.act.withDrv d) hphase hstage hstand hdemand hpending
    (fun p => by rw [← htrips p, ← hpulses]; rfl) (fun p => by rw [← hcloses p, ← hpulses]; rfl) (hopen .a) (hopen .b)

theorem State.HandsOver.step_a_done {s : State} {frame : BitVec 24} {id : HoldId}
    (h : s.HandsOver frame (limitContact id) false) (sound : s.Sound) (hstate : s.startup.state ≠ .awaitingInputs)
    (hstep : s.act.coord.step = .a (id = .valve) (id = .coolstop)) (hpending : s.act.coord.holdPending = false)
    (hreleasing : (s.act.drv.hold id).state = .releasing) (hdemand : s.act.seq.demand.code ≤ 3)
    (htrips : ∀ p, (s.act.drv.pulse (.trip p)).state = .spent) (hcloses : ∀ p, (s.act.drv.pulse (.close p)).state = .ready)
    (hopen : ∀ p, s.scanner.active (pduContact p) = false)
    (hothers : ∀ j ∈ List.range 16, j ≠ limitContact id → s.scanner.value j = .ofLevel (frame.getLsbD j)) :
    ∃ t, exec (.scanCompletion frame) s = .next t ∧ t = { s with scanner := t.scanner, act := t.act }
      ∧ t.act.line.urgentDue = true ∧ t.act.seq = { s.act.seq with stage := .isolate, safeWait := false }
      ∧ t.act.coord = { s.act.coord with step := .b true true }
      ∧ t.act.drv.hold id = (s.act.drv.hold id).released
      ∧ t.act.drv.closeA.state ∈ [.queued, .firing] ∧ t.act.drv.closeB.state ∈ [.queued, .firing] := by
  obtain ⟨-, -, hline, -, -, -, hpulse, -, -, -, hcoord, ⟨-, -, -, -, -, -, hat⟩, hjudged, -⟩ := sound
  obtain ⟨hexec, hkept⟩ := h.alone hstate hothers
  have hphase : s.act.coord.phase = .energizing := hcoord.1 (by rw [hstep]; exact nofun)
  have hstage : s.act.seq.stage = .safe := by
    rw [hstep] at hat
    rcases hat with hnone | hsome
    · cases hnone
    · exact (Option.some.inj hsome).symm
  have hopened : ∀ p, (s.scanView frame).scanner.active (pduContact p) = false := fun p => by
    have hsame := hkept (pduContact p) (by cases p <;> decide) (by cases p <;> cases id <;> decide)
    rw [← hopen p]
    exact congrArg (fun x => decide (x = InputValue.active)) hsame
  have hempty : s.act.drv.pulseQueue = [] := hpulse.empty htrips hcloses
  rw [h.step_a_last hphase hstage (s.standDown_of_phase hjudged (by rw [hphase]; exact nofun)) hstep hpending hreleasing
    hdemand htrips hcloses hopened] at hexec
  generalize hd : s.act.drv.setHold id (s.act.drv.hold id).released = d at hexec
  have hhold : d.closesAsked.hold id = (s.act.drv.hold id).released := by
    rw [d.closesAsked_hold, ← hd]
    exact Driver.hold_setHold_self ..
  have hqueue : d.closesAsked.pulseQueue = [.close .a, .close .b] := d.closesAsked_queue (by
    rw [← hd]
    exact (Driver.pulseQueue_setHold ..).trans hempty)
  have hfree : d.closesAsked.anyFiring = false := d.closesAsked_free fun p => by
    rw [← htrips p, ← hd, Driver.pulse_setHold]
  have hcloseA : d.closesAsked.closeA.state = .queued := d.closesAsked_close .a
  have hcloseB : d.closesAsked.closeB.state = .queued := d.closesAsked_close .b
  generalize d.closesAsked = e at hexec hhold hqueue hfree hcloseA hcloseB
  generalize hb : ({ s.act.toIsolate (s.scanView frame) with
      drv := e, coord := { s.act.coord with step := .b true true } } : Actors) = b at hexec
  have hstirred : arbiterStirred s.act.drv b.drv = true := by
    rw [← hb]
    simp [arbiterStirred, hqueue, hempty]
  have hend : ({ s with scanner := s.scanner.complete frame, act := b } : State).endEvent s
      = { s with scanner := s.scanner.complete frame, act := b.serve (s.scanView frame) } :=
    State.endEvent_of_stirred hstirred
  rw [hend] at hexec
  have hcadence : (s.act.line.setCadence s.clock true).Sound := ((LineUnit.Served.refl s.act.line).cadence true).sound hline
  have hserve := Actors.serve_close (a := b) (v := s.scanView frame) (p := .a) (rest := [.close .b])
    (by rw [← hb]; exact hphase) (by rw [← hb]; exact hfree) (by rw [← hb]; exact hqueue) (pduOpen_eq (hopened .a))
  refine ⟨_, hexec, rfl, ?_⟩
  dsimp only
  rcases hserve with hserve | hserve
  · rw [hserve, ← hb]
    exact ⟨LineUnit.urgentDue_urgent _ _ hcadence.nonempty, rfl, rfl, hhold, by rw [hcloseA]; exact List.mem_cons_self,
      by rw [hcloseB]; exact List.mem_cons_self⟩
  · rw [hserve, ← hb]
    refine ⟨LineUnit.urgentDue_urgent _ _ hcadence.nonempty, rfl, rfl, ?_, List.mem_cons_of_mem _ List.mem_cons_self, ?_⟩
    · refine Eq.trans ?_ hhold
      cases id <;> rfl
    · show e.closeB.state ∈ _
      rw [hcloseB]
      exact List.mem_cons_self

end Sys2Proof.Machine
end


section
/-! PROOFS. Good scans, whole: the records they leave (R143, R145, R146) and what the acting blocks make of a change or of the
fault's end (R133, R134, R136, R147 to R149, R160). -/

namespace Sys2Proof.Machine

/-! ### The records -/

section
variable {s : State} {frame : BitVec 24} {i : Nat} {c : ContactInput}

/-- A good scan outside a fault, record by record. -/
theorem State.exec_scan_good (hsound : s.scanner.Sound) (hscanning : s.scanner.scanning = true)
    (hgood : frame.extractLsb' 16 8 = 0x2D) (hfault : s.scanner.fault = false) (hc : s.scanner.inputs[i]? = some c) :
    ∃ t, exec (.scanCompletion frame) s = .next t ∧ t = { s with scanner := t.scanner, startup := t.startup, act := t.act }
      ∧ t.scanner.fault = false ∧ t.scanner.badScans = 0 ∧ t.scanner.scanning = false
      ∧ t.scanner.timer = s.scanner.timer ∧ t.scanner.inputs.length = 16
      ∧ t.scanner.inputs[i]? = some
        (if c.value = .ofLevel (frame.getLsbD i) then ⟨c.value, none, 0⟩
          else if c.candidate = some (frame.getLsbD i) then
            if c.agreement = 2 then ⟨.ofLevel (frame.getLsbD i), none, 0⟩ else ⟨c.value, c.candidate, c.agreement + 1⟩
          else ⟨c.value, some (frame.getLsbD i), 1⟩) := by
  obtain ⟨hlen, -, -, -, -, hcounts, -⟩ := hsound
  obtain ⟨t, hexec, hsame, hscanner⟩ := State.exec_scan_frame hscanning frame
  refine ⟨t, hexec, hsame, ?_⟩
  rw [hscanner, Scanner.complete_good hfault hgood]
  exact ⟨hfault, rfl, rfl, rfl, adopted_length frame hlen,
    adopted_getElem? hlen hc ((hcounts hfault).2 c (List.mem_of_getElem? hc))⟩

/-- A good scan in a fault that leaves the fault standing: no value changes, and the acting blocks hear nothing. -/
theorem State.exec_scan_recovering (hsound : s.scanner.Sound) (hscanning : s.scanner.scanning = true)
    (hgood : frame.extractLsb' 16 8 = 0x2D) (hfault : s.scanner.fault = true) (hrun : s.scanner.recovery < 2)
    (hc : s.scanner.inputs[i]? = some c) :
    ∃ t, exec (.scanCompletion frame) s = .next t ∧ t = { s with scanner := t.scanner }
      ∧ t.scanner.fault = true ∧ t.scanner.badScans = 3 ∧ t.scanner.recovery = s.scanner.recovery + 1
      ∧ t.scanner.scanning = false ∧ t.scanner.timer = s.scanner.timer ∧ t.scanner.inputs.length = 16
      ∧ t.scanner.inputs[i]? = some
        (if c.value = .ofLevel (frame.getLsbD i) then ⟨c.value, none, 0⟩
          else if c.candidate = some (frame.getLsbD i) then ⟨c.value, c.candidate, c.agreement + 1⟩
          else ⟨c.value, some (frame.getLsbD i), 1⟩) := by
  obtain ⟨hlen, -, hbad, -, -, -, -, hknown, -⟩ := hsound
  have hcomplete := (Scanner.complete_recover hfault hgood).trans (if_pos hrun)
  have hvalues := value_of_compared (new := s.scanner.complete frame) hlen (by rw [hcomplete])
  refine ⟨_, State.exec_scan_quiet hscanning (by rw [hcomplete]) hvalues
    ((Scanner.known_complete (hknown hfault) frame).trans (hknown hfault).symm), rfl, ?_⟩
  dsimp only
  rw [hcomplete]
  exact ⟨hfault, hbad.1 hfault, rfl, rfl, rfl, compareAll_length frame hlen,
    (compareAll_getElem? (Scanner.inputs_lt hlen hc) hc).trans (congrArg some (c.compare_eq _))⟩

/-- The scan that ends a fault, record by record. -/
theorem State.exec_scan_recovered (hsound : s.scanner.Sound) (hscanning : s.scanner.scanning = true)
    (hgood : frame.extractLsb' 16 8 = 0x2D) (hfault : s.scanner.fault = true) (hrun : s.scanner.recovery = 2)
    (hc : s.scanner.inputs[i]? = some c) :
    ∃ t, exec (.scanCompletion frame) s = .next t ∧ t = { s with scanner := t.scanner, startup := t.startup, act := t.act }
      ∧ t.scanner.fault = false ∧ t.scanner.badScans = 0 ∧ t.scanner.recovery = 0 ∧ t.scanner.scanning = false
      ∧ t.scanner.inputs.length = 16
      ∧ t.scanner.inputs[i]? = some
        (if c.value = .ofLevel (frame.getLsbD i) then ⟨c.value, none, 0⟩
          else if c.candidate = some (frame.getLsbD i) then
            if c.agreement = 2 then ⟨.ofLevel (frame.getLsbD i), none, 0⟩ else ⟨c.value, c.candidate, c.agreement + 1⟩
          else ⟨c.value, some (frame.getLsbD i), 1⟩) := by
  have hends := State.EndsFault.of_third hsound hscanning hgood hfault hrun
  obtain ⟨hlen, -, -, -, -, -, hcounts, -⟩ := hsound
  obtain ⟨t, hexec, hsame, hscanner⟩ := State.exec_scan_frame hscanning frame
  refine ⟨t, hexec, hsame, ?_⟩
  rw [hscanner, hends.complete]
  exact ⟨rfl, rfl, rfl, rfl, adopted_length frame hlen,
    adopted_getElem? hlen hc ((hcounts hfault c (List.mem_of_getElem? hc)).trans hrun.le)⟩

end

/-! ### The change handed over -/

section
variable {s : State} {frame : BitVec 24} {i : Nat} {level : Bool}

theorem State.HandsOver.outcome (h : s.HandsOver frame i level) :
    exec (.scanCompletion frame) s = .next ((s.completeScan frame).endEvent s) := State.exec_scan h.scanning frame

theorem State.HandsOver.outcome_scanner (h : s.HandsOver frame i level) :
    ((s.completeScan frame).endEvent s).scanner = s.scanner.complete frame := by
  obtain ⟨t, hexec, -, hscanner⟩ := State.exec_scan_frame h.scanning frame
  obtain rfl := Host.Outcome.next.inj (h.outcome.symm.trans hexec)
  exact hscanner

theorem State.HandsOver.key_turned (h : s.HandsOver frame 7 true) (hline : s.act.line.Sound)
    (hstate : s.startup.state ≠ .awaitingInputs) (hphase : s.act.coord.phase = .awaitPermit)
    (hleave : s.act.coord.keyWithheld = false ∨ (s.act.coord.permit = true ∧ s.act.line.stuck = false))
    (hmute : s.act.line.mute = none)
    (hothers : ∀ j ∈ List.range 16, j ≠ 7 → s.scanner.value j = .ofLevel (frame.getLsbD j)) :
    ∃ t, exec (.scanCompletion frame) s = .next t
      ∧ t = { s with
        scanner := t.scanner
        act := { s.act with
          line := t.act.line
          seq := { s.act.seq with standDown := none }
          coord := { s.act.coord with phase := .bidding, quietStart := none, stagger := none } } }
      ∧ t.scanner.active 7 = true ∧ t.act.line.urgentDue = true ∧ t.act.line.restartAsked .bid = true := by
  obtain ⟨hexec, -⟩ := h.alone hstate hothers
  obtain ⟨-, hdue, hasked⟩ := hline.bid s.clock
  rw [State.key_gives_leave h hphase hleave hmute] at hexec
  exact ⟨_, hexec.trans (congrArg Host.Outcome.next (State.endEvent_of_calm _ s rfl rfl)), rfl, h.active, hdue, hasked⟩

theorem State.HandsOver.key_in_vain (h : s.HandsOver frame 7 true) (hstate : s.startup.state ≠ .awaitingInputs)
    (hfails : s.act.coord.phase ≠ .awaitPermit ∨ s.act.line.mute ≠ none
      ∨ (s.act.coord.keyWithheld = true ∧ (s.act.coord.permit = false ∨ s.act.line.stuck = true)))
    (hothers : ∀ j ∈ List.range 16, j ≠ 7 → s.scanner.value j = .ofLevel (frame.getLsbD j)) :
    ∃ t, exec (.scanCompletion frame) s = .next t ∧ t = { s with scanner := t.scanner } ∧ t.scanner.active 7 = true := by
  obtain ⟨hexec, -⟩ := h.alone hstate hothers
  rw [State.key_gives_no_leave h hfails] at hexec
  exact ⟨_, hexec.trans (congrArg Host.Outcome.next (State.endEvent_of_calm _ s rfl rfl)), rfl, h.active⟩

end

/-! ### The channels at the fault's end -/

theorem PulseChannel.rearmable_iff (c : PulseChannel) : c.Rearmable ↔ c.state ∈ [.ready, .spent, .failed] := by
  simp [PulseChannel.Rearmable]

section
variable {s : State} {frame : BitVec 24}

theorem State.EndsFault.pulse_flag (h : s.EndsFault frame) (hphase : s.act.coord.phase ≠ .energizing) (id : PulseId) :
    (((s.scanned frame).endEvent s).act.drv.pulse id).failed
      = ((s.act.drv.pulse id).judged (awaitedHolds (s.scanner.complete frame) id)).failed :=
  h.under hphase (Driver.kept_flag _ _ id _) (Driver.keptServing_flag _ _ id _) (Driver.keptBy_flag _ _ id _)
    (Driver.faultEnds_failed _ _ _ s.act.drv id)

theorem State.EndsFault.hold_judged (h : s.EndsFault frame) (hphase : s.act.coord.phase ≠ .energizing) (id : HoldId) :
    (((s.scanned frame).endEvent s).act.drv.hold id).Judged
      ((s.act.drv.hold id).judgedFlag ((s.scanner.complete frame).active (limitContact id))) :=
  h.under hphase (Driver.kept_judged _ h.calm id _) (Driver.keptServing_judged _ _ id _) (Driver.keptBy_judged _ _ id _)
    (Driver.faultEnds_hold _ _ _ s.act.drv id)

theorem Driver.PulseSound.not_queued {d : Driver} (h : d.PulseSound) {id : PulseId} (hstate : (d.pulse id).state ≠ .queued) :
    id ∉ d.pulseQueue :=
  fun hin => hstate ((h.2.1 id (mem_pulseIds id)).1 hin)

theorem State.EndsFault.close_judged (h : s.EndsFault frame) (hpulse : s.act.drv.PulseSound)
    (hphase : s.act.coord.phase ≠ .energizing) {p : Pdu} (hspent : (s.act.drv.pulse (.close p)).state = .spent)
    (hmark : (s.act.drv.pulse (.close p)).unconfirmed = true) :
    Driver.Closed p ((s.act.drv.pulse (.close p)).judged (!pduOpen (s.scanner.complete frame) p))
      (pduOpen (s.scanner.complete frame) p = false ∧ (s.act.drv.pulse (.trip p)).Rearmable)
      ((s.scanned frame).endEvent s).act.drv :=
  h.under hphase (Driver.kept_closed hspent) (Driver.keptServing_closed And.left) (fun i => Driver.keptBy_closed _ i hspent)
    (Driver.faultEnds_closed _ _ s.act.drv p hspent hmark (hpulse.not_queued (by rw [hspent]; exact nofun)))

theorem State.EndsFault.trip_judged (h : s.EndsFault frame) (hpulse : s.act.drv.PulseSound)
    (hphase : s.act.coord.phase ≠ .energizing) {p : Pdu} (hspent : (s.act.drv.pulse (.trip p)).state = .spent)
    (hclose : (s.act.drv.pulse (.close p)).state = .ready) :
    Driver.Tripped p ((s.act.drv.pulse (.trip p)).judged (pduOpen (s.scanner.complete frame) p))
      ((s.scanned frame).endEvent s).act.drv :=
  h.under hphase (Driver.kept_tripped hspent) Driver.keptServing_tripped (fun i => Driver.keptBy_tripped _ i hspent)
    (Driver.faultEnds_tripped _ _ _ s.act.drv p hclose (hpulse.not_queued (by rw [hspent]; exact nofun))
      (hpulse.not_queued (by rw [hclose]; exact nofun)))

end

/-- What the fault's end leaves of the channels' marks and flags, a SPENT close and its trip among them. -/
theorem State.EndsFault.channels {s : State} {frame : BitVec 24} (h : s.EndsFault frame) (hpulse : s.act.drv.PulseSound)
    (hphase : s.act.coord.phase ≠ .energizing) :
    ∃ t, exec (.scanCompletion frame) s = .next t
      ∧ (∀ id ∈ pulseIds, (t.act.drv.pulse id).failed = ((s.act.drv.pulse id).failed
        || ((s.act.drv.pulse id).state = .spent && (s.act.drv.pulse id).unconfirmed && !awaitedHolds t.scanner id)))
      ∧ (∀ id ∈ holdIds, (t.act.drv.hold id).unconfirmed = false
        ∧ (t.act.drv.hold id).failed = (s.act.drv.hold id).judgedFlag (t.scanner.active (limitContact id)))
      ∧ (∀ p ∈ [Pdu.a, .b], (s.act.drv.pulse (.close p)).state = .spent → (s.act.drv.pulse (.close p)).unconfirmed = true →
        (t.act.drv.pulse (.close p)).state = .spent ∧ (t.act.drv.pulse (.close p)).unconfirmed = false
        ∧ (t.scanner.active (pduContact p) = true → (s.act.drv.pulse (.trip p)).state ∈ [.ready, .spent, .failed] →
          (t.act.drv.pulse (.trip p)).state ∈ [.queued, .firing]))
      ∧ (∀ p ∈ [Pdu.a, .b], (s.act.drv.pulse (.trip p)).state = .spent → (s.act.drv.pulse (.trip p)).unconfirmed = true →
        (s.act.drv.pulse (.close p)).state = .ready →
        (t.act.drv.pulse (.trip p)).state = .spent ∧ (t.act.drv.pulse (.trip p)).unconfirmed = false) := by
  have hscanner : ((s.scanned frame).endEvent s).scanner = s.scanner.complete frame := by
    rw [State.endEvent_eq]
    rfl
  refine ⟨_, h.outcome, fun id _ => ?_, fun id _ => ?_, fun p _ hspent hmark => ?_, fun p _ hspent _ hclose => ?_⟩
  · rw [hscanner]
    exact h.pulse_flag hphase id
  · rw [hscanner]
    exact h.hold_judged hphase id
  · obtain ⟨hrecord, -, hasked⟩ := h.close_judged hpulse hphase hspent hmark
    refine ⟨by rw [hrecord]; exact hspent, by rw [hrecord]; rfl, fun hactive htrip => ?_⟩
    rw [hscanner] at hactive
    simpa using hasked ⟨pduOpen_eq hactive, (PulseChannel.rearmable_iff _).2 htrip⟩
  · obtain ⟨hrecord, -⟩ := h.trip_judged hpulse hphase hspent hclose
    exact ⟨by rw [hrecord]; exact hspent, by rw [hrecord]; rfl⟩

/-! ### The obligation -/

/-- Settles O43: the records of the three kinds of good scan, then each change handed over, then the fault's end. -/
theorem goodScansDebounceTheInputs : Obligations.GoodScansDebounceTheInputs := by
  unfold Obligations.GoodScansDebounceTheInputs
  refine ⟨fun s frame i c hsound hscanning hgood hfault hc => State.exec_scan_good hsound hscanning hgood hfault hc,
    fun s frame i c hsound hscanning hgood hfault hrun hc =>
      State.exec_scan_recovering hsound hscanning hgood hfault hrun hc,
    fun s frame i c hsound hscanning hgood hfault hrun hc =>
      State.exec_scan_recovered hsound hscanning hgood hfault hrun hc,
    fun s frame c hsound hscanning hgood hfault hc hvalue hcandidate hagreement hbit => ?button,
    fun s frame c hsound hscanning hgood hfault hc hvalue hcandidate hagreement hbit => ?keyOff,
    fun s frame hsound hscanning hgood hpulse hfault hrun hphase =>
      (State.EndsFault.of_third hsound hscanning hgood hfault hrun).channels hpulse hphase,
    fun s frame c expiry hsound hscanning hgood hpulse hcoord hfault hstate hphase hgrace hc hvalue hcandidate hagreement
      hbit => ?cut,
    fun s frame id c hsound hscanning hgood hfault hstate hon hc hvalue hcandidate hagreement hbit => ?limit,
    fun s frame id c hsound hscanning hgood hstages hcoord hfault hstate hphase hwait hreleasing hc hvalue hcandidate
      hagreement hbit => ?released,
    fun s frame p c hsound hscanning hgood hfault hchecking hc hvalue hcandidate hagreement hbit => ?opened,
    fun s frame p c hsound hscanning hgood hpulse hcoord hfault hphase hchecking hc hvalue hcandidate hagreement hbit =>
      ?closed,
    fun s frame id c hsound hscanning hgood hfault hstate _ hstep hreleasing hc hvalue hcandidate hagreement hbit hothers =>
      ?stepA,
    fun s frame id c sound hscanning hgood hfault hstate hstep hpending hreleasing hdemand htripA htripB hcloseA hcloseB
      hopenA hopenB hc hvalue hcandidate hagreement hbit hothers => ?stepADone,
    fun s frame p c closeA closeB hsound hscanning hgood hfault hstate hphase hstep hawaited hclose htrip hc hvalue
      hcandidate hagreement hbit hothers => ?stepB,
    fun s frame c hsound hscanning hgood hline hfault hstate hphase hleave hmute hc hvalue hcandidate hagreement hbit
      hothers => ?keyOn,
    fun s frame c hsound hscanning hgood hfault hstate hfails hc hvalue hcandidate hagreement hbit hothers => ?keyInVain,
    fun s frame hsound hscanning hgood hline hcoord hfault hrun hphase hsame =>
      (State.EndsFault.of_third hsound hscanning hgood hfault hrun).leave hline hcoord hphase hsame⟩
  case button =>
    have h : s.HandsOver frame 6 true := .of_third hsound hscanning hgood hfault hc hvalue hcandidate hagreement hbit
    exact ⟨_, h.outcome, by rw [h.outcome_scanner]; exact h.active, h.button_pressed⟩
  case keyOff =>
    have h : s.HandsOver frame 7 false :=
      .of_third hsound hscanning hgood hfault hc (by rw [hvalue]; exact nofun) hcandidate hagreement hbit
    exact ⟨_, h.outcome, by rw [h.outcome_scanner]; exact h.value, h.key_released⟩
  case cut =>
    have h : s.HandsOver frame 5 true := .of_third hsound hscanning hgood hfault hc hvalue hcandidate hagreement hbit
    obtain ⟨hended, hasked⟩ := h.grace_cut hcoord hstate hphase hgrace
    exact ⟨_, h.outcome, hended, hasked .a, hasked .b⟩
  case limit =>
    have h : s.HandsOver frame (limitContact id) true :=
      .of_third hsound hscanning hgood hfault hc hvalue hcandidate hagreement hbit
    exact ⟨_, h.outcome, h.limit_reached hstate hon⟩
  case released =>
    have h : s.HandsOver frame (limitContact id) false :=
      .of_third hsound hscanning hgood hfault hc hvalue hcandidate hagreement hbit
    exact ⟨_, h.outcome, h.released hstages hcoord hstate hphase hwait hreleasing⟩
  case opened =>
    have h : s.HandsOver frame (pduContact p) false :=
      .of_third hsound hscanning hgood hfault hc hvalue hcandidate hagreement hbit
    exact ⟨_, h.outcome, h.trip_opened hchecking⟩
  case closed =>
    have h : s.HandsOver frame (pduContact p) true :=
      .of_third hsound hscanning hgood hfault hc hvalue hcandidate hagreement hbit
    obtain ⟨hrecord, -, hasked⟩ := h.close_closed hpulse hcoord hphase hchecking
    exact ⟨_, h.outcome, hrecord, fun htrip => by simpa using hasked ((PulseChannel.rearmable_iff _).2 htrip)⟩
  case stepA =>
    have h : s.HandsOver frame (limitContact id) false :=
      .of_third hsound hscanning hgood hfault hc hvalue hcandidate hagreement hbit
    exact ⟨_, h.release_awaited hstate hstep hreleasing hothers, rfl⟩
  case stepADone =>
    obtain ⟨-, -, -, -, -, hsound, -⟩ := (show s.Sound from sound)
    have h : s.HandsOver frame (limitContact id) false :=
      .of_third hsound hscanning hgood hfault hc hvalue hcandidate hagreement hbit
    exact h.step_a_done sound hstate hstep hpending hreleasing hdemand (fun p => by cases p <;> assumption)
      (fun p => by cases p <;> assumption) (fun p => by cases p <;> assumption) hothers
  case stepB =>
    have h : s.HandsOver frame (pduContact p) true :=
      .of_third hsound hscanning hgood hfault hc hvalue hcandidate hagreement hbit
    exact ⟨_, h.close_awaited hstate hphase hstep hawaited hclose htrip hothers, rfl⟩
  case keyOn =>
    have h : s.HandsOver frame 7 true := .of_third hsound hscanning hgood hfault hc hvalue hcandidate hagreement hbit
    exact h.key_turned hline hstate hphase hleave hmute hothers
  case keyInVain =>
    have h : s.HandsOver frame 7 true := .of_third hsound hscanning hgood hfault hc hvalue hcandidate hagreement hbit
    exact h.key_in_vain hstate hfails hothers

end Sys2Proof.Machine
end
